-- ==== Sys2Proof/Word.lean ====
section
/-! DEFINITION. The widths of the TB-40's world: bytes on its wires, and the bays. -/

namespace Sys2Proof

/-- A byte as a station port or the bay loop carries it (spec 11, R190). -/
abbrev Byte := BitVec 8

/-- A bay number, 0 to 31 (spec 00, Numbering). -/
abbrev Bay := Fin 32

/-- A set of bays: bay `n` is bit `n` (spec 11, R190). -/
abbrev BaySet := BitVec 32

/-- A set of event kinds: kind `k` is bit `k` (spec 11, R190; spec 10, R184). -/
abbrev KindSet := BitVec 18

/-- A set of clearance reasons: reason `k` is bit `k` in the order of spec 08, R152. -/
abbrev ReasonSet := BitVec 18

/-- A moment or a length of the part's own time, in microseconds (spec 03, R48). -/
abbrev Moment := Nat

end Sys2Proof
end

