-- ==== Sys2Proof/Config.lean ====
section
/-! DEFINITION. The fixed figures of the TB-40 and the free values the spec leaves open. -/

namespace Sys2Proof.Config

/-- The largest depot minute (spec 03, R46). -/
abbrev maxMinute : Nat := 16777215

/-- A budget's largest value (spec 03, R49). -/
abbrev maxBudget : Nat := 16000

/-- The service reserve's largest value (spec 03, R53). -/
abbrev maxReserve : Nat := 400

/-- The entries of the Fault Pool (spec 06, R114). -/
abbrev poolSize : Nat := 512

/-- The free count at or below which the pool is low (spec 06, R126). -/
abbrev lowMark : Nat := 32

/-- The longest deferral, one week of minutes (spec 06, R130). -/
abbrev maxDeferral : Nat := 10080

/-- The longest planned lead in minutes (spec 04, R75). -/
abbrev maxLead : Nat := 480

/-- A microsecond count of one millisecond. -/
abbrev ms : Nat := 1000

/-- A microsecond count of one second. -/
abbrev sec : Nat := 1000000

/-- One byte on the bay loop, start and stop bits included (spec 11, 11.3). -/
abbrev loopByte : Nat := 40

/-- FREE VALUE. The byte that stands for a moment in a read response (the two times of last increase, the
latest STAGE asked): R190 gives such a value one byte and no rule says what it counts. Arguments: the moment
(`none` is long past) and the moment of the read. Log entry 20. -/
opaque momentByte : Option Nat → Nat → BitVec 8

/-- FREE VALUE. Whether the seconds left on a running timer are shown rounded up (`true`) or down when they
are not whole. Log entry 21. -/
opaque secondsRoundUp : Bool

end Sys2Proof.Config
end

