-- ==== Sys2Proof/Syntax.lean ====
section
/-! DEFINITION. The commands of the TB-40: one constructor of `Instr` for each row of the operation table, with the
operands its rule names. -/

namespace Sys2Proof

/-- The three station ports (spec 09). -/
inductive Port where
  | schedule | dispatch | workshop
  deriving DecidableEq, Repr

/-- The class of a fault entry, lowest first (spec 06, R115). -/
inductive FaultClass where
  | info | advisory | blocking
  deriving DecidableEq, Repr

/-- The class of a lamp step (spec 05, R92). -/
inductive StepClass where
  | blocking | advisory
  deriving DecidableEq, Repr

/-- A heat profile (spec 04, R68). -/
structure HeatProfile where
  stages : Nat
  power : Nat
  gain : Nat
  loss : Nat
  margin : Nat
  hysteresis : Nat
  deriving DecidableEq, Repr

/-- A step of a lamp plan (spec 05, R92). -/
structure LampStep where
  circuit : Nat
  low : Nat
  high : Nat
  settle : Nat
  cls : StepClass
  deriving DecidableEq, Repr

/-- The depot settings a CONFIGURE_BAY may carry, each present or absent (spec 09, R176). -/
structure SettingsPart where
  restoreDelay : Option Nat
  lampValidity : Option Nat
  recordBudget : Option Nat
  clearanceValidity : Option Nat
  releaseWindow : Option Nat
  deriving DecidableEq, Repr

/-- One kind named by an ACK_EVENTS, with its bay set (a kind with a bay) or its post count (any other kind
number) (spec 10, R187; spec 11, R190). -/
structure AckItem where
  kind : Nat
  bays : BaySet
  count : Nat
  deriving DecidableEq, Repr

/-- The five sorts of entry a bay may have in the pending list, in the order of the arbiter's last tie
(spec 02, 2.6 and R43). -/
inductive LoopSort where
  | stage | latch | lamp | reader | poll
  deriving DecidableEq, Repr

/-- The commands, in the order of the operation table. A request row carries the port it comes in on, the bay
byte where its kind names a bay, and its parameters. A row of the part's own carries the bay, slot or sort it
concerns, and a row of the loop the bytes heard. -/
inductive Instr where
  | reset
  | resetEnd
  | secondsTick
  | minuteAdvance
  | shedAsserted
  | shedDeasserted
  | restoreDelayEnd
  | chipSelectPeriod (port : Port) (answeredDuring : Bool) (bytes : List Byte)
  | setClock (port : Port) (minute : Nat)
  | setOutside (port : Port) (temperature : Int)
  | setBudget (port : Port) (normal : Option Nat) (shed : Option Nat)
  | setReserve (port : Port) (units : Nat)
  | configureBayOutOfService (port : Port) (bay : Nat)
  | configureBayInService (port : Port) (bay : Nat)
  | configureBayLampPlanOverride (port : Port) (bay : Nat) (plan : Option Nat)
  | configureBayQuota (port : Port) (bay : Nat) (quota : Nat)
  | configureBayDepotSettings (port : Port) (bay : Nat) (settings : SettingsPart)
  | loadProfile (port : Port) (coachType : Nat) (profile : HeatProfile)
  | loadLampPlan (port : Port) (plan : Nat) (steps : List LampStep)
  | setDeparture (port : Port) (bay : Nat) (minute : Nat) (target : Int) (expected : Nat)
  | cancelDeparture (port : Port) (bay : Nat)
  | requestClearance (port : Port) (bay : Nat) (waiveHeat : Bool)
  | release (port : Port) (bay : Nat)
  | withdrawClearance (port : Port) (bay : Nat)
  | readDepartures (port : Port) (index : Nat)
  | startLampCheck (port : Port) (bay : Nat)
  | abortLampCheck (port : Port) (bay : Nat)
  | readFaults (port : Port) (bay : Nat) (index : Nat)
  | deferFault (port : Port) (bay : Nat) (source : Nat) (code : Nat) (until_ : Nat)
  | clearFault (port : Port) (bay : Nat) (source : Nat) (code : Nat)
  | rereadFaults (port : Port) (bay : Nat)
  | placeHold (port : Port) (bay : Nat) (tag : Nat) (reason : Nat)
  | liftHold (port : Port) (bay : Nat) (tag : Nat)
  | readBay (port : Port) (bay : Nat)
  | readSupply (port : Port) (part : Nat)
  | readEvents (port : Port)
  | ackEvents (port : Port) (items : List AckItem)
  | setEventMask (port : Port) (kinds : Nat)
  | setQuiet (port : Port) (on : Bool)
  | arbiterChoice
  | pollDue (bay : Bay)
  | probeDue (bay : Bay)
  | replyTaken (bytes : List Byte)
  | malformedReply (bytes : List Byte)
  | replyTimeout
  | retryQuietEnd
  | busyWaitEnd (bay : Bay) (sort : LoopSort)
  | busyPersistTimeout (bay : Bay) (sort : LoopSort)
  | nodeLoss (bay : Bay)
  | arrival (bay : Bay)
  | cleanDeparture (bay : Bay)
  | unreleasedDeparture (bay : Bay)
  | stageIncrease
  | stuckContactor (bay : Bay)
  | lampSlotTaken
  | lampCheckRunning (slot : Fin 4)
  | lampSampleInterval (slot : Fin 4)
  | lampOffRetry (bay : Bay)
  | visitBegin
  | wakeSettleEnd
  | failedVisitsLimit
  | readerResume
  | stopLimitExpiry (bay : Bay)
  | latchLimitExpiry (bay : Bay)
  | releaseWindowExpiry (bay : Bay)
  | relatchRetry (bay : Bay)
  | clearanceValidityExpiry (bay : Bay)
  deriving DecidableEq, Repr

end Sys2Proof
end

