-- ==== Sys2Proof/WellFormed.lean ====
section
/-! DEFINITION. Well-formed commands: every operand of a request fits the width spec 11, R190 gives it on the wire.
Ranges narrower than the wire are judged by the meanings, which answer OUT_OF_RANGE or clamp. -/

namespace Sys2Proof

/-- The value fits one byte. -/
def fitsByte (n : Nat) : Bool := n < 256

/-- The value fits two bytes. -/
def fitsWord (n : Nat) : Bool := n < 65536

/-- The value fits four bytes. -/
def fitsLong (n : Nat) : Bool := n < 4294967296

/-- The value fits a temperature, two bytes in two's complement. -/
def fitsTemperature (t : Int) : Bool := -32768 ≤ t ∧ t ≤ 32767

/-- An optional value fits when it is absent or its value fits. -/
def fitsOption (fits : Nat → Bool) : Option Nat → Bool
  | none => true
  | some n => fits n

/-- The fields of a heat profile at the widths of LOAD_PROFILE. -/
def HeatProfile.fits (p : HeatProfile) : Bool :=
  fitsByte p.stages && fitsWord p.power && fitsByte p.gain && fitsByte p.loss && fitsByte p.margin &&
    fitsByte p.hysteresis

/-- The fields of a lamp step at the widths of LOAD_LAMP_PLAN. -/
def LampStep.fits (t : LampStep) : Bool :=
  fitsByte t.circuit && fitsWord t.low && fitsWord t.high && fitsByte t.settle

/-- The depot settings at the widths of CONFIGURE_BAY. -/
def SettingsPart.fits (p : SettingsPart) : Bool :=
  fitsOption fitsWord p.restoreDelay && fitsOption fitsWord p.lampValidity && fitsOption fitsByte p.recordBudget &&
    fitsOption fitsByte p.clearanceValidity && fitsOption fitsWord p.releaseWindow

/-- One named kind of ACK_EVENTS: a kind number and a post count of one byte each. -/
def AckItem.fits (a : AckItem) : Bool := fitsByte a.kind && fitsByte a.count

/-- Every operand of the command fits its width on the wire. -/
def Instr.wf : Instr → Bool
  | .reset => true
  | .resetEnd => true
  | .secondsTick => true
  | .minuteAdvance => true
  | .shedAsserted => true
  | .shedDeasserted => true
  | .restoreDelayEnd => true
  | .chipSelectPeriod _ _ _ => true
  | .setClock _ minute => fitsLong minute
  | .setOutside _ t => fitsTemperature t
  | .setBudget _ normal shed => fitsOption fitsWord normal && fitsOption fitsWord shed
  | .setReserve _ units => fitsWord units
  | .configureBayOutOfService _ bay => fitsByte bay
  | .configureBayInService _ bay => fitsByte bay
  | .configureBayLampPlanOverride _ bay plan => fitsByte bay && fitsOption (fun n => n < 255) plan
  | .configureBayQuota _ bay quota => fitsByte bay && fitsByte quota
  | .configureBayDepotSettings _ bay settings => fitsByte bay && settings.fits
  | .loadProfile _ coachType profile => fitsByte coachType && profile.fits
  | .loadLampPlan _ plan steps => fitsByte plan && steps.length ≤ 16 && steps.all LampStep.fits
  | .setDeparture _ bay minute target expected =>
    fitsByte bay && fitsLong minute && fitsTemperature target && fitsWord expected
  | .cancelDeparture _ bay => fitsByte bay
  | .requestClearance _ bay _ => fitsByte bay
  | .release _ bay => fitsByte bay
  | .withdrawClearance _ bay => fitsByte bay
  | .readDepartures _ index => fitsByte index
  | .startLampCheck _ bay => fitsByte bay
  | .abortLampCheck _ bay => fitsByte bay
  | .readFaults _ bay index => fitsByte bay && fitsByte index
  | .deferFault _ bay source code until_ => fitsByte bay && fitsByte source && fitsWord code && fitsLong until_
  | .clearFault _ bay source code => fitsByte bay && fitsByte source && fitsWord code
  | .rereadFaults _ bay => fitsByte bay
  | .placeHold _ bay tag reason => fitsByte bay && fitsByte tag && fitsByte reason
  | .liftHold _ bay tag => fitsByte bay && fitsByte tag
  | .readBay _ bay => fitsByte bay
  | .readSupply _ part => fitsByte part
  | .readEvents _ => true
  | .ackEvents _ items => items.length < 256 && items.all AckItem.fits
  | .setEventMask _ kinds => kinds < 16777216
  | .setQuiet _ _ => true
  | .arbiterChoice => true
  | .pollDue _ => true
  | .probeDue _ => true
  | .replyTaken _ => true
  | .malformedReply _ => true
  | .replyTimeout => true
  | .retryQuietEnd => true
  | .busyWaitEnd _ _ => true
  | .busyPersistTimeout _ _ => true
  | .nodeLoss _ => true
  | .arrival _ => true
  | .cleanDeparture _ => true
  | .unreleasedDeparture _ => true
  | .stageIncrease => true
  | .stuckContactor _ => true
  | .lampSlotTaken => true
  | .lampCheckRunning _ => true
  | .lampSampleInterval _ => true
  | .lampOffRetry _ => true
  | .visitBegin => true
  | .wakeSettleEnd => true
  | .failedVisitsLimit => true
  | .readerResume => true
  | .stopLimitExpiry _ => true
  | .latchLimitExpiry _ => true
  | .releaseWindowExpiry _ => true
  | .relatchRetry _ => true
  | .clearanceValidityExpiry _ => true

end Sys2Proof
end

