-- ==== Sys2Proof/Decode.lean ====
section
/-! DEFINITION. The reading of table words. The rows of the TB-40's table are operations and events, none of them
gives bits, so no word spells a command (spec/opcode_table.json: every row's fields are empty). -/

namespace Sys2Proof

/-- The command a word of `nbits` bits spells: none, since no row of the table gives bits. -/
def decodeTableWord (nbits w : Nat) : Option Instr :=
  match nbits, w with
  | _, _ => none

end Sys2Proof
end

