-- ==== Sys2Proof/Machine/State.lean ====
section
/-! DEFINITION. The state of the TB-40 as plain data, everything the spec gives the part, and its value after reset. -/

namespace Sys2Proof.Machine

/-- Why a command stops with a fault. The spec gives the TB-40 no condition that stops it and every command has its
effect, so no fault is ever raised (safe: nothing can be proved from one). Log entry 22. -/
inductive Fault where
  deriving DecidableEq, Repr

/-- Why a command is refused by the model. -/
inductive Refusal where
  /-- Raised by `exec` alone, for a row that has no meaning yet; no row is left without one. Safe: it stops. -/
  | notModelled (mnemonic : String)
  deriving DecidableEq, Repr

/-! ### Names of the part's own -/

/-- Occupancy (spec 01, R1). -/
inductive Occupancy where
  | outOfService | vacant | arriving | present | lost
  deriving DecidableEq, Repr

/-- The kind of the last departure (spec 01, R1). -/
inductive DepartureKind where
  | clean | unreleased | unobserved
  deriving DecidableEq, Repr

/-- The plug switch of a POLL reply (spec 02, R30; spec 11, R191). -/
inductive Plug where
  | out | in_
  deriving DecidableEq, Repr

/-- The latch of a POLL reply (spec 02, R30). -/
inductive Latch where
  | closed | open_ | moving
  deriving DecidableEq, Repr

/-- The diagnostic bridge of a POLL reply (spec 02, R30). -/
inductive Bridge where
  | asleep | waking | awake | failed
  deriving DecidableEq, Repr

/-- Heat state (spec 04, R72). -/
inductive HeatState where
  | off | planned | heating | holding | stopping | suspended
  deriving DecidableEq, Repr

/-- Lamp check state (spec 05, R94). -/
inductive CheckState where
  | none | queued | waitingPower | running | passed | failed | aborted
  deriving DecidableEq, Repr

/-- Last lamp result (spec 05, R94). -/
inductive LampResult where
  | none | inProgress | passed | failed
  deriving DecidableEq, Repr

/-- The band of a sample or a step (spec 05, R106). -/
inductive Band where
  | none | low | high | in_ | unstable
  deriving DecidableEq, Repr

/-- State of a fault entry (spec 06, R115). -/
inductive FaultState where
  | active | stored | deferred | clearPending
  deriving DecidableEq, Repr

/-- Reader state (spec 07, R134). -/
inductive ReaderState where
  | unread | queued | reading | suspended | complete | failed
  deriving DecidableEq, Repr

/-- Phase of a reader visit (spec 07, 7.2). -/
inductive VisitPhase where
  | wake | settle | identity | clears | snapshot | fetch | sleep
  deriving DecidableEq, Repr

/-- Clearance state (spec 08, R152). -/
inductive ClearState where
  | idle | cleared | refused | revoked | lapsed | releasing | released
  deriving DecidableEq, Repr

/-- Substep of a release (spec 08, R152). -/
inductive Substep where
  | stoppingHeat | unlatching
  deriving DecidableEq, Repr

/-- The eighteen clearance reasons, in the order of spec 08, R152. -/
inductive Reason where
  | outOfService | noCoach | nodeLost | notIdentified | noDeparture | wrongCoach | heatNotReady | checkInProgress
  | lampsNotChecked | lampsStale | lampsFailed | faultsNotRead | faultsIncomplete | blockingFault | hold
  | equipment | validity | releaseLapsed
  deriving DecidableEq, Repr

/-- The sixteen event kinds that carry a bay (spec 10, 10.1). -/
inductive BayEvent where
  | arrival | identified | coachMismatch | departed | nodeLost | nodeBack | heatStarted | heatReady | heatLate
  | lampDone | faultNew | faultsComplete | equipment | clearance | hold | overdue
  deriving DecidableEq, Repr

/-- Supply state (spec 03, R50). -/
inductive SupplyState where
  | normal | shed | restoring
  deriving DecidableEq, Repr

/-- The results of a response (spec 09, 9.2). -/
inductive Result where
  | done | notReady | badFrame | unknownRequest | notPermitted | badBay | outOfRange | wrongState | inUse | full
  | notFound | clockUnset
  deriving DecidableEq, Repr

/-- Port state (spec 09, 9.1). -/
inductive PortState where
  | empty | working | ready | read
  deriving DecidableEq, Repr

/-- A holder of a reservation (spec 03, R54). -/
inductive Holder where
  | slot (i : Fin 4)
  | reader
  deriving DecidableEq, Repr

/-! ### The bay record (spec 01) -/

/-- A coach identity (spec 01, R1). -/
structure Identity where
  fleet : Nat
  coachType : Nat
  deriving DecidableEq, Repr

/-- A departure record (spec 01, R21). -/
structure Departure where
  minute : Nat
  target : Int
  expected : Option Nat
  overdue : Bool
  deriving DecidableEq, Repr

/-- The Bay Table's part of a bay record, with the last-polled fields and the service configuration (spec 01, R1,
R2). -/
structure TableRec where
  occ : Occupancy
  beforeLoss : Option Occupancy
  discovered : Bool
  recovery : Bool
  plugCount : Nat
  plug : Option Plug
  latch : Option Latch
  lastDeparture : Option DepartureKind
  oosRequest : Bool
  planOverride : Option Nat
  identity : Option Identity
  lampPlan : Option Nat
  departure : Option Departure
  deriving DecidableEq, Repr

/-- The Planner's part: the heat record and the copied profile (spec 04, R70, R72). The granted and closed stages of
the heat record stand in `PowerRec`. -/
structure HeatRec where
  state : HeatState
  demand : Nat
  plannedStart : Option Nat
  plannedLead : Option Nat
  cabin : Option Int
  projection : Option Nat
  late : Bool
  unreachable : Bool
  starved : Bool
  profile : Option HeatProfile
  deriving DecidableEq, Repr

/-- The Supply Allocator's part (spec 03, R58 to R67). -/
structure PowerRec where
  grant : Nat
  commanded : Nat
  closed : Nat
  lastIncrease : Option Moment
  stepHold : Bool
  watch : Option Nat
  stuck : Bool
  refused : Bool
  polledSince : Bool
  deriving DecidableEq, Repr

/-- The Lamp Check Engine's part (spec 05, R94, R113). -/
structure LampRec where
  check : CheckState
  result : LampResult
  plan : Option Nat
  slot : Option (Fin 4)
  completion : Option Nat
  advisory : Nat
  stale : Bool
  lit : Bool
  latestStage : Option Moment
  offRetryAt : Option Moment
  deriving DecidableEq, Repr

/-- A fault entry; its origin follows from its source (spec 06, R115). -/
structure FaultEntry where
  source : Nat
  code : Nat
  cls : FaultClass
  state : FaultState
  occurrences : Nat
  firstSeen : Option Nat
  lastSeen : Option Nat
  expiry : Option Nat
  seen : Bool
  deriving DecidableEq, Repr

/-- The Fault Pool's part (spec 06, R116, R117, R123). -/
structure FaultRec where
  list : List FaultEntry
  quota : Nat
  incomplete : Bool
  refusal : Bool
  revision : Nat
  deriving DecidableEq, Repr

/-- The Fault Reader's context of a bay (spec 07, R134). -/
structure ReaderRec where
  state : ReaderState
  identityWanted : Bool
  passWanted : Bool
  clears : List (Nat × Nat)
  cursor : Nat
  generation : Option Nat
  recordCount : Option Nat
  failedVisits : Nat
  deriving DecidableEq, Repr

/-- A hold (spec 08, R152). -/
structure Hold where
  tag : Nat
  reason : Nat
  deriving DecidableEq, Repr

/-- The Clearance Unit's part (spec 08, R152). A running timer is kept as the moment it counts from. -/
structure ClearRec where
  state : ClearState
  substep : Option Substep
  reasons : ReasonSet
  waive : Bool
  validityFrom : Option Moment
  stopFrom : Option Moment
  latchFrom : Option Moment
  windowFrom : Option Moment
  relatch : Bool
  openAsked : Bool
  relatchRefused : Bool
  relatchAt : Option Moment
  holds : List Hold
  deriving DecidableEq, Repr

/-! ### The bay loop (spec 02) -/

/-- The request of a transaction (spec 02, 2.2). A STAGE also says whether it was asked as an increase (R43). -/
inductive LoopReq where
  | poll
  | stage (target : Nat) (increase : Bool)
  | latch (open_ : Bool)
  | lampSample (circuit : Nat) (settle : Nat)
  | lampOff
  | wake
  | ident
  | snapshot
  | fetch (index : Nat)
  | clear (source : Nat) (code : Nat)
  | sleep
  deriving DecidableEq, Repr

/-- An entry of the pending list (spec 02, 2.6): its request, its class, its age, whether its owner still wants the
outcome (R29), and, once it has been answered BUSY, when it may rejoin and when its first BUSY came (R28). -/
structure Entry where
  req : LoopReq
  cls : Nat
  age : Moment
  wanted : Bool
  rejoinAt : Option Moment
  firstBusy : Option Moment
  deriving DecidableEq, Repr

/-- A bay's entries of one sort: one that is open and off the line after a BUSY, and one not yet sent (spec 02, R42,
R44). -/
structure Lane where
  opened : Option Entry
  queued : Option Entry
  deriving DecidableEq, Repr

/-- A bay's poll: nothing due, its sweep poll waiting since `age` (R39), its probe due at a moment (R37), the end of its
last POLL, from which its class gives the due time, or, for a poll that was due when the class changed, that end, the due
time it keeps (R40), and whether it was promoted when its bay left class A, so that the next choice takes the promotion
away (R41). -/
inductive PollPlan where
  | idle
  | sweep (age : Moment)
  | probe (due : Moment)
  | classed (lastEnd : Moment)
  | held (lastEnd : Moment) (due : Moment) (promoted : Bool)
  deriving DecidableEq, Repr

/-- The Loop Controller's part of a bay (spec 02, R36 to R44). -/
structure LoopRec where
  failures : Nat
  poll : PollPlan
  stage : Lane
  latch : Lane
  lamp : Lane
  reader : Lane
  deriving DecidableEq, Repr

/-- The transaction on the line (spec 02, R26, R27): its attempt (1 or 2), the moment its request frame ends, and,
after a failed first attempt, the moment the quiet time ends. -/
structure OnLine where
  bay : Bay
  entry : Entry
  attempt : Nat
  sentEnd : Moment
  quietUntil : Option Moment
  deriving DecidableEq, Repr

/-! ### Depot-wide records -/

/-- A bay record: the parts of spec 01's table. -/
structure BayRec where
  table : TableRec
  heat : HeatRec
  power : PowerRec
  lamp : LampRec
  faults : FaultRec
  reader : ReaderRec
  clear : ClearRec
  loop : LoopRec
  deriving DecidableEq, Repr

/-- The depot clock (spec 03, R46). -/
structure ClockRec where
  minute : Nat
  seconds : Nat
  isSet : Bool
  deriving DecidableEq, Repr

/-- A granted reservation; its amount follows from its holder (spec 03, R54). -/
structure Reservation where
  holder : Holder
  bay : Bay
  deriving DecidableEq, Repr

/-- The Supply Allocator's depot-wide part (spec 03, R49 to R60). -/
structure SupplyRec where
  state : SupplyState
  normal : Nat
  shed : Nat
  reserve : Nat
  restoreFrom : Option Moment
  reservations : List Reservation
  waiting : List Holder
  lastIncrease : Option Moment
  increase : Option Bay
  deriving DecidableEq, Repr

/-- The depot settings (spec 09, R176). -/
structure Settings where
  restoreDelay : Nat
  lampValidity : Nat
  recordBudget : Nat
  clearanceValidity : Nat
  releaseWindow : Nat
  deriving DecidableEq, Repr

/-- What a check slot is doing (spec 05, R100 to R107): waiting for power, in a step, or between two steps until its
LAMP_OFF has ended. -/
inductive SlotPhase where
  | waitingPower | sampling | betweenSteps
  deriving DecidableEq, Repr

/-- A check slot's context (spec 05, R100), with the step as read at its beginning (R92), the moment the last sample
was asked (R103, R104) and the moment the next is due (R104). -/
structure Slot where
  bay : Bay
  plan : Nat
  stepIndex : Nat
  validSamples : Nat
  lastBand : Option Band
  results : List Band
  blocking : Nat
  advisory : Nat
  phase : SlotPhase
  step : Option LampStep
  askedAt : Moment
  nextAt : Option Moment
  deriving DecidableEq, Repr

/-- The visit in progress (spec 07, 7.2): in `settle`, `settleUntil` is the end of the settle time and absent once it
has run. -/
structure Visit where
  bay : Bay
  phase : VisitPhase
  budget : Nat
  fetches : Nat
  settleUntil : Option Moment
  failed : Bool
  suspended : Bool
  deriving DecidableEq, Repr

/-- An entry of the departure list (spec 01, R24). -/
structure DepartureEntry where
  bay : Bay
  minute : Nat
  deriving DecidableEq, Repr

/-! ### Station ports and events (spec 09, 10) -/

/-- What a request asks, with the parameters its kind carries (spec 09, 9.3; spec 11, R190). `outOfSet` is a request of
a known kind and right length in which an enumeration, an option or a presence byte has a number with no meaning; it tells
whether the request carries a bay part (R177). -/
inductive Body where
  | setClock (minute : Nat)
  | setOutside (temperature : Int)
  | setBudget (normal : Option Nat) (shed : Option Nat)
  | setReserve (units : Nat)
  | configureBay (outOfService : Option Bool) (planOverride : Option (Option Nat)) (quota : Option Nat)
      (settings : SettingsPart)
  | loadProfile (coachType : Nat) (profile : HeatProfile)
  | loadLampPlan (plan : Nat) (steps : List LampStep)
  | setDeparture (minute : Nat) (target : Int) (expected : Nat)
  | cancelDeparture
  | requestClearance (waiveHeat : Bool)
  | release
  | withdrawClearance
  | readDepartures (index : Nat)
  | startLampCheck
  | abortLampCheck
  | readFaults (index : Nat)
  | deferFault (source : Nat) (code : Nat) (until_ : Nat)
  | clearFault (source : Nat) (code : Nat)
  | rereadFaults
  | placeHold (tag : Nat) (reason : Nat)
  | liftHold (tag : Nat)
  | readBay
  | readSupply (part : Nat)
  | readEvents
  | ackEvents (items : List AckItem)
  | setEventMask (kinds : Nat)
  | setQuiet (on : Bool)
  | outOfSet (kind : Nat) (bayPart : Bool)
  deriving DecidableEq, Repr

/-- A request as framed: the bay byte and what it asks (spec 11, 11.2). -/
structure Request where
  bay : Nat
  body : Body
  deriving DecidableEq, Repr

/-- A response: kind echo (0 for none), result and payload (spec 11, 11.2). -/
structure Response where
  echo : Nat
  result : Result
  payload : List Byte
  deriving DecidableEq, Repr

/-- The record of a kind that carries no bay (spec 10, R183). -/
structure DepotKind where
  flag : Bool
  count : Nat
  deriving DecidableEq, Repr

/-- A station port and its event records (spec 09, R171; spec 10, R183 to R185). -/
structure PortRec where
  state : PortState
  inWork : Option Request
  response : Option Response
  shiftedOut : List Byte
  mask : KindSet
  quiet : Bool
  baySets : Vector BaySet 18
  poolLow : DepotKind
  supply : DepotKind
  deriving DecidableEq, Repr

/-- The whole part. -/
structure State where
  time : Moment
  lastSecond : Moment
  inReset : Bool
  shedLine : Bool
  clock : ClockRec
  supply : SupplyRec
  settings : Settings
  outside : Int
  profiles : Vector HeatProfile 8
  lampPlans : Vector (List LampStep) 8
  lampQueue : List Bay
  slots : Vector (Option Slot) 4
  freeCount : Nat
  lowFlag : Bool
  readerQueue : List Bay
  suspended : List Bay
  visit : Option Visit
  departures : List DepartureEntry
  departuresRevision : Nat
  line : Option OnLine
  ports : Vector PortRec 3
  bays : Vector BayRec 32
  pending : List Instr
  deriving DecidableEq, Repr

/-! ### Reset (spec 01, R2, and each block's own chapter) -/

/-- Spec 01, R2. -/
def TableRec.reset : TableRec where
  occ := .lost
  beforeLoss := some .vacant
  discovered := false
  recovery := false
  plugCount := 0
  plug := none
  latch := none
  lastDeparture := none
  oosRequest := false
  planOverride := none
  identity := none
  lampPlan := none
  departure := none

/-- Spec 04, R72. -/
def HeatRec.reset : HeatRec where
  state := .off
  demand := 0
  plannedStart := none
  plannedLead := none
  cabin := none
  projection := none
  late := false
  unreachable := false
  starved := false
  profile := none

/-- Spec 03, R60. -/
def PowerRec.reset : PowerRec where
  grant := 0
  commanded := 0
  closed := 0
  lastIncrease := none
  stepHold := false
  watch := none
  stuck := false
  refused := false
  polledSince := false

/-- Spec 05, R94. -/
def LampRec.reset : LampRec where
  check := .none
  result := .none
  plan := none
  slot := none
  completion := none
  advisory := 0
  stale := false
  lit := false
  latestStage := none
  offRetryAt := none

/-- Spec 06, R114, R116, R117, R123. -/
def FaultRec.reset : FaultRec where
  list := []
  quota := 16
  incomplete := false
  refusal := false
  revision := 0

/-- Spec 07, R134. -/
def ReaderRec.reset : ReaderRec where
  state := .unread
  identityWanted := false
  passWanted := false
  clears := []
  cursor := 0
  generation := none
  recordCount := none
  failedVisits := 0

/-- Spec 08, R152. -/
def ClearRec.reset : ClearRec where
  state := .idle
  substep := none
  reasons := 0
  waive := false
  validityFrom := none
  stopFrom := none
  latchFrom := none
  windowFrom := none
  relatch := false
  openAsked := false
  relatchRefused := false
  relatchAt := none
  holds := []

/-- No entry of a sort. -/
def Lane.empty : Lane where
  opened := none
  queued := none

/-- Spec 02, R38: no failure and no transaction; `poll` is what stands in the pending list for the bay. -/
def LoopRec.reset (poll : PollPlan) : LoopRec where
  failures := 0
  poll := poll
  stage := .empty
  latch := .empty
  lamp := .empty
  reader := .empty

/-- A bay record at reset (spec 01, R2), with what the pending list holds for its poll. -/
def BayRec.reset (poll : PollPlan) : BayRec where
  table := .reset
  heat := .reset
  power := .reset
  lamp := .reset
  faults := .reset
  reader := .reset
  clear := .reset
  loop := .reset poll

/-- Spec 04, R68: the value of each of the eight profiles at reset. -/
def resetProfile : HeatProfile where
  stages := 1
  power := 8
  gain := 10
  loss := 0
  margin := 0
  hysteresis := 10

/-- Spec 09, R182; spec 10, R184 and R189: a port at reset with its role's default mask. -/
def PortRec.reset (mask : KindSet) : PortRec where
  state := .empty
  inWork := none
  response := none
  shiftedOut := []
  mask := mask
  quiet := false
  baySets := Vector.replicate 18 0
  poolLow := { flag := false, count := 0 }
  supply := { flag := false, count := 0 }

/-- Spec 10, R184: the Schedule port's mask, kinds 0, 1, 3, 4, 5, 6, 7, 8, 16 and 17. -/
def scheduleMask : KindSet := 0x301FB#18

/-- Spec 10, R184: the Dispatch port's mask, kinds 2, 3, 14, 15 and 16. -/
def dispatchMask : KindSet := 0x1C00C#18

/-- Spec 10, R184: the Workshop port's mask, kinds 4, 5, 9, 10, 11, 12, 13 and 15. -/
def workshopMask : KindSet := 0x0BE30#18

/-- Spec 09, R176. -/
def Settings.reset : Settings where
  restoreDelay := 60
  lampValidity := 720
  recordBudget := 8
  clearanceValidity := 10
  releaseWindow := 120

/-- Spec 03, R49 to R54, R60, in the supply state taken from the SHED line (R50). -/
def SupplyRec.reset (state : SupplyState) : SupplyRec where
  state := state
  normal := 0
  shed := 0
  reserve := 40
  restoreFrom := none
  reservations := []
  waiting := []
  lastIncrease := none
  increase := none

/-- Every record at its reset value, while reset holds (`inReset`) or as it ends: the supply state and the polls of the
pending list are what reset's end gives them (spec 01, R2; spec 02, R38, R39; spec 03, R50; spec 09, R182). -/
def State.atReset (inReset shedLine : Bool) (state : SupplyState) (time : Moment) (poll : PollPlan)
    (pending : List Instr) : State where
  time := time
  lastSecond := 0
  inReset := inReset
  shedLine := shedLine
  clock := { minute := 0, seconds := 0, isSet := false }
  supply := .reset state
  settings := .reset
  outside := -250
  profiles := Vector.replicate 8 resetProfile
  lampPlans := Vector.replicate 8 []
  lampQueue := []
  slots := Vector.replicate 4 none
  freeCount := Config.poolSize
  lowFlag := false
  readerQueue := []
  suspended := []
  visit := none
  departures := []
  departuresRevision := 0
  line := none
  ports := #v[.reset scheduleMask, .reset dispatchMask, .reset workshopMask]
  bays := Vector.replicate 32 (.reset poll)
  pending := pending

/-- The length of reset after RESETn rises (spec 09, R182). -/
def resetLength : Moment := 20 * Config.ms

/-- The part right after reset, its SHED line not asserted: every register and record at its reset value, the 32 sweep
polls waiting (spec 02, R38, R39). Log entry 1. -/
def State.reset : State :=
  State.atReset false false .normal resetLength (.sweep resetLength) []

end Sys2Proof.Machine
end

