-- ==== Sys2Proof/Machine/Ops.lean ====
section
/-! DEFINITION. The named reads and updates of the state that every block uses, and the ways of going over the bays. -/

namespace Sys2Proof.Machine

/-! ### Reading and changing one bay's record -/

/-- The record of a bay. -/
def State.bay (s : State) (b : Bay) : BayRec := s.bays[b]

/-- Change one bay's record. -/
def updBay (b : Bay) (f : BayRec → BayRec) (s : State) : State :=
  { s with bays := s.bays.set b (f (s.bay b)) }

/-- Change the Bay Table's part of a bay. -/
def updTable (b : Bay) (f : TableRec → TableRec) (s : State) : State :=
  updBay b (fun r => { r with table := f r.table }) s

/-- Change the heat record of a bay. -/
def updHeat (b : Bay) (f : HeatRec → HeatRec) (s : State) : State :=
  updBay b (fun r => { r with heat := f r.heat }) s

/-- Change the allocator's part of a bay. -/
def updPower (b : Bay) (f : PowerRec → PowerRec) (s : State) : State :=
  updBay b (fun r => { r with power := f r.power }) s

/-- Change the lamp record of a bay. -/
def updLamp (b : Bay) (f : LampRec → LampRec) (s : State) : State :=
  updBay b (fun r => { r with lamp := f r.lamp }) s

/-- Change the Fault Pool's part of a bay. -/
def updFaults (b : Bay) (f : FaultRec → FaultRec) (s : State) : State :=
  updBay b (fun r => { r with faults := f r.faults }) s

/-- Change the reader context of a bay. -/
def updReader (b : Bay) (f : ReaderRec → ReaderRec) (s : State) : State :=
  updBay b (fun r => { r with reader := f r.reader }) s

/-- Change the clearance record of a bay. -/
def updClear (b : Bay) (f : ClearRec → ClearRec) (s : State) : State :=
  updBay b (fun r => { r with clear := f r.clear }) s

/-- Change the loop controller's part of a bay. -/
def updLoop (b : Bay) (f : LoopRec → LoopRec) (s : State) : State :=
  updBay b (fun r => { r with loop := f r.loop }) s

/-- Change the allocator's depot-wide record. -/
def updSupply (f : SupplyRec → SupplyRec) (s : State) : State :=
  { s with supply := f s.supply }

/-- Change a check slot. -/
def updSlot (i : Fin 4) (f : Slot → Slot) (s : State) : State :=
  { s with slots := s.slots.set i (s.slots[i].map f) }

/-- Change the visit in progress. -/
def updVisit (f : Visit → Visit) (s : State) : State :=
  { s with visit := s.visit.map f }

/-! ### Going over the bays -/

/-- The bays in number order. -/
def allBays : List Bay := List.finRange 32

/-- Do something for every bay of a list, in its order. -/
def forBays (bs : List Bay) (f : Bay → State → State) (s : State) : State :=
  bs.foldl (fun s b => f b s) s

/-- Do something for every bay, in number order. Where the spec leaves the order of a fan-out open, this is the
model's (DESIGN CHOICE, log entry 15). -/
def forAllBays (f : Bay → State → State) (s : State) : State :=
  forBays allBays f s

/-- Do something where a condition holds. -/
def onlyIf (c : Bool) (f : State → State) (s : State) : State :=
  if c then f s else s

/-! ### The clock and the time -/

/-- The depot minute where the clock is SET, absent while it is UNSET (spec 03, 3.1). -/
def minuteIfSet (s : State) : Option Nat :=
  if s.clock.isSet then some s.clock.minute else none

/-- The time comes to at least this moment (log entry 3). -/
def timeTo (t : Moment) (s : State) : State :=
  { s with time := max s.time t }

/-- A count of one byte rises by one and returns to 0 after 255 (spec 06, R116; spec 09, R181; spec 10, R183). -/
def nextRevision (n : Nat) : Nat := (n + 1) % 256

/-- A count saturated at 255 (spec 06, R115). -/
def saturate255 (n : Nat) : Nat := min n 255

/-- A value clamped to the nearest end of a range (spec 00, Ranges, clamping and refusal). -/
def clampNat (lo hi n : Nat) : Nat := max lo (min hi n)

/-- A temperature clamped to the nearest end of a range. -/
def clampInt (lo hi t : Int) : Int := max lo (min hi t)

/-! ### Questions asked of a bay by many blocks -/

/-- The part may send to the bay's node: the bay is neither LOST nor OUT_OF_SERVICE (spec 02, R42). -/
def reachable (s : State) (b : Bay) : Bool :=
  match (s.bay b).table.occ with
  | .lost => false
  | .outOfService => false
  | .vacant => true
  | .arriving => true
  | .present => true

/-- The bay is ARRIVING or PRESENT. -/
def occupied (s : State) (b : Bay) : Bool :=
  match (s.bay b).table.occ with
  | .arriving => true
  | .present => true
  | .outOfService => false
  | .vacant => false
  | .lost => false

/-- The bay is ARRIVING or PRESENT, or LOST with one of them before the loss (spec 01, R1; spec 08, R154, R157). -/
def holdsCoach (s : State) (b : Bay) : Bool :=
  occupied s b ||
    ((s.bay b).table.occ == .lost &&
      ((s.bay b).table.beforeLoss == some .arriving || (s.bay b).table.beforeLoss == some .present))

/-- The bay's clearance is RELEASING or RELEASED. -/
def inRelease (s : State) (b : Bay) : Bool :=
  match (s.bay b).clear.state with
  | .releasing => true
  | .released => true
  | .idle => false
  | .cleared => false
  | .refused => false
  | .revoked => false
  | .lapsed => false

/-- The bay's departure record. -/
def departureOf (s : State) (b : Bay) : Option Departure := (s.bay b).table.departure

/-- The bays of the departure list in its order (spec 01, R24). -/
def departureOrder (s : State) : List Bay := s.departures.map DepartureEntry.bay

end Sys2Proof.Machine
end

