-- ==== Sys2Proof/Machine/Flags.lean ====
section
/-! DEFINITION. The Event Unit's flags (spec 10): posting an event, pending flags, masks, ATTN; and sets of clearance
reasons (spec 08, R152). -/

namespace Sys2Proof.Machine

/-- The index of a port's record. -/
def portIndex : Port → Fin 3
  | .schedule => 0
  | .dispatch => 1
  | .workshop => 2

/-- A port's record. -/
def State.port (s : State) (p : Port) : PortRec := s.ports[portIndex p]

/-- Change one port's record. -/
def updPort (p : Port) (f : PortRec → PortRec) (s : State) : State :=
  { s with ports := s.ports.set (portIndex p) (f (s.port p)) }

/-- Spec 10, 10.1: the number of each kind that carries a bay. -/
def bayEventKind : BayEvent → Fin 18
  | .arrival => 0
  | .identified => 1
  | .coachMismatch => 2
  | .departed => 3
  | .nodeLost => 4
  | .nodeBack => 5
  | .heatStarted => 6
  | .heatReady => 7
  | .heatLate => 8
  | .lampDone => 9
  | .faultNew => 10
  | .faultsComplete => 11
  | .equipment => 13
  | .clearance => 14
  | .hold => 15
  | .overdue => 16

/-- Spec 10, 10.1: the number of POOL_LOW. -/
def poolLowKind : Fin 18 := 12

/-- Spec 10, 10.1: the number of SUPPLY. -/
def supplyKind : Fin 18 := 17

/-- The set of one bay (spec 11, R190). -/
def bayBit (b : Bay) : BaySet := 1#32 <<< b.val

/-- The set of one event kind (spec 11, R190). -/
def kindBit (k : Fin 18) : KindSet := 1#18 <<< k.val

/-- Spec 10, R183: a bay joins the bay set of a kind on one port. -/
def PortRec.postBay (k : Fin 18) (b : Bay) (r : PortRec) : PortRec :=
  { r with baySets := r.baySets.set k (r.baySets[k] ||| bayBit b) }

/-- Spec 10, R183: a kind without a bay becomes pending and its post count rises by 1, returning to 0 after 255. -/
def DepotKind.post (r : DepotKind) : DepotKind :=
  { flag := true, count := nextRevision r.count }

/-- Change all three ports' records. -/
def updPorts (f : PortRec → PortRec) (s : State) : State :=
  { s with ports := #v[f (s.port .schedule), f (s.port .dispatch), f (s.port .workshop)] }

/-- Post an event that carries a bay: it is recorded on all three ports at once (spec 10, R183). -/
def post (e : BayEvent) (b : Bay) (s : State) : State := updPorts (PortRec.postBay (bayEventKind e) b) s

/-- Post POOL_LOW (spec 06, R126; spec 10, R183). -/
def postPoolLow (s : State) : State := updPorts (fun r => { r with poolLow := r.poolLow.post }) s

/-- Post SUPPLY (spec 03, R52; spec 10, R183). -/
def postSupply (s : State) : State := updPorts (fun r => { r with supply := r.supply.post }) s

/-- The pending flag of a kind on one port (spec 10, R183). -/
def PortRec.pendingKind (r : PortRec) (k : Fin 18) : Bool :=
  if k = poolLowKind then r.poolLow.flag
  else if k = supplyKind then r.supply.flag
  else r.baySets[k] != 0#32

/-- The set of kinds pending on one port. -/
def PortRec.pendingSet (r : PortRec) : KindSet :=
  (List.finRange 18).foldl (fun m k => if r.pendingKind k then m ||| kindBit k else m) 0#18

/-- Spec 10, R185: the port's ATTN line is active while quiet is off and an enabled kind is pending; every line is
inactive in reset (R189). -/
def attn (s : State) (p : Port) : Bool :=
  !s.inReset && !(s.port p).quiet && ((s.port p).pendingSet &&& (s.port p).mask) != 0#18

/-- Spec 08, R152 and spec 11: the bit of a reason in a set of reasons. -/
def reasonNumber : Reason → Fin 18
  | .outOfService => 0
  | .noCoach => 1
  | .nodeLost => 2
  | .notIdentified => 3
  | .noDeparture => 4
  | .wrongCoach => 5
  | .heatNotReady => 6
  | .checkInProgress => 7
  | .lampsNotChecked => 8
  | .lampsStale => 9
  | .lampsFailed => 10
  | .faultsNotRead => 11
  | .faultsIncomplete => 12
  | .blockingFault => 13
  | .hold => 14
  | .equipment => 15
  | .validity => 16
  | .releaseLapsed => 17

/-- The set of one reason. -/
def only (r : Reason) : ReasonSet := 1#18 <<< (reasonNumber r).val

/-- The set of one reason where it applies. -/
def reasonIf (c : Bool) (r : Reason) : ReasonSet := if c then only r else 0#18

/-! ### News to the Clearance Unit -/

/-- Spec 08, R153: CLEARANCE is posted for the bay. -/
def postClearance (b : Bay) (s : State) : State := post .clearance b s

/-- News that revokes a CLEARED clearance, adds its reason in REVOKED, and changes nothing in any other clearance
state (spec 08, R161, R162). -/
def clearanceNews (b : Bay) (r : Reason) (s : State) : State :=
  match (s.bay b).clear.state with
  | .cleared =>
    postClearance b
      (updClear b (fun c => { c with state := .revoked, reasons := only r, validityFrom := none }) s)
  | .revoked => updClear b (fun c => { c with reasons := c.reasons ||| only r }) s
  | .idle => s
  | .refused => s
  | .lapsed => s
  | .releasing => s
  | .released => s

end Sys2Proof.Machine
end

