-- ==== Sys2Proof/Machine/Operands.lean ====
section
/-! DEFINITION. How values lie in bytes (spec 11, R190), the numbers of the enumerations, and the CRC-16 (spec 11,
R191). -/

namespace Sys2Proof.Machine

/-! ### Values in bytes (spec 11, R190): most significant byte first, two's complement -/

/-- A value of one byte. -/
def byte (n : Nat) : List Byte := [BitVec.ofNat 8 n]

/-- A value of two bytes. -/
def word (n : Nat) : List Byte := [BitVec.ofNat 8 (n / 256), BitVec.ofNat 8 n]

/-- A value of three bytes. -/
def triple (n : Nat) : List Byte := [BitVec.ofNat 8 (n / 65536), BitVec.ofNat 8 (n / 256), BitVec.ofNat 8 n]

/-- A value of four bytes. -/
def long (n : Nat) : List Byte :=
  [BitVec.ofNat 8 (n / 16777216), BitVec.ofNat 8 (n / 65536), BitVec.ofNat 8 (n / 256), BitVec.ofNat 8 n]

/-- A temperature. -/
def temperature (t : Int) : List Byte := word (t % 65536).toNat

/-- A mark or an on/off option: 1 for set or on. -/
def mark (c : Bool) : List Byte := byte (if c then 1 else 0)

/-- An optional field: its presence byte and the value, sent as zero when absent. -/
def optional {α : Type} (zero : α) (enc : α → List Byte) : Option α → List Byte
  | some v => byte 1 ++ enc v
  | none => byte 0 ++ enc zero

/-- A number that may be none, 255 standing for none. -/
def orNone : Option Nat → List Byte
  | some n => byte n
  | none => byte 255

/-- The number bytes spell, most significant first. -/
def readNat (bs : List Byte) : Nat := bs.foldl (fun n b => n * 256 + b.toNat) 0

/-- The signed value two bytes spell. -/
def readSigned (bs : List Byte) : Int :=
  if readNat bs < 32768 then (readNat bs : Int) else (readNat bs : Int) - 65536

/-! ### Enumerations: numbered from 0 in the order their rule or table first lists them -/

/-- Spec 01, R1. -/
def occupancyNumber : Occupancy → Nat
  | .outOfService => 0
  | .vacant => 1
  | .arriving => 2
  | .present => 3
  | .lost => 4

/-- Spec 01: CLEAN, UNRELEASED, UNOBSERVED. -/
def departureKindNumber : DepartureKind → Nat
  | .clean => 0
  | .unreleased => 1
  | .unobserved => 2

/-- Spec 11, 11.2: OUT 0, IN 1. -/
def plugNumber : Plug → Nat
  | .out => 0
  | .in_ => 1

/-- Spec 02, R30. -/
def latchNumber : Latch → Nat
  | .closed => 0
  | .open_ => 1
  | .moving => 2

/-- Spec 04, R72. -/
def heatStateNumber : HeatState → Nat
  | .off => 0
  | .planned => 1
  | .heating => 2
  | .holding => 3
  | .stopping => 4
  | .suspended => 5

/-- Spec 05, R94. -/
def checkStateNumber : CheckState → Nat
  | .none => 0
  | .queued => 1
  | .waitingPower => 2
  | .running => 3
  | .passed => 4
  | .failed => 5
  | .aborted => 6

/-- Spec 05, R94. -/
def lampResultNumber : LampResult → Nat
  | .none => 0
  | .inProgress => 1
  | .passed => 2
  | .failed => 3

/-- Spec 05, R92. -/
def stepClassNumber : StepClass → Nat
  | .blocking => 0
  | .advisory => 1

/-- Spec 11, R190. -/
def faultClassNumber : FaultClass → Nat
  | .info => 0
  | .advisory => 1
  | .blocking => 2

/-- Spec 11, 11.2. -/
def faultStateNumber : FaultState → Nat
  | .active => 0
  | .stored => 1
  | .deferred => 2
  | .clearPending => 3

/-- Spec 07, R134. -/
def readerStateNumber : ReaderState → Nat
  | .unread => 0
  | .queued => 1
  | .reading => 2
  | .suspended => 3
  | .complete => 4
  | .failed => 5

/-- Spec 07, 7.2. -/
def visitPhaseNumber : VisitPhase → Nat
  | .wake => 0
  | .settle => 1
  | .identity => 2
  | .clears => 3
  | .snapshot => 4
  | .fetch => 5
  | .sleep => 6

/-- Spec 08, R152. -/
def clearStateNumber : ClearState → Nat
  | .idle => 0
  | .cleared => 1
  | .refused => 2
  | .revoked => 3
  | .lapsed => 4
  | .releasing => 5
  | .released => 6

/-- Spec 08, R152. -/
def substepNumber : Substep → Nat
  | .stoppingHeat => 0
  | .unlatching => 1

/-- Spec 03, R50. -/
def supplyStateNumber : SupplyState → Nat
  | .normal => 0
  | .shed => 1
  | .restoring => 2

/-- Spec 09, 9.2 and spec 11, R190: DONE 0 to CLOCK_UNSET 11. -/
def resultNumber : Result → Nat
  | .done => 0
  | .notReady => 1
  | .badFrame => 2
  | .unknownRequest => 3
  | .notPermitted => 4
  | .badBay => 5
  | .outOfRange => 6
  | .wrongState => 7
  | .inUse => 8
  | .full => 9
  | .notFound => 10
  | .clockUnset => 11

/-- Spec 03, R54: lamp slot 0 to 3, or the reader visit. -/
def holderNumber : Holder → Nat
  | .slot i => i.val
  | .reader => 4

/-- Spec 11, R190: loop transaction kinds, POLL 1 to SLEEP 11. -/
def loopKind : LoopReq → Nat
  | .poll => 1
  | .stage _ _ => 2
  | .latch _ => 3
  | .lampSample _ _ => 4
  | .lampOff => 5
  | .wake => 6
  | .ident => 7
  | .snapshot => 8
  | .fetch _ => 9
  | .clear _ _ => 10
  | .sleep => 11

/-! ### The CRC-16 (spec 11, R191) -/

/-- One bit of the register: shift, and take the generator x^16 + x^12 + x^5 + 1 away where a one falls out. -/
def crcBit (r : BitVec 16) : BitVec 16 :=
  if r.msb then (r <<< 1) ^^^ 0x1021#16 else r <<< 1

/-- One byte of the register, most significant bit first. -/
def crcByte (r : BitVec 16) (b : Byte) : BitVec 16 :=
  crcBit (crcBit (crcBit (crcBit (crcBit (crcBit (crcBit (crcBit (r ^^^ (b.zeroExtend 16 <<< 8)))))))))

/-- The CRC of a frame: the register starts at all ones and is sent without a final inversion. -/
def crc16 (bs : List Byte) : BitVec 16 := bs.foldl crcByte 0xFFFF#16

/-- A frame with its CRC, high byte first. -/
def withCrc (bs : List Byte) : List Byte := bs ++ word (crc16 bs).toNat

/-- The bytes before the CRC of a frame whose CRC is right. -/
def checkCrc (bs : List Byte) : Option (List Byte) :=
  if bs.length < 2 then none
  else if word (crc16 (bs.take (bs.length - 2))).toNat = bs.drop (bs.length - 2) then
    some (bs.take (bs.length - 2))
  else none

end Sys2Proof.Machine
end

