-- ==== Sys2Proof/Machine/Loop.lean ====
section
/-! DEFINITION. The Loop Controller's pending list (spec 02, 2.5 and 2.6): poll classes and due times, the entries of a
bay, asking and withdrawing, and the arbiter's order. -/

namespace Sys2Proof.Machine

/-! ### The entries of a bay -/

/-- A bay's entries of a sort; polls are kept as `PollPlan`. -/
def LoopRec.lane (l : LoopRec) : LoopSort → Lane
  | .stage => l.stage
  | .latch => l.latch
  | .lamp => l.lamp
  | .reader => l.reader
  | .poll => .empty

/-- Replace a bay's entries of a sort. -/
def LoopRec.setLane (l : LoopRec) (sort : LoopSort) (x : Lane) : LoopRec :=
  match sort with
  | .stage => { l with stage := x }
  | .latch => { l with latch := x }
  | .lamp => { l with lamp := x }
  | .reader => { l with reader := x }
  | .poll => l

/-- A bay's entries of a sort in the state. -/
def laneOf (s : State) (b : Bay) (sort : LoopSort) : Lane := (s.bay b).loop.lane sort

/-- Change a bay's entries of a sort. -/
def updLane (b : Bay) (sort : LoopSort) (f : Lane → Lane) (s : State) : State :=
  updLoop b (fun l => l.setLane sort (f (l.lane sort))) s

/-- The sort of a transaction (spec 02, 2.6). -/
def sortOf : LoopReq → LoopSort
  | .poll => .poll
  | .stage _ _ => .stage
  | .latch _ => .latch
  | .lampSample _ _ => .lamp
  | .lampOff => .lamp
  | .wake => .reader
  | .ident => .reader
  | .snapshot => .reader
  | .fetch _ => .reader
  | .clear _ _ => .reader
  | .sleep => .reader

/-- Spec 02, R43: the priority class a request is asked in. -/
def classOf : LoopReq → Nat
  | .poll => 5
  | .stage _ increase => if increase then 2 else 1
  | .latch open_ => if open_ then 2 else 1
  | .lampSample _ _ => 3
  | .lampOff => 3
  | .wake => 4
  | .ident => 4
  | .snapshot => 4
  | .fetch _ => 4
  | .clear _ _ => 4
  | .sleep => 4

/-- A new entry, its age the moment it is taken (spec 02, R42). -/
def newEntry (req : LoopReq) (age : Moment) : Entry where
  req := req
  cls := classOf req
  age := age
  wanted := true
  rejoinAt := none
  firstBusy := none

/-- An entry takes a new request and its class and keeps its age and its BUSY times (spec 02, R44). -/
def Entry.takeOver (e : Entry) (req : LoopReq) : Entry :=
  { e with req := req, cls := classOf req, wanted := true }

/-- The line holds a transaction of this bay and sort. -/
def lineHas (s : State) (b : Bay) (sort : LoopSort) : Bool :=
  match s.line with
  | some l => l.bay == b && sortOf l.entry.req == sort
  | none => false

/-- The bay has a transaction of this sort open or pending (spec 02, R42, R44). -/
def anyOf (s : State) (b : Bay) (sort : LoopSort) : Bool :=
  lineHas s b sort || (laneOf s b sort).opened.isSome || (laneOf s b sort).queued.isSome

/-- The entry of a bay's STAGE or LATCH that a new request replaces: the one not yet sent, or, when none is on the
line, the one waiting out a BUSY (spec 02, R44; log entry 10). -/
def replaceable (s : State) (b : Bay) (sort : LoopSort) : Option Entry :=
  match (laneOf s b sort).queued with
  | some q => some q
  | none => if lineHas s b sort then none else (laneOf s b sort).opened

/-- Spec 02, R44: a STAGE or LATCH joins the pending list, or takes the place of the entry that waits there. -/
def Lane.join (onLine : Bool) (now : Moment) (req : LoopReq) (l : Lane) : Lane :=
  match l.queued, l.opened with
  | some q, _ => { l with queued := some (q.takeOver req) }
  | none, some o =>
    if onLine then { l with queued := some (newEntry req now) } else { l with opened := some (o.takeOver req) }
  | none, none => { l with queued := some (newEntry req now) }

/-- Spec 02, R42: a lamp or reader request joins the pending list, in place of one of its sort not yet sent. -/
def Lane.replace (now : Moment) (req : LoopReq) (l : Lane) : Lane :=
  { l with queued := some (newEntry req now) }

/-- A sort's entry that has not been sent is taken out of the pending list. -/
def Lane.dropQueued (l : Lane) : Lane := { l with queued := none }

/-- The owner no longer wants what is open (spec 02, R29). -/
def Entry.unwanted (e : Entry) : Entry := { e with wanted := false }

/-- The transaction on the line, of this bay and sort, is no longer wanted by its owner. -/
def disownLine (b : Bay) (sort : LoopSort) (s : State) : State :=
  { s with line := s.line.map fun l =>
      if l.bay = b ∧ sortOf l.entry.req = sort then { l with entry := l.entry.unwanted } else l }

/-- An owner whose work has ended withdraws what is not on the line, the entry waiting out a BUSY included, and no
longer wants what is (spec 02, R42; spec 07, R147). -/
def withdrawAll (b : Bay) (sort : LoopSort) (s : State) : State :=
  disownLine b sort (updLane b sort (fun _ => .empty) s)

/-- An owner whose work has ended drops what was not yet sent and no longer wants what is open (spec 05, R102, R111). -/
def abandon (b : Bay) (sort : LoopSort) (s : State) : State :=
  disownLine b sort
    (updLane b sort (fun l => { opened := l.opened.map Entry.unwanted, queued := none }) s)

/-! ### Polls -/

/-- Spec 02, R40: the conditions of poll class A. -/
def classA (s : State) (b : Bay) : Bool :=
  0 < (s.bay b).power.grant || 0 < (s.bay b).power.closed || (s.bay b).lamp.check == .running ||
    (match s.visit with
      | some v => v.bay == b
      | none => false) ||
    inRelease s b

/-- Spec 02, R40: the poll class, A 0, B 1, C 2, none for a LOST or OUT_OF_SERVICE bay. -/
def pollClass (s : State) (b : Bay) : Option Nat :=
  if reachable s b then
    if classA s b then some 0 else if occupied s b then some 1 else some 2
  else none

/-- Spec 02, R40: the poll period of a bay that is polled. -/
def pollPeriod (s : State) (b : Bay) : Moment :=
  if classA s b then 1 * Config.sec else if occupied s b then 4 * Config.sec else 10 * Config.sec

/-- The due time of the bay's sweep poll, probe or poll (spec 02, R37, R39, R40). -/
def pollDueAt (s : State) (b : Bay) : Option Moment :=
  match (s.bay b).loop.poll with
  | .idle => none
  | .sweep age => some age
  | .probe due => some due
  | .classed lastEnd => if reachable s b then some (lastEnd + pollPeriod s b) else none
  | .held _ due _ => if reachable s b then some due else none

/-- Spec 02, R37: a lost bay's probes are 10 s apart. -/
def probePeriod : Moment := 10 * Config.sec

/-- Set what the bay's pending list holds for its poll. -/
def setPoll (b : Bay) (p : PollPlan) (s : State) : State :=
  updLoop b (fun l => { l with poll := p }) s

/-- Spec 02, R30, R37, R40: a POLL has ended now; the bay's next poll or probe counts from this moment. -/
def pollEnded (b : Bay) (s : State) : State :=
  match (s.bay b).table.occ with
  | .outOfService => setPoll b .idle s
  | .lost => setPoll b (.probe (s.time + probePeriod)) s
  | .vacant => setPoll b (.classed s.time) s
  | .arriving => setPoll b (.classed s.time) s
  | .present => setPoll b (.classed s.time) s

/-- Spec 02, R41: how long a class A poll is due before it is promoted. -/
def promotion : Moment := 3 * Config.sec

/-- Spec 02, R41: a class A poll that has been due for 3 s is taken in class 1. -/
def pollPriority (s : State) (b : Bay) (due : Moment) : Nat :=
  if reachable s b && classA s b && decide (due + promotion ≤ s.time) then 1 else 5

/-- The bay's due poll as an entry of the pending list, its age its due time (spec 02, R40). -/
def pollEntry (s : State) (b : Bay) : Option Entry :=
  match pollDueAt s b with
  | some due =>
    if due ≤ s.time then some { newEntry .poll due with cls := pollPriority s b due } else none
  | none => none

/-- The bay leaves class A between `s` and `t` while its poll, due at `due`, is promoted (spec 02, R41). -/
def leavesPromoted (s t : State) (b : Bay) (due : Moment) : Bool :=
  classA s b && !classA t b && decide (due + promotion ≤ t.time)

/-- The poll of a bay whose class was that of `s` and is that of `t`: one that is due keeps its due time over a change of
class until it is chosen (R40), and one whose bay leaves class A while it is promoted is marked for the next choice (R41).
One that is not due yet follows its class. -/
def heldPoll (s t : State) (b : Bay) : PollPlan :=
  match (t.bay b).loop.poll, pollDueAt s b with
  | .classed lastEnd, some due =>
    if (s.bay b).loop.poll = .classed lastEnd ∧ reachable t b = true ∧ pollPeriod t b ≠ pollPeriod s b ∧ due ≤ t.time then
      .held lastEnd due (leavesPromoted s t b due)
    else .classed lastEnd
  | .held lastEnd due promoted, _ => .held lastEnd due (promoted || leavesPromoted s t b due)
  | p, _ => p

/-- What the pending lists hold for the polls of all bays is replaced. -/
def setPolls (p : Bay → PollPlan) (s : State) : State := forAllBays (fun b => setPoll b (p b)) s

/-- The due polls are held over what has moved the state from `s` to `t` (spec 02, R40, R41). -/
def pollsHeld (s t : State) : State := setPolls (heldPoll s t) t

/-- The poll of a bay at a choice: one that was promoted when its bay left class A loses the promotion unless the bay is in
class A again, and its due time is worked out again from the end of the last POLL and the present class (spec 02, R41). -/
def judgedPoll (s : State) (b : Bay) : PollPlan :=
  match (s.bay b).loop.poll with
  | .held lastEnd due true => if classA s b then .held lastEnd due true else .classed lastEnd
  | p => p

/-- The promotions are judged, as each choice begins (spec 02, R41; log entry 9). -/
def promotionsJudged (s : State) : State := setPolls (judgedPoll s) s

/-! ### The arbiter (spec 02, R43) -/

/-- An entry waiting out a BUSY is eligible once its 50 ms have passed. -/
def Entry.rejoined (now : Moment) (e : Entry) : Bool :=
  match e.rejoinAt with
  | some t => decide (t ≤ now)
  | none => true

/-- The eligible entry of a bay's sort: the open one once its BUSY wait is over, else, where none is open, the one not
yet sent (spec 02, R42, R43, R44). -/
def eligible (s : State) (b : Bay) (sort : LoopSort) : Option Entry :=
  match sort with
  | .poll => pollEntry s b
  | .stage => laneEligible (laneOf s b .stage)
  | .latch => laneEligible (laneOf s b .latch)
  | .lamp => laneEligible (laneOf s b .lamp)
  | .reader => laneEligible (laneOf s b .reader)
where
  /-- What is eligible among the entries of one sort. -/
  laneEligible (l : Lane) : Option Entry :=
    match l.opened with
    | some o => if o.rejoined s.time then some o else none
    | none => l.queued

/-- A candidate of the arbiter. -/
structure Candidate where
  bay : Bay
  sort : LoopSort
  entry : Entry
  deriving DecidableEq, Repr

/-- The sorts in the order of the arbiter's last tie (spec 02, R43). -/
def sortOrder : List LoopSort := [.stage, .latch, .lamp, .reader, .poll]

/-- The candidates, by bay and within a bay by sort, so that among equal class and age the first stands first. -/
def candidates (s : State) : List Candidate :=
  allBays.flatMap fun b => sortOrder.filterMap fun sort =>
    (eligible s b sort).map fun e => { bay := b, sort := sort, entry := e }

/-- Lower class first, then older age (spec 02, R43). -/
def Candidate.before (x y : Candidate) : Bool :=
  x.entry.cls < y.entry.cls || (x.entry.cls == y.entry.cls && x.entry.age < y.entry.age)

/-- The candidate the arbiter takes: none stands before it, and it is the first such in the order of bays and sorts. -/
def choice (s : State) : Option Candidate :=
  (candidates s).foldl
    (fun best x =>
      match best with
      | some y => if x.before y then some x else some y
      | none => some x)
    none

/-! ### Request frames (spec 11, 11.3) -/

/-- Spec 00: the node of bay n answers at loop address n + 1. -/
def loopAddress (b : Bay) : Nat := b.val + 1

/-- Spec 11, R191: the request payload of each kind. -/
def requestPayload : LoopReq → List Byte
  | .poll => []
  | .stage target _ => byte target
  | .latch open_ => byte (if open_ then 1 else 0)
  | .lampSample circuit settle => byte circuit ++ byte settle
  | .lampOff => []
  | .wake => []
  | .ident => []
  | .snapshot => []
  | .fetch index => byte index
  | .clear source code => byte source ++ word code
  | .sleep => []

/-- The request frame of a transaction: address, kind, payload length, payload, CRC-16. -/
def requestFrame (b : Bay) (req : LoopReq) : List Byte :=
  withCrc (byte (loopAddress b) ++ byte (loopKind req) ++ byte (requestPayload req).length ++ requestPayload req)

/-- The time a request frame takes on the line. -/
def frameTime (b : Bay) (req : LoopReq) : Moment := (requestFrame b req).length * Config.loopByte

/-- What the part drives onto the line: the request frame of the transaction on it. -/
def lineFrame (s : State) : Option (List Byte) :=
  s.line.map fun l => requestFrame l.bay l.entry.req

/-- Take an entry out of the pending list as it goes onto the line. -/
def unlist (b : Bay) (sort : LoopSort) (s : State) : State :=
  match sort with
  | .poll => setPoll b .idle s
  | .stage => updLane b .stage takeFront s
  | .latch => updLane b .latch takeFront s
  | .lamp => updLane b .lamp takeFront s
  | .reader => updLane b .reader takeFront s
where
  /-- The open entry leaves first. -/
  takeFront (l : Lane) : Lane :=
    match l.opened with
    | some _ => { l with opened := none }
    | none => { l with queued := none }

/-- Spec 02, R26, R43: the arbiter's choice goes onto the line and its request frame is sent. -/
def putOnLine (c : Candidate) (s : State) : State :=
  { unlist c.bay c.sort s with
    line := some
      { bay := c.bay, entry := { c.entry with rejoinAt := none }, attempt := 1,
        sentEnd := s.time + frameTime c.bay c.entry.req, quietUntil := none } }

/-! ### Asking -/

/-- A lamp or reader request joins the pending list where the bay can be reached (spec 02, R42). Where it cannot, the
owner is handed NOT_SENT, which the caller takes. -/
def askReplacing (b : Bay) (req : LoopReq) (s : State) : State :=
  if reachable s b then updLane b (sortOf req) (Lane.replace s.time req) s else s

/-- A STAGE joins the pending list where the bay can be reached (spec 02, R44). -/
def joinStage (b : Bay) (target : Nat) (increase : Bool) (s : State) : State :=
  updLane b .stage (Lane.join (lineHas s b .stage) s.time (.stage target increase)) s

/-- A LATCH joins the pending list: one that asks the direction of the entry it meets leaves it as it is, but that its
owner wants it again (spec 02, R44). -/
def joinLatch (b : Bay) (open_ : Bool) (s : State) : State :=
  updLane b .latch (Lane.join (lineHas s b .latch) s.time (.latch open_)) s

end Sys2Proof.Machine
end

