-- ==== Sys2Proof/Machine/HeatArithmetic.lean ====
section
/-! DEFINITION. The Planner's arithmetic: heat-up time, the planning computation, the projection and lateness (spec 04,
4.4, 4.5, 4.7). -/

namespace Sys2Proof.Machine

/-- Spec 04, R74: the heat minutes with `stages` stages, or none where the heat-up is unreachable. Division of a
whole number by a positive one rounds toward minus infinity here, as steps 2 and 4 say. -/
def heatUpTime (stages gain loss : Nat) (cabin target outside : Int) : Option Nat :=
  let rise := target - cabin
  if rise ≤ 0 then some 0
  else
    let mean := (cabin + target) / 2
    let difference := max 0 (mean - outside)
    let lost := difference * (loss : Int) / 1024
    let rate := (stages : Int) * (gain : Int) - lost
    if rate ≤ 0 then none else some ((10 * rise + rate - 1) / rate).toNat

/-- Spec 04, R75: the planned lead for a heat-up result and a margin. -/
def plannedLead (heatUp : Option Nat) (margin : Nat) : Nat :=
  match heatUp with
  | some m => min (m + margin) Config.maxLead
  | none => Config.maxLead

/-- The heat-up of the planning computation: all the stages of the profile, and the outside temperature where the
cabin's is absent (spec 04, R75, R83). -/
def plannedHeatUp (s : State) (p : HeatProfile) (d : Departure) (cabin : Option Int) : Option Nat :=
  heatUpTime p.stages p.gain p.loss (cabin.getD s.outside) d.target s.outside

/-- The planning computation of a bay (spec 04, R75). -/
def plan (b : Bay) (s : State) : State :=
  match (s.bay b).heat.profile, departureOf s b with
  | some p, some d =>
    let heatUp := plannedHeatUp s p d (s.bay b).heat.cabin
    updHeat b
      (fun h => { h with
        plannedLead := some (plannedLead heatUp p.margin)
        plannedStart := some (d.minute - plannedLead heatUp p.margin)
        unreachable := heatUp.isNone })
      s
  | _, _ => s

/-- Spec 04, R79: the projection of a bay from its granted stages and last cabin temperature. -/
def projectionOf (s : State) (b : Bay) : Option Nat :=
  match (s.bay b).heat.profile, departureOf s b, (s.bay b).heat.cabin with
  | some p, some d, some cabin =>
    (heatUpTime (s.bay b).power.grant p.gain p.loss cabin d.target s.outside).map (fun m => s.clock.minute + m)
  | _, _, _ => none

/-- Spec 04, R80: a projection is late when it is absent or later than the departure minute. -/
def isLate (projection : Option Nat) (departure : Option Departure) : Bool :=
  match projection, departure with
  | some m, some d => decide (d.minute < m)
  | none, _ => true
  | some _, none => true

/-- Make the projection of a HEATING bay and judge LATE, posting HEAT_LATE where it is newly set (spec 04, R79, R80). -/
def project (b : Bay) (s : State) : State :=
  if (s.bay b).heat.state = .heating then
    let late := isLate (projectionOf s b) (departureOf s b)
    onlyIf (late && !(s.bay b).heat.late) (post .heatLate b)
      (updHeat b (fun h => { h with projection := projectionOf s b, late := late }) s)
  else s

/-- Spec 04, R78: STARVED is set while the bay is HEATING with no stage granted. -/
def judgeStarved (b : Bay) (s : State) : State :=
  updHeat b (fun h => { h with
    starved := decide (h.state = .heating) && decide ((s.bay b).power.grant = 0) }) s

end Sys2Proof.Machine
end

