-- ==== Sys2Proof/Machine/Allocator.lean ====
section
/-! DEFINITION. The Supply Allocator's division of the heat budget and its stage commands (spec 03, 3.2, 3.4, 3.5). -/

namespace Sys2Proof.Machine

/-! ### Budgets (spec 03, R49 to R53) -/

/-- Spec 03, R50, R52: the budget in force. -/
def effectiveBudget (s : State) : Nat :=
  match s.supply.state with
  | .normal => s.supply.normal
  | .shed => s.supply.shed
  | .restoring => s.supply.shed

/-- Spec 03, R52: ER, the lesser of the service reserve and E. -/
def effectiveReserve (s : State) : Nat := min s.supply.reserve (effectiveBudget s)

/-- Spec 03, R52: H, E less ER. -/
def heatBudget (s : State) : Nat := effectiveBudget s - effectiveReserve s

/-! ### Stage commands (spec 03, R60 to R64) -/

/-- The Lamp Check Engine is told of a STAGE asked for the bay and keeps the moment (spec 05, R105). -/
def noteStage (b : Bay) (s : State) : State :=
  updLamp b (fun l => { l with latestStage := some s.time }) s

/-- The depot-wide increase slot is freed of this bay's increase (spec 03, R61, R62). -/
def freeIncrease (b : Bay) (s : State) : State :=
  updSupply (fun p => { p with increase := if p.increase = some b then none else p.increase }) s

/-- A STAGE of the bay has ended, with whatever outcome: no good poll has been taken since (spec 03, R62). -/
def stageEnded (b : Bay) (s : State) : State :=
  updPower b (fun p => { p with polledSince := false }) s

/-- The commanded target is the last reported closed count again (spec 03, R60, R64). -/
def commandClosed (b : Bay) (s : State) : State :=
  updPower b (fun p => { p with commanded := p.closed }) s

/-- A STAGE that cannot be queued comes back NOT_SENT at once (spec 02, R42; spec 03, R64, R67). -/
def stageUnqueued (b : Bay) (increase : Bool) (s : State) : State :=
  if (s.bay b).table.occ = .lost then updPower b (fun p => { p with commanded := 0 }) s
  else onlyIf increase (commandClosed b) s

/-- An entry is a STAGE asked as an increase. -/
def isIncrease : Option Entry → Bool
  | some e =>
    match e.req with
    | .stage _ increase => increase
    | _ => false
  | none => false

/-- A STAGE is asked for a bay: its target is the commanded target, a running stuck watch ends, and the Lamp Check
Engine is told (spec 03, R60, R61, R66; spec 05, R105). It is answered NOT_SENT where the bay cannot be reached (spec
02, R42). -/
def askStage (b : Bay) (target : Nat) (increase : Bool) (s : State) : State :=
  let told := noteStage b (updPower b (fun p => { p with commanded := target, watch := none }) s)
  if reachable s b then joinStage b target increase told
  else onlyIf increase (freeIncrease b) (stageUnqueued b increase (stageEnded b told))

/-- A reduction (spec 03, R61): an increase it takes the place of frees the depot-wide slot. -/
def askReduction (b : Bay) (target : Nat) (s : State) : State :=
  askStage b target false (onlyIf (isIncrease (replaceable s b .stage)) (freeIncrease b) s)

/-- Spec 03, R61: a bay whose grant is below its commanded target is asked STAGE(grant) as a reduction. -/
def reduceBay (b : Bay) (s : State) : State :=
  onlyIf (decide ((s.bay b).power.grant < (s.bay b).power.commanded)) (askReduction b (s.bay b).power.grant) s

/-- The reductions that a recompute brings. -/
def askReductions (s : State) : State := forAllBays reduceBay s

/-- The commanded target returns to the last reported closed count, and where that exceeds the grant the reduction of R61
is asked; it stays as it is while a later STAGE of the bay waits, since it is that STAGE's target (spec 03, R60, R61, R63,
R64; log entry 12). -/
def returnCommanded (b : Bay) (s : State) : State :=
  if (laneOf s b .stage).queued.isSome then s else reduceBay b (commandClosed b s)

/-- A STAGE that stood in the pending list comes back NOT_SENT (spec 03, R62, R64, R67). -/
def stageNotSent (b : Bay) (increase : Bool) (s : State) : State :=
  let ended := onlyIf increase (freeIncrease b) (stageEnded b s)
  if (s.bay b).table.occ = .lost then updPower b (fun p => { p with commanded := 0 }) ended
  else onlyIf increase (returnCommanded b) ended

/-! ### Grants (spec 03, R57 to R59) -/

/-- A bay's stage power, from its copied profile (spec 03, R57). -/
def stagePower (s : State) (b : Bay) : Nat :=
  match (s.bay b).heat.profile with
  | some p => p.power
  | none => 0

/-- Spec 03, R57: the bays with demand, in departure order. -/
def demandList (s : State) : List Bay := (departureOrder s).filter fun b => decide (0 < (s.bay b).heat.demand)

/-- Spec 03, R58: the walk of the demand list with what remains of the heat budget. -/
def walkGrants (s : State) : List Bay → Nat → List (Bay × Nat)
  | [], _ => []
  | b :: rest, remaining =>
    let grant := min (s.bay b).heat.demand (remaining / stagePower s b)
    (b, grant) :: walkGrants s rest (remaining - grant * stagePower s b)

/-- The grant a bay has in a walk: 0 for a bay not in the demand list. -/
def grantIn (grants : List (Bay × Nat)) (b : Bay) : Nat :=
  match grants.find? (fun g => g.1 == b) with
  | some g => g.2
  | none => 0

/-- A bay's grant as the recompute gives it (spec 03, R58). -/
def recomputedGrant (s : State) (b : Bay) : Nat := grantIn (walkGrants s (demandList s) (heatBudget s)) b

/-- A bay's grant changes: the Planner writes it, judges STARVED and makes the projection, but for a bay whose heating
period is just beginning, which makes its first projection itself (spec 03, R59; spec 04, R77 to R79). -/
def setGrant (starting : Option Bay) (b : Bay) (grant : Nat) (s : State) : State :=
  if (s.bay b).power.grant = grant then s
  else
    onlyIf (decide (starting ≠ some b)) (project b)
      (judgeStarved b (updPower b (fun p => { p with grant := grant }) s))

/-- The recompute on the allocator's books (spec 03, R58, R59). -/
def recomputeBooks (starting : Option Bay) (s : State) : State :=
  let grants := walkGrants s (demandList s) (heatBudget s)
  forAllBays (fun b => setGrant starting b (grantIn grants b)) s

/-- The recompute and the reductions it brings (spec 03, R58, R61). -/
def recompute (starting : Option Bay) (s : State) : State :=
  askReductions (recomputeBooks starting s)

/-- The Planner sets a bay's demand, and the allocator recomputes where it changed (spec 03, R57, R58; spec 04, R78). -/
def setDemand (starting : Option Bay) (b : Bay) (demand : Nat) (s : State) : State :=
  if (s.bay b).heat.demand = demand then s
  else recompute starting (updHeat b (fun h => { h with demand := demand }) s)

/-! ### Increases (spec 03, R62, R63) -/

/-- The spacing of increases in the depot. -/
def depotSpacing : Moment := 2 * Config.sec

/-- The spacing of increases at a bay. -/
def baySpacing : Moment := 10 * Config.sec

/-- The moment a spacing has run, counted from the end of an increase; a time long past has run. -/
def spacingEnd (last : Option Moment) (spacing : Moment) : Moment :=
  match last with
  | some t => t + spacing
  | none => 0

/-- Spec 03, R62: the conditions of an increase but for the spacings. -/
def wantsIncrease (s : State) (b : Bay) : Bool :=
  decide ((s.bay b).power.closed < (s.bay b).power.grant) && !anyOf s b .stage && (s.bay b).power.polledSince &&
    !(s.bay b).power.stepHold

/-- The moment at which a bay's spacings and the depot's have run. -/
def increaseReady (s : State) (b : Bay) : Moment :=
  max (spacingEnd s.supply.lastIncrease depotSpacing) (spacingEnd (s.bay b).power.lastIncrease baySpacing)

/-- The first moment, from now on, at which some wanting bay may have its increase (log entry 30). -/
def increaseMoment (s : State) : Option Moment :=
  ((demandList s).filter (wantsIncrease s)).foldl
    (fun best b =>
      match best with
      | some t => some (min t (max s.time (increaseReady s b)))
      | none => some (max s.time (increaseReady s b)))
    none

/-- Spec 03, R62: the bay that stands first in the demand list among those that may have an increase now. -/
def increaseBay (s : State) : Option Bay :=
  (demandList s).find? fun b => wantsIncrease s b && decide (increaseReady s b ≤ s.time)

/-- Ask an increase for a bay: STAGE(closed + 1), the bay holding the outstanding increase (spec 03, R62). -/
def askIncrease (b : Bay) (s : State) : State :=
  askStage b ((s.bay b).power.closed + 1) true (updSupply (fun p => { p with increase := some b }) s)

/-- Spec 03, R62: when no increase is outstanding, the increase whose conditions come to hold first is asked. -/
def stageIncrease (s : State) : State :=
  match s.supply.increase, increaseMoment s with
  | none, some t =>
    match increaseBay (timeTo t s) with
    | some b => askIncrease b (timeTo t s)
    | none => s
  | _, _ => s

/-- A lamp step begins on the bay: its hold is set, and an increase of the bay not yet sent is withdrawn (spec 03,
R63; log entry 11). -/
def stepBegan (b : Bay) (s : State) : State :=
  let held := updPower b (fun p => { p with stepHold := true }) s
  if isIncrease (laneOf s b .stage).queued then
    stageNotSent b true (updLane b .stage Lane.dropQueued held)
  else held

/-- A lamp step ends on the bay (spec 03, R63). -/
def stepEnded (b : Bay) (s : State) : State :=
  updPower b (fun p => { p with stepHold := false }) s

/-! ### Outcomes of STAGE (spec 03, R62, R64, R66) -/

/-- What the loop hands to an owner (spec 02, R29); the contents of a DONE go beside it. -/
inductive Handed where
  | done | refused | failed | notSent
  deriving DecidableEq, Repr

/-- A STAGE ended DONE or REFUSED: its stuck watch starts (spec 03, R66). -/
def startWatch (b : Bay) (s : State) : State :=
  updPower b (fun p => { p with watch := some 0 }) s

/-- An increase ended DONE, REFUSED or FAILED: both times of last increase are now, and the slot is free (spec 03,
R62). -/
def increaseEnded (b : Bay) (s : State) : State :=
  freeIncrease b
    (updSupply (fun p => { p with lastIncrease := some s.time })
      (updPower b (fun p => { p with lastIncrease := some s.time }) s))

/-- An increase was refused: the refused mark, EQUIPMENT where the mark was clear, and the commanded target, whose
reduction, if it brings one, ends the watch just started (spec 03, R61, R64, R66). -/
def increaseRefused (b : Bay) (s : State) : State :=
  returnCommanded b
    (onlyIf (!(s.bay b).power.refused) (post .equipment b)
      (updPower b (fun p => { p with refused := true }) s))

/-- The allocator takes a STAGE outcome (spec 03, R64). -/
def stageOutcome (b : Bay) (increase : Bool) (o : Handed) (s : State) : State :=
  match increase, o with
  | false, .done => startWatch b (stageEnded b s)
  | false, .refused => startWatch b (stageEnded b s)
  | false, .failed => askReduction b (s.bay b).power.commanded (stageEnded b s)
  | false, .notSent => stageNotSent b false s
  | true, .done =>
    startWatch b (updPower b (fun p => { p with refused := false }) (increaseEnded b (stageEnded b s)))
  | true, .refused => increaseRefused b (startWatch b (increaseEnded b (stageEnded b s)))
  | true, .failed => increaseEnded b (stageEnded b s)
  | true, .notSent => stageNotSent b true s

end Sys2Proof.Machine
end

