-- ==== Sys2Proof/Machine/Heating.lean ====
section
/-! DEFINITION. The heat state machine (spec 04, 4.3 and 4.6 to 4.12). -/

namespace Sys2Proof.Machine

/-! ### Heating and holding -/

/-- The stage count of a bay's copied profile (spec 04, R70). -/
def stageCount (s : State) (b : Bay) : Nat :=
  match (s.bay b).heat.profile with
  | some p => p.stages
  | none => 0

/-- A heating period begins: HEATING, the demand the copied stage count, HEAT_STARTED, the recompute with the new
demand, and STARVED judged (spec 04, R77, R78, R82). -/
def beginHeating (b : Bay) (s : State) : State :=
  judgeStarved b
    (setDemand (some b) b (stageCount s b)
      (post .heatStarted b (updHeat b (fun h => { h with state := .heating }) s)))

/-- The heat record becomes HOLDING: no projection, LATE and STARVED clear, HEAT_READY, demand 0 (spec 04, R81). -/
def becomeHolding (b : Bay) (s : State) : State :=
  setDemand none b 0
    (post .heatReady b
      (updHeat b (fun h => { h with state := .holding, projection := none, late := false, starved := false }) s))

/-- The ready test on a reading of a HEATING bay: HOLDING at or above the target, else the projection (spec 04, R77,
R81, R84). -/
def readyTest (b : Bay) (s : State) : State :=
  match (s.bay b).heat.cabin, departureOf s b with
  | some t, some d => if d.target ≤ t then becomeHolding b s else project b s
  | _, _ => project b s

/-- A planned start fires where it is at or before the depot minute (spec 04, R77). -/
def fireIfDue (b : Bay) (s : State) : State :=
  match (s.bay b).heat.state, (s.bay b).heat.plannedStart with
  | .planned, some start =>
    if s.clock.isSet ∧ start ≤ s.clock.minute then readyTest b (beginHeating b s) else s
  | _, _ => s

/-- The planning computation of a PLANNED bay, and the start where it is due (spec 04, R77). -/
def replan (b : Bay) (s : State) : State := fireIfDue b (plan b s)

/-- Spec 04, R76: the conditions under which a heat record in OFF enters PLANNED. -/
def mayPlan (s : State) (b : Bay) : Bool :=
  (s.bay b).heat.state == .off && (s.bay b).table.occ == .present && (s.bay b).heat.profile.isSome &&
    (departureOf s b).isSome && s.clock.isSet && !inRelease s b

/-- A heat record in OFF enters PLANNED where the conditions of R76 hold (spec 04, R76). -/
def judgePlan (b : Bay) (s : State) : State :=
  if mayPlan s b then replan b (updHeat b (fun h => { h with state := .planned }) s) else s

/-- The heat record enters OFF, and R76 is judged (spec 04, R72, R75, R86). -/
def enterOff (b : Bay) (s : State) : State :=
  judgePlan b
    (updHeat b
      (fun h => { h with state := .off, plannedStart := none, plannedLead := none, unreachable := false }) s)

/-- A STOPPING heat record reaches OFF when the closed stages are 0 (spec 04, R86). -/
def stoppingToOff (b : Bay) (s : State) : State :=
  if (s.bay b).heat.state = .stopping ∧ (s.bay b).power.closed = 0 then enterOff b s else s

/-- The heat record enters STOPPING: demand 0, no projection, LATE and STARVED clear (spec 04, R86). -/
def enterStopping (b : Bay) (s : State) : State :=
  stoppingToOff b
    (setDemand none b 0
      (updHeat b (fun h => { h with state := .stopping, projection := none, late := false, starved := false }) s))

/-- The hold thermostat on a present reading (spec 04, R82). -/
def thermostat (b : Bay) (reading : Int) (s : State) : State :=
  match (s.bay b).heat.profile, departureOf s b with
  | some p, some d =>
    if d.target ≤ reading then setDemand none b 0 s
    else if d.target - (p.hysteresis : Int) ≤ reading then s
    else if d.target - 3 * (p.hysteresis : Int) ≤ reading then setDemand none b 1 s
    else project b (beginHeating b s)
  | _, _ => s

/-- The thermostat on the last cabin temperature, where it is present (spec 04, R82, R84). -/
def thermostatNow (b : Bay) (s : State) : State :=
  match (s.bay b).heat.cabin with
  | some t => thermostat b t s
  | none => s

/-- What a cabin reading does once it is stored, by heat state (spec 04, R73, R83). -/
def actOnReading (b : Bay) (s : State) : State :=
  match (s.bay b).heat.state with
  | .planned => replan b s
  | .heating => readyTest b s
  | .holding => thermostatNow b s
  | .off => s
  | .stopping => s
  | .suspended => s

/-- The Planner takes the cabin temperature of a good poll reply (spec 04, R73). -/
def cabinReading (b : Bay) (reading : Option Int) (s : State) : State :=
  actOnReading b (updHeat b (fun h => { h with cabin := reading }) s)

/-! ### News from other blocks -/

/-- SET_DEPARTURE has replaced the bay's departure record (spec 04, R84). -/
def heatDepartureSet (b : Bay) (s : State) : State :=
  match (s.bay b).heat.state with
  | .off => judgePlan b s
  | .planned => replan b s
  | .heating => readyTest b s
  | .holding => thermostatNow b s
  | .stopping => s
  | .suspended => s

/-- CANCEL_DEPARTURE has removed it, or the bay's release has begun: PLANNED goes to OFF, HEATING and HOLDING to
STOPPING (spec 04, R85, R87). -/
def heatWithdrawn (b : Bay) (s : State) : State :=
  match (s.bay b).heat.state with
  | .planned => enterOff b s
  | .heating => enterStopping b s
  | .holding => enterStopping b s
  | .off => s
  | .stopping => s
  | .suspended => s

/-- Clear the projection, LATE and STARVED. -/
def clearHeatFlags (b : Bay) (s : State) : State :=
  updHeat b (fun h => { h with projection := none, late := false, starved := false }) s

/-- The bay becomes LOST (spec 04, R88): a bay that was PRESENT is SUSPENDED; in any other, a STOPPING left by an earlier
cleanup goes to OFF. -/
def heatLost (wasPresent : Bool) (b : Bay) (s : State) : State :=
  if wasPresent then
    setDemand none b 0 (clearHeatFlags b (updHeat b (fun h => { h with state := .suspended }) s))
  else if (s.bay b).heat.state = .stopping then enterOff b s
  else s

/-- The same coach is found again (spec 04, R88): OFF, and R76 at once. -/
def heatRecovered (b : Bay) (s : State) : State := enterOff b s

/-- The Planner's step of the vacancy cleanup (spec 04, R89). -/
def heatCleanup (b : Bay) (s : State) : State :=
  let bare := updHeat b (fun h => { h with profile := none }) s
  let cleared :=
    match (s.bay b).heat.state with
    | .heating => enterStopping b bare
    | .holding => enterStopping b bare
    | .suspended => enterStopping b bare
    | .planned => enterOff b bare
    | .off => bare
    | .stopping => bare
  setDemand none b 0 (clearHeatFlags b cleared)

/-- The bay becomes OUT_OF_SERVICE (spec 04, R90). -/
def heatOutOfService (b : Bay) (s : State) : State :=
  setDemand none b 0
    (clearHeatFlags b
      (updHeat b
        (fun h => { h with state := .off, plannedStart := none, plannedLead := none, unreachable := false }) s))

/-- The bay is identified with this coach type: the Planner copies the profile (spec 04, R70). -/
def copyProfile (b : Bay) (coachType : Nat) (s : State) : State :=
  if h : coachType < 8 then updHeat b (fun r => { r with profile := some (s.profiles[coachType]) }) s else s

end Sys2Proof.Machine
end

