-- ==== Sys2Proof/Machine/Reservations.lean ====
section
/-! DEFINITION. Service reservations (spec 03, 3.3) and the work a grant begins: a lamp step (spec 05, R101, R103) and a
reader visit (spec 07, R135, R136). -/

namespace Sys2Proof.Machine

/-! ### Amounts -/

/-- Spec 03, R54: what a holder asks for. -/
def holderAmount : Holder → Nat
  | .slot _ => 8
  | .reader => 6

/-- The amounts granted. -/
def reservedAmount (s : State) : Nat := (s.supply.reservations.map fun r => holderAmount r.holder).sum

/-- Spec 03, R54: a request fits where the amounts granted and the new one do not exceed ER. -/
def fits (s : State) (h : Holder) : Bool := decide (reservedAmount s + holderAmount h ≤ effectiveReserve s)

/-- The holder has a granted reservation. -/
def holdsReservation (s : State) (h : Holder) : Bool := s.supply.reservations.any fun r => r.holder == h

/-- The holder waits among the requesters. -/
def waits (s : State) (h : Holder) : Bool := s.supply.waiting.contains h

/-- A reservation joins the end of the list, and its holder waits no longer (spec 03, R54). -/
def addReservation (h : Holder) (b : Bay) (s : State) : State :=
  updSupply
    (fun p => { p with
      reservations := p.reservations ++ [{ holder := h, bay := b }]
      waiting := p.waiting.filter (· != h) })
    s

/-- A holder joins the waiting requesters (spec 03, R54). -/
def joinWaiting (h : Holder) (s : State) : State :=
  if waits s h then s else updSupply (fun p => { p with waiting := p.waiting ++ [h] }) s

/-- A holder leaves the waiting requesters (spec 03, R55). -/
def leaveWaiting (h : Holder) (s : State) : State :=
  updSupply (fun p => { p with waiting := p.waiting.filter (· != h) }) s

/-- A holder's entry leaves the reservation list. -/
def dropReservation (h : Holder) (s : State) : State :=
  updSupply (fun p => { p with reservations := p.reservations.filter fun r => r.holder != h }) s

/-! ### A lamp step (spec 05, R92, R103) -/

/-- A lamp plan by its number (spec 05, R92). -/
def planOf (s : State) (n : Nat) : List LampStep := if h : n < 8 then s.lampPlans[n] else []

/-- Spec 05, R104: samples of a step are 200 ms apart. -/
def sampleInterval : Moment := 200 * Config.ms

/-- What the lamp engine has open for a bay is no longer wanted (spec 05, R102, R111). -/
def disownLamp (b : Bay) (s : State) : State :=
  disownLine b .lamp (updLane b .lamp (fun l => { l with opened := l.opened.map Entry.unwanted }) s)

/-- Ask the LAMP_SAMPLE of a slot's step and record the moment (spec 05, R103, R104); one answered NOT_SENT is followed
by the next 200 ms later. -/
def askSample (i : Fin 4) (s : State) : State :=
  match s.slots[i] with
  | some c =>
    match c.step with
    | some st =>
      updSlot i
        (fun c => { c with
          askedAt := s.time
          nextAt := if reachable s c.bay then none else some (s.time + sampleInterval) })
        (askReplacing c.bay (.lampSample st.circuit st.settle)
          (updLamp c.bay (fun l => { l with lit := true }) s))
    | none => s
  | none => s

/-- A step begins: the allocator is told, and the first sample is asked (spec 05, R103). -/
def stepBegins (i : Fin 4) (s : State) : State :=
  match s.slots[i] with
  | some c =>
    match (planOf s c.plan)[c.stepIndex]? with
    | some st =>
      askSample i
        (disownLamp c.bay
          (stepBegan c.bay
            (updSlot i
              (fun c => { c with
                phase := .sampling, step := some st, validSamples := 0, lastBand := none, nextAt := none })
              s)))
    | none => s
  | none => s

/-- A slot is told that its reservation is granted: RUNNING, and its step begins (spec 05, R101). -/
def slotGranted (i : Fin 4) (s : State) : State :=
  match s.slots[i] with
  | some c => stepBegins i (updLamp c.bay (fun l => { l with check := .running }) s)
  | none => s

/-! ### A visit begins (spec 07, R136) -/

/-- An identity read or a pass is wanted of the bay. -/
def wantsRead (s : State) (b : Bay) : Bool := (s.bay b).reader.identityWanted || (s.bay b).reader.passWanted

/-- Ask a reader transaction of the bay being visited (spec 07, 7.2). -/
def askReader (b : Bay) (req : LoopReq) (s : State) : State :=
  askReplacing b req (updLane b .reader (fun l => { l with opened := l.opened.map Entry.unwanted }) s)

/-- The visit begins with the head of the queue: it leaves the queue, is READING where a read is wanted, and WAKE is
asked (spec 07, R136). -/
def visitBegins (b : Bay) (rest : List Bay) (s : State) : State :=
  askReader b .wake
    (updReader b
      (fun r => { r with state := if r.identityWanted || r.passWanted then .reading else r.state })
      { s with
        readerQueue := rest
        visit := some
          { bay := b, phase := .wake, budget := s.settings.recordBudget, fetches := 0, settleUntil := none,
            failed := false, suspended := false } })

/-! ### Granting, giving back and the grant pass (spec 03, R54, R55) -/

/-- A holder's reservation is granted and the holder is told. -/
def grantHolder (h : Holder) (s : State) : State :=
  match h with
  | .slot i =>
    match s.slots[i] with
    | some c => slotGranted i (addReservation h c.bay s)
    | none => s
  | .reader =>
    match s.readerQueue with
    | b :: rest => visitBegins b rest (addReservation h b s)
    | [] => s

/-- A holder asks for its reservation: it is granted where it fits, and waits otherwise (spec 03, R54). -/
def requestPower (h : Holder) (s : State) : State :=
  if fits s h then grantHolder h s else joinWaiting h s

/-- The requesters in the order of the grant pass. -/
def passOrder : List Holder := [.slot 0, .slot 1, .slot 2, .slot 3, .reader]

/-- One turn of the grant pass. -/
def passTurn (s : State) (h : Holder) : State :=
  if waits s h && fits s h then grantHolder h s else s

/-- The grant pass over the waiting requesters (spec 03, R55). -/
def grantPass (s : State) : State := passOrder.foldl passTurn s

/-- A holder's work ends: its entry leaves the list and the grant pass is made, or it leaves the waiting requesters
(spec 03, R55). -/
def giveBack (h : Holder) (s : State) : State :=
  if holdsReservation s h then grantPass (dropReservation h s) else leaveWaiting h s

/-! ### The reader queue (spec 07, R135, R136) -/

/-- Where the queue is not empty and no visit is in progress, the reader asks for its reservation; where the queue has
emptied, it waits no longer (spec 07, R136). -/
def askVisit (s : State) : State :=
  match s.readerQueue, s.visit with
  | [], _ => leaveWaiting .reader s
  | _ :: _, none => if waits s .reader || holdsReservation s .reader then s else requestPower .reader s
  | _ :: _, some _ => s

/-- The bay may be placed in the reader queue (spec 07, R135). -/
def mayQueue (s : State) (b : Bay) : Bool := occupied s b && !inRelease s b

/-- The bay's reader state becomes QUEUED where a pass or an identity read is wanted (spec 07, R135). -/
def markQueued (b : Bay) (s : State) : State :=
  onlyIf (wantsRead s b) (updReader b fun r => { r with state := .queued }) s

/-- Place a bay at the tail of the reader queue, where it may be placed; a bay already queued keeps its position (spec
07, R135). -/
def placeTail (b : Bay) (s : State) : State :=
  if mayQueue s b then
    askVisit (markQueued b (if s.readerQueue.contains b then s else { s with readerQueue := s.readerQueue ++ [b] }))
  else s

/-- A bay leaves the reader queue and the suspended list, and the bays behind it close up (spec 07, R135, R145). -/
def leaveQueues (b : Bay) (s : State) : State :=
  askVisit
    { s with readerQueue := s.readerQueue.filter (· != b), suspended := s.suspended.filter (· != b) }

/-- A bay is being visited. -/
def visiting (s : State) (b : Bay) : Bool :=
  match s.visit with
  | some v => v.bay == b
  | none => false

/-- The pool has room again: every suspended bay joins the tail of the reader queue, QUEUED, and a visit suspended for want
of room that is still in progress will put its bay in the queue as it ends (spec 07, R145). -/
def readerResume (s : State) : State :=
  askVisit
    (updVisit (fun v => { v with suspended := false })
      (forBays s.suspended (fun b => updReader b fun r => { r with state := .queued })
        { s with
          readerQueue := s.readerQueue ++ s.suspended.filter fun b => !s.readerQueue.contains b
          suspended := [] }))

end Sys2Proof.Machine
end

