-- ==== Sys2Proof/Machine/Pool.lean ====
section
/-! DEFINITION. The Fault Pool: intake, merging, displacement, removal, read passes, deferral and clears (spec 06). -/

namespace Sys2Proof.Machine

/-! ### Entries -/

/-- Spec 06, R115: the sources of origin COACH. -/
def isCoachSource (source : Nat) : Bool := decide (source ≤ 13)

/-- The LAMPS source (spec 06, R115). -/
def lampsSource : Nat := 14

/-- The BAY source (spec 06, R115). -/
def baySource : Nat := 15

/-- The code CONTACTOR_STUCK (spec 03, R66; spec 06, R115). -/
def contactorStuck : Nat := 1

/-- Spec 06, R128: an entry blocks clearance. -/
def FaultEntry.blocks (e : FaultEntry) : Bool :=
  e.cls == .blocking && (e.state == .active || e.state == .clearPending)

/-- The entry is for this source and code. -/
def FaultEntry.matches (source code : Nat) (e : FaultEntry) : Bool := e.source == source && e.code == code

/-- The entry of a bay's list with a source and code. -/
def findEntry (s : State) (b : Bay) (source code : Nat) : Option FaultEntry :=
  (s.bay b).faults.list.find? (FaultEntry.matches source code)

/-- Change the entry of a bay's list with a source and code. -/
def updEntry (b : Bay) (source code : Nat) (f : FaultEntry → FaultEntry) (s : State) : State :=
  updFaults b (fun r => { r with list := r.list.map fun e => if e.matches source code then f e else e }) s

/-- The Clearance Unit is told where an entry has come to block (spec 06, R128; spec 08, R161). -/
def tellIfBlocks (b : Bay) (before after : Bool) (s : State) : State :=
  onlyIf (!before && after) (clearanceNews b .blockingFault) s

/-! ### The free count (spec 06, R114, R125, R126) -/

/-- POOL_LOW is judged on the free count (spec 06, R126). -/
def judgeLow (s : State) : State :=
  if s.freeCount ≤ Config.lowMark then
    if s.lowFlag then s else postPoolLow { s with lowFlag := true }
  else { s with lowFlag := false }

/-- Remove the entries of a bay's list that a test names: the free count and the list revision rise by one for each,
POOL_LOW is judged, and the reader is told where the free count has risen from 0 (spec 06, R125). -/
def removeEntries (b : Bay) (unwanted : FaultEntry → Bool) (s : State) : State :=
  let n := ((s.bay b).faults.list.filter unwanted).length
  if n = 0 then s
  else
    onlyIf (decide (s.freeCount = 0)) readerResume
      (judgeLow
        (updFaults b
          (fun r => { r with list := r.list.filter (fun e => !unwanted e), revision := (r.revision + n) % 256 })
          { s with freeCount := s.freeCount + n }))

/-! ### Intake (spec 06, 6.3 and 6.4) -/

/-- A record offered to the Pool (spec 06, 6.3): a PART record is offered ACTIVE with 1 occurrence. -/
structure Offer where
  source : Nat
  code : Nat
  cls : FaultClass
  active : Bool
  occurrences : Nat
  deriving DecidableEq, Repr

/-- The intake outcomes (spec 06, 6.3). -/
inductive Intake where
  | merged | new | displaced | refused | noRoom
  deriving DecidableEq, Repr

/-- Spec 06, R119: the state of a COACH entry merged with a report. -/
def coachMergedState (active : Bool) : FaultState → FaultState
  | .active => if active then .active else .stored
  | .stored => if active then .active else .stored
  | .deferred => if active then .deferred else .stored
  | .clearPending => .clearPending

/-- Spec 06, R119, R120: the first-seen minute after a merge. -/
def mergedFirstSeen (now first : Option Nat) : Option Nat :=
  match first with
  | some m => some m
  | none => now

/-- Spec 06, R119: a COACH record merged into an entry. -/
def mergeCoach (now : Option Nat) (o : Offer) (e : FaultEntry) : FaultEntry :=
  { e with
    occurrences := saturate255 o.occurrences
    cls := o.cls
    seen := true
    lastSeen := now
    firstSeen := mergedFirstSeen now e.firstSeen
    state := coachMergedState o.active e.state
    expiry := if coachMergedState o.active e.state = .deferred then e.expiry else none }

/-- Spec 06, R120: a PART record merged into an entry. -/
def mergePart (now : Option Nat) (o : Offer) (e : FaultEntry) : FaultEntry :=
  { e with
    occurrences := saturate255 (e.occurrences + 1)
    cls := o.cls
    lastSeen := now
    firstSeen := mergedFirstSeen now e.firstSeen }

/-- A record merged into an entry, by its origin. -/
def mergeEntry (now : Option Nat) (o : Offer) (e : FaultEntry) : FaultEntry :=
  if isCoachSource o.source then mergeCoach now o e else mergePart now o e

/-- Spec 06, R119: the merge that announces: a STORED entry reported ACTIVE by its coach. -/
def mergeAnnounces (o : Offer) (e : FaultEntry) : Bool :=
  isCoachSource o.source && o.active && e.state == .stored

/-- Merge a record into the entry that stands in the list (spec 06, R118 to R120). -/
def mergeInto (b : Bay) (o : Offer) (e : FaultEntry) (s : State) : State :=
  tellIfBlocks b e.blocks (mergeEntry (minuteIfSet s) o e).blocks
    (onlyIf (mergeAnnounces o e) (post .faultNew b)
      (updEntry b o.source o.code (mergeEntry (minuteIfSet s) o) s))

/-- Spec 06, R121: the new entry of a record. -/
def freshEntry (now : Option Nat) (o : Offer) : FaultEntry where
  source := o.source
  code := o.code
  cls := o.cls
  state := if isCoachSource o.source && !o.active then .stored else .active
  occurrences := if isCoachSource o.source then saturate255 o.occurrences else 1
  firstSeen := now
  lastSeen := now
  expiry := none
  seen := isCoachSource o.source

/-- A new entry takes a free entry of the pool and joins the tail of the list (spec 06, R121). -/
def makeEntry (b : Bay) (o : Offer) (s : State) : State :=
  let e := freshEntry (minuteIfSet s) o
  tellIfBlocks b false e.blocks
    (judgeLow
      (post .faultNew b
        (updFaults b (fun r => { r with list := r.list ++ [e], revision := nextRevision r.revision })
          { s with freeCount := s.freeCount - 1 })))

/-- Spec 06, R122: an entry a record of this class may displace. -/
def displaceable (cls : FaultClass) (e : FaultEntry) : Bool :=
  e.state != .clearPending &&
    match e.cls, cls with
    | .info, _ => true
    | .advisory, .info => false
    | .advisory, .advisory => true
    | .advisory, .blocking => true
    | .blocking, _ => false

/-- The four turns of R122, in order. -/
def displacementTurns : List (FaultEntry → Bool) :=
  [fun e => e.cls == .info && e.state == .stored, fun e => e.cls == .info,
    fun e => e.cls == .advisory && e.state == .stored, fun e => e.cls == .advisory]

/-- Spec 06, R122: the entry to displace. -/
def displacement (list : List FaultEntry) (cls : FaultClass) : Option FaultEntry :=
  displacementTurns.findSome? fun turn => list.find? fun e => displaceable cls e && turn e

/-- Displace an entry: it is removed and a new one made within one intake, so that the free count ends where it began,
the list revision rises by 2, and nothing is judged or told of the count between (spec 06, R122, R126; log entry 14). -/
def displace (b : Bay) (o : Offer) (old : FaultEntry) (s : State) : State :=
  let e := freshEntry (minuteIfSet s) o
  tellIfBlocks b false e.blocks
    (post .faultNew b
      (updFaults b
        (fun r => { r with
          list := r.list.erase old ++ [e]
          revision := nextRevision (nextRevision r.revision) })
        s))

/-- Spec 06, R123: a refused record sets INCOMPLETE and the refusal mark, and the Clearance Unit is told where
INCOMPLETE was clear. -/
def refuseRecord (b : Bay) (s : State) : State :=
  onlyIf (!(s.bay b).faults.incomplete) (clearanceNews b .faultsIncomplete)
    (updFaults b (fun r => { r with incomplete := true, refusal := true }) s)

/-- Take in a record offered for a bay (spec 06, R118, R122 to R124). -/
def offer (b : Bay) (o : Offer) (s : State) : State × Intake :=
  match findEntry s b o.source o.code with
  | some e => (mergeInto b o e s, .merged)
  | none =>
    if (s.bay b).faults.list.length < (s.bay b).faults.quota then
      if 0 < s.freeCount then (makeEntry b o s, .new)
      else if isCoachSource o.source then (s, .noRoom)
      else (refuseRecord b s, .refused)
    else
      match displacement (s.bay b).faults.list o.cls with
      | some old => (displace b o old s, .displaced)
      | none => (refuseRecord b s, .refused)

/-- Offer a PART record, whose intake outcome its block does not act on (spec 05, R109; spec 03, R66). -/
def offerPart (b : Bay) (source code : Nat) (cls : FaultClass) (s : State) : State :=
  (offer b { source := source, code := code, cls := cls, active := true, occurrences := 1 } s).1

/-- The allocator records a stuck contactor in the bay's list (spec 03, R66; spec 08, R165). -/
def recordStuck (b : Bay) (s : State) : State := offerPart b baySource contactorStuck .blocking s

/-! ### Read passes (spec 06, R127) -/

/-- A read pass has begun from record 0: the seen marks and the refusal mark are cleared. -/
def passBegun (b : Bay) (s : State) : State :=
  updFaults b
    (fun r => { r with
      list := r.list.map fun e => if isCoachSource e.source then { e with seen := false } else e
      refusal := false })
    s

/-- Spec 06, R127: the entries that a completed pass retires. -/
def retired (e : FaultEntry) : Bool := isCoachSource e.source && !e.seen && e.state != .clearPending

/-- A read pass has completed: the unseen COACH entries are retired, and INCOMPLETE is cleared where nothing was
refused. -/
def passCompleted (b : Bay) (s : State) : State :=
  updFaults b (fun r => { r with incomplete := r.incomplete && r.refusal }) (removeEntries b retired s)

/-! ### Clears (spec 06, R132) -/

/-- What the reader brings back of a clear. -/
inductive ClearAnswer where
  | confirmed | stillActive | dropped
  deriving DecidableEq, Repr

/-- A CLEAR_PENDING entry returns to ACTIVE. -/
def FaultEntry.reactivated (e : FaultEntry) : FaultEntry := { e with state := .active }

/-- The Pool takes the answer of a clear; one for an entry that is not CLEAR_PENDING is discarded (spec 06, R132). -/
def clearAnswered (b : Bay) (source code : Nat) (a : ClearAnswer) (s : State) : State :=
  match findEntry s b source code with
  | some e =>
    if e.state = .clearPending then
      match a with
      | .confirmed => removeEntries b (FaultEntry.matches source code) s
      | .stillActive =>
        onlyIf (decide (e.cls = .blocking)) (clearanceNews b .blockingFault)
          (post .faultNew b (updEntry b source code FaultEntry.reactivated s))
      | .dropped => updEntry b source code FaultEntry.reactivated s
    else s
  | none => s

/-- The reader is handed a pending clear, and the bay is placed in the queue unless it is in it, suspended or being
visited (spec 07, R140). -/
def handClear (b : Bay) (source code : Nat) (s : State) : State :=
  let handed := updReader b (fun r => { r with clears := r.clears ++ [(source, code)] }) s
  if s.readerQueue.contains b || s.suspended.contains b || visiting s b then handed else placeTail b handed

/-- CLEAR_FAULT of a COACH entry that is not yet CLEAR_PENDING (spec 06, R132). -/
def askClear (b : Bay) (e : FaultEntry) (s : State) : State :=
  handClear b e.source e.code
    (tellIfBlocks b e.blocks (decide (e.cls = .blocking))
      (updEntry b e.source e.code (fun e => { e with state := .clearPending, expiry := none }) s))

/-! ### Deferrals (spec 06, R131) -/

/-- A DEFERRED entry whose expiry has been reached. -/
def FaultEntry.expired (now : Nat) (e : FaultEntry) : Bool :=
  e.state == .deferred &&
    match e.expiry with
    | some m => decide (m ≤ now)
    | none => false

/-- The deferrals of one bay expire; the Clearance Unit is told, and revokes for a BLOCKING one (spec 06, R131; spec
08, R161). -/
def expireDeferrals (b : Bay) (s : State) : State :=
  let now := s.clock.minute
  onlyIf ((s.bay b).faults.list.any fun e => e.expired now && e.cls == .blocking) (clearanceNews b .blockingFault)
    (updFaults b
      (fun r => { r with
        list := r.list.map fun e => if e.expired now then { e with state := .active, expiry := none } else e })
      s)

/-! ### The vacancy cleanup (spec 01, R12, step 1) -/

/-- Every entry of the bay's list returns to the pool, and INCOMPLETE and the refusal mark are clear. -/
def emptyFaults (b : Bay) (s : State) : State :=
  updFaults b (fun r => { r with incomplete := false, refusal := false }) (removeEntries b (fun _ => true) s)

end Sys2Proof.Machine
end

