-- ==== Sys2Proof/Machine/Contactors.lean ====
section
/-! DEFINITION. What the Supply Allocator makes of a reported closed count: the excess reduction, the stuck watch and the
stuck mark (spec 03, R65 to R67). -/

namespace Sys2Proof.Machine

/-- A contactor is found stuck: the mark, EQUIPMENT, the BAY entry where a coach stands, and the Clearance Unit told
(spec 03, R66; spec 08, R161). -/
def foundStuck (b : Bay) (s : State) : State :=
  let marked := post .equipment b (updPower b (fun p => { p with stuck := true, watch := none }) s)
  clearanceNews b .equipment (onlyIf (occupied s b) (recordStuck b) marked)

/-- The stuck watch takes a good poll: the first at or below the commanded target ends it, the second still above finds
the contactor stuck (spec 03, R66). -/
def watchPoll (b : Bay) (s : State) : State :=
  match (s.bay b).power.watch with
  | none => s
  | some k =>
    if (s.bay b).power.closed ≤ (s.bay b).power.commanded then updPower b (fun p => { p with watch := none }) s
    else if k = 0 then updPower b (fun p => { p with watch := some 1 }) s
    else foundStuck b s

/-- Spec 03, R67: the stuck mark is cleared by a count at or below the commanded target. -/
def judgeStuckMark (b : Bay) (s : State) : State :=
  onlyIf (decide ((s.bay b).power.closed ≤ (s.bay b).power.commanded))
    (updPower b fun p => { p with stuck := false }) s

/-- Spec 03, R65: more contactors are closed than commanded with no STAGE of the bay in flight. -/
def hasExcess (s : State) (b : Bay) : Bool :=
  decide ((s.bay b).power.commanded < (s.bay b).power.closed) && !anyOf s b .stage &&
    (s.bay b).power.watch.isNone && !(s.bay b).power.stuck

/-- The reduction of R65. -/
def reduceExcess (b : Bay) (s : State) : State :=
  onlyIf (hasExcess s b) (askReduction b (s.bay b).power.commanded) s

/-- The allocator takes the closed count of a good poll (spec 03, R60, R62, R65 to R67). -/
def allocatorCount (b : Bay) (count : Nat) (s : State) : State :=
  reduceExcess b
    (watchPoll b
      (judgeStuckMark b (updPower b (fun p => { p with closed := count, polledSince := true }) s)))

/-- The Allocator takes the closed count, and the Planner's STOPPING ends on a count of 0 (spec 03, R65 to R67; spec
04, R86). -/
def closedCount (b : Bay) (count : Nat) (s : State) : State := stoppingToOff b (allocatorCount b count s)

/-- The allocator's changes when a bay becomes LOST: no command is sent, the marks are cleared, and an increase comes
back (spec 03, R67). -/
def allocatorLost (b : Bay) (s : State) : State :=
  freeIncrease b
    (updPower b
      (fun p => { p with commanded := 0, watch := none, stuck := false, refused := false, stepHold := false }) s)

end Sys2Proof.Machine
end

