-- ==== Sys2Proof/Machine/Lamps.lean ====
section
/-! DEFINITION. The Lamp Check Engine: starting a check, slots, samples and bands, completion, abort and the lit mark
(spec 05). -/

namespace Sys2Proof.Machine

/-! ### The stale mark (spec 05, R95) -/

/-- Spec 05, R95: the result has outlived the lamp validity, or has no completion minute. -/
def isStale (s : State) (b : Bay) : Bool :=
  ((s.bay b).lamp.result == .passed || (s.bay b).lamp.result == .failed) &&
    match (s.bay b).lamp.completion with
    | some m => decide (s.settings.lampValidity < s.clock.minute - m)
    | none => true

/-- Judge the stale mark; the Clearance Unit is told where it is newly set on a PASSED result (spec 05, R95). -/
def judgeStale (b : Bay) (s : State) : State :=
  onlyIf (isStale s b && !(s.bay b).lamp.stale && (s.bay b).lamp.result == .passed) (clearanceNews b .lampsStale)
    (updLamp b (fun l => { l with stale := isStale s b }) s)

/-! ### The lit mark and LAMP_OFF (spec 05, R113) -/

/-- Spec 05, R113: a LAMP_OFF is asked again after 10 s. -/
def offRetryDelay : Moment := 10 * Config.sec

/-- A LAMP_OFF ended FAILED or NOT_SENT: it is asked again 10 s later while the lit mark is set and no slot holds a
check for the bay. -/
def lampOffFailed (b : Bay) (s : State) : State :=
  updLamp b
    (fun l => { l with
      offRetryAt := if l.lit && l.slot.isNone then some (s.time + offRetryDelay) else l.offRetryAt })
    s

/-- A LAMP_OFF ended DONE or REFUSED: the lit mark is cleared. -/
def lampOffTaken (b : Bay) (s : State) : State :=
  updLamp b (fun l => { l with lit := false, offRetryAt := none }) s

/-- Ask LAMP_OFF, which takes the place of a pending lamp transaction of the bay; it is answered NOT_SENT where the bay
cannot be reached. -/
def askLampOff (b : Bay) (s : State) : State :=
  if reachable s b then askReplacing b .lampOff (updLamp b (fun l => { l with offRetryAt := none }) s)
  else lampOffFailed b s

/-- A check has left its slot: what the engine had asked for it is dropped, and LAMP_OFF is asked where the lit mark is
set (spec 05, R111, R113). -/
def lampLeft (b : Bay) (s : State) : State :=
  onlyIf (s.bay b).lamp.lit (askLampOff b) (abandon b .lamp s)

/-! ### Defects (spec 05, R109) -/

/-- Spec 05, R109: the kind of defect of a band, none for IN. -/
def defectKind : Band → Option Nat
  | .low => some 1
  | .high => some 2
  | .none => some 3
  | .unstable => some 3
  | .in_ => none

/-- Spec 05, R109: a LAMPS entry of the circuit other than the one of this defect. -/
def supersededBy (circuit : Nat) (kind : Option Nat) (e : FaultEntry) : Bool :=
  e.source == lampsSource && decide (circuit * 4 + 1 ≤ e.code) && decide (e.code ≤ circuit * 4 + 3) &&
    decide (some e.code ≠ kind.map fun k => circuit * 4 + k)

/-- The fault class of a step's class. -/
def stepFaultClass : StepClass → FaultClass
  | .blocking => .blocking
  | .advisory => .advisory

/-- The first pass, one step: entries the step disproves are removed. -/
def removeDisproved (b : Bay) (r : LampStep × Band) (s : State) : State :=
  removeEntries b (supersededBy r.1.circuit (defectKind r.2)) s

/-- The second pass, one step: its defect is offered. -/
def offerDefect (b : Bay) (r : LampStep × Band) (s : State) : State :=
  match defectKind r.2 with
  | some k => offerPart b lampsSource (r.1.circuit * 4 + k) (stepFaultClass r.1.cls) s
  | none => s

/-- The step results go to the Fault Pool in two passes (spec 05, R109). -/
def writeDefects (b : Bay) (results : List (LampStep × Band)) (s : State) : State :=
  results.foldl (fun s r => offerDefect b r s) (results.foldl (fun s r => removeDisproved b r s) s)

/-! ### Completion (spec 05, R108) -/

/-- The lamp record of a completed check, and the stale mark judged. -/
def recordResult (b : Bay) (blocking advisory : Nat) (s : State) : State :=
  judgeStale b
    (updLamp b
      (fun l => { l with
        check := if 0 < blocking then .failed else .passed
        result := if 0 < blocking then .failed else .passed
        plan := none
        slot := none
        advisory := advisory
        completion := minuteIfSet s })
      s)

/-- A check of 0 steps completes without a slot (spec 05, R98, R100, R108). -/
def completeEmpty (b : Bay) (s : State) : State := post .lampDone b (recordResult b 0 0 s)

/-- A slot is freed and its context cleared. -/
def freeSlot (i : Fin 4) (s : State) : State := { s with slots := s.slots.set i none }

/-- The check of a slot completes, but for offering the slot to the queue (spec 05, R108). -/
def completeSlot (i : Fin 4) (c : Slot) (s : State) : State :=
  post .lampDone c.bay
    (giveBack (.slot i)
      (lampLeft c.bay
        (freeSlot i
          (writeDefects c.bay ((planOf s c.plan).zip c.results) (recordResult c.bay c.blocking c.advisory s)))))

/-! ### The queue and the slots (spec 05, R99, R100) -/

/-- The lowest-numbered free slot. -/
def freeSlotIn (s : State) : Option (Fin 4) := (List.finRange 4).find? fun i => s.slots[i].isNone

/-- The check plan of a bay, as it stands. -/
def checkPlan (s : State) (b : Bay) : Nat := (s.bay b).lamp.plan.getD 0

/-- The context of a slot just taken (spec 05, R100). -/
def newSlot (b : Bay) (plan : Nat) : Slot where
  bay := b
  plan := plan
  stepIndex := 0
  validSamples := 0
  lastBand := none
  results := []
  blocking := 0
  advisory := 0
  phase := .waitingPower
  step := none
  askedAt := 0
  nextAt := none

/-- The head of the queue takes a free slot and asks for its reservation (spec 05, R100). -/
def takeSlot (i : Fin 4) (b : Bay) (s : State) : State :=
  requestPower (.slot i)
    (updLamp b (fun l => { l with check := .waitingPower, slot := some i, offRetryAt := none })
      { s with slots := s.slots.set i (some (newSlot b (checkPlan s b))) })

/-- The head leaves the queue: it completes at once where its plan holds 0 steps, and else takes the lowest free slot
(spec 05, R100). -/
def takeHead (s : State) : State :=
  match s.lampQueue, freeSlotIn s with
  | b :: rest, some i =>
    if (planOf s (checkPlan s b)).isEmpty then completeEmpty b { s with lampQueue := rest }
    else takeSlot i b { s with lampQueue := rest }
  | _, _ => s

/-- As many heads as this many turns allow. -/
def takeHeads : Nat → State → State
  | 0, s => s
  | n + 1, s => takeHeads n (takeHead s)

/-- The queue's heads take slots until no slot is free or the queue is empty (spec 05, R100). -/
def takeSlots (s : State) : State := takeHeads s.lampQueue.length s

/-! ### Starting a check (spec 05, R96 to R98) -/

/-- The bay's check is QUEUED, WAITING_POWER or RUNNING. -/
def checkActive (s : State) (b : Bay) : Bool :=
  match (s.bay b).lamp.check with
  | .queued => true
  | .waitingPower => true
  | .running => true
  | .none => false
  | .passed => false
  | .failed => false
  | .aborted => false

/-- A bay joins the tail of the lamp queue (spec 05, R99). -/
def joinLampQueue (b : Bay) (s : State) : State := { s with lampQueue := s.lampQueue ++ [b] }

/-- A check starts on a bay (spec 05, R98). -/
def startCheck (b : Bay) (plan : Nat) (s : State) : State :=
  let begun :=
    clearanceNews b .checkInProgress
      (updLamp b
        (fun l => { l with
          plan := some plan, result := .inProgress, completion := none, advisory := 0, stale := false })
        s)
  if (planOf s plan).isEmpty then completeEmpty b begun
  else
    takeSlots (updLamp b (fun l => { l with check := .queued }) (joinLampQueue b begun))

/-- The automatic check, where R96's conditions hold (spec 05, R96). -/
def autoCheck (b : Bay) (s : State) : State :=
  match (s.bay b).table.lampPlan with
  | some n =>
    if (s.bay b).table.occ = .present ∧ checkActive s b = false ∧ (s.bay b).lamp.result = .none then
      startCheck b n s
    else s
  | none => s

/-! ### Abort (spec 05, R110 to R112) -/

/-- The lamp record after an abort: no result (spec 05, R111). -/
def LampRec.aborted (check : CheckState) (l : LampRec) : LampRec :=
  { l with
    check := check, result := .none, plan := none, slot := none, completion := none, advisory := 0,
    stale := false }

/-- A check that holds a slot is aborted: the step ends, the slot is freed, the lamp put out and the reservation given
back (spec 05, R111). -/
def abortSlot (i : Fin 4) (c : Slot) (s : State) : State :=
  giveBack (.slot i)
    (lampLeft c.bay (freeSlot i (onlyIf (decide (c.phase = .sampling)) (stepEnded c.bay) s)))

/-- A check is aborted, whatever the cause, leaving this check state (spec 05, R111). -/
def abortCheck (b : Bay) (check : CheckState) (s : State) : State :=
  if checkActive s b then
    let record := updLamp b (LampRec.aborted check) s
    match (s.bay b).lamp.slot with
    | some i =>
      match s.slots[i] with
      | some c => takeSlots (abortSlot i c record)
      | none => record
    | none => { record with lampQueue := record.lampQueue.filter (· != b) }
  else s

/-- The lamp record at vacancy (spec 01, R12; spec 05, R112). -/
def lampCleanup (b : Bay) (s : State) : State :=
  updLamp b (LampRec.aborted .none) (abortCheck b .none s)

/-! ### Power withdrawn (spec 05, R102) -/

/-- A running slot's reservation has been withdrawn. -/
def lampPowerWithdrawn (i : Fin 4) (s : State) : State :=
  match s.slots[i] with
  | some c =>
    let back := updLamp c.bay (fun l => { l with check := .waitingPower }) s
    if c.phase = .sampling then
      askLampOff c.bay
        (disownLamp c.bay
          (stepEnded c.bay
            (updSlot i
              (fun c => { c with
                phase := .waitingPower, validSamples := 0, lastBand := none, step := none, nextAt := none })
              back)))
    else updSlot i (fun c => { c with phase := .waitingPower }) back
  | none => s

/-! ### Samples and bands (spec 05, R104 to R107) -/

/-- Spec 05, R106: the band of a valid sample; no reading is NONE. -/
def bandOf (st : LampStep) : Option Nat → Band
  | none => .none
  | some r => if r < st.low then .low else if st.high < r then .high else .in_

/-- Spec 05, R105: how long before its outcome a STAGE discards a sample. -/
def blankingTime : Moment := 2 * Config.sec

/-- Spec 05, R105: the latest STAGE asked for the bay discards the sample. -/
def blanked (s : State) (c : Slot) : Bool :=
  match (s.bay c.bay).lamp.latestStage with
  | some t => decide (min c.askedAt (s.time - blankingTime) ≤ t)
  | none => false

/-- The next sample is asked 200 ms after this outcome (spec 05, R104). -/
def nextSample (i : Fin 4) (s : State) : State :=
  updSlot i (fun c => { c with nextAt := some (s.time + sampleInterval) }) s

/-- The failures of a step's class rise by one where its band is not IN (spec 05, R107). -/
def Slot.countBand (band : Band) (cls : StepClass) (c : Slot) : Slot :=
  if band = .in_ then c
  else
    match cls with
    | .blocking => { c with blocking := c.blocking + 1 }
    | .advisory => { c with advisory := c.advisory + 1 }

/-- The slot's context once a step's band is decided: the next step, after its LAMP_OFF (spec 05, R107). The valid samples and
the last band are cleared here, at the decision, and not as the next step begins: DESIGN CHOICE, log entry 37. -/
def Slot.decided (band : Band) (cls : StepClass) (c : Slot) : Slot :=
  { c.countBand band cls with
    results := c.results ++ [band], stepIndex := c.stepIndex + 1, phase := .betweenSteps, validSamples := 0,
    lastBand := none, step := none, nextAt := none }

/-- A step's band is decided: the check completes, or LAMP_OFF is asked (spec 05, R107). -/
def decideStep (i : Fin 4) (c : Slot) (st : LampStep) (band : Band) (s : State) : State :=
  let c' := c.decided band st.cls
  let ended := stepEnded c.bay (updSlot i (fun _ => c') s)
  if (planOf s c.plan).length ≤ c'.stepIndex then takeSlots (completeSlot i c' ended)
  else if reachable s c.bay then askLampOff c.bay ended
  else stepBegins i (lampOffFailed c.bay ended)

/-- A valid sample is classed, and decides the band or not (spec 05, R106). -/
def validSample (i : Fin 4) (c : Slot) (st : LampStep) (reading : Option Nat) (s : State) : State :=
  let band := bandOf st reading
  if c.lastBand = some band then decideStep i { c with validSamples := c.validSamples + 1 } st band s
  else if 4 ≤ c.validSamples + 1 then decideStep i { c with validSamples := c.validSamples + 1 } st .unstable s
  else
    nextSample i
      (updSlot i (fun c => { c with validSamples := c.validSamples + 1, lastBand := some band }) s)

/-- The engine takes the outcome of a LAMP_SAMPLE of a step in progress: `none` where it is no sample, else the sample's
reading, if it has one (spec 05, R104). -/
def takeSample (i : Fin 4) (outcome : Option (Option Nat)) (s : State) : State :=
  match s.slots[i] with
  | some c =>
    match c.phase, c.step, outcome with
    | .sampling, some st, some reading =>
      if blanked s c then nextSample i s else validSample i c st reading s
    | .sampling, some _, none => nextSample i s
    | _, _, _ => s
  | none => s

/-- The outcome of a LAMP_SAMPLE as the engine takes it (spec 05, R104). -/
def sampleOf (o : Handed) (reading : Option Nat) : Option (Option Nat) :=
  match o with
  | .done => some reading
  | .refused => some none
  | .failed => none
  | .notSent => none

/-- The engine takes a LAMP_SAMPLE's outcome, and discards it where the step it was asked for is over. -/
def sampleOutcome (b : Bay) (wanted : Bool) (o : Handed) (reading : Option Nat) (s : State) : State :=
  match wanted, (s.bay b).lamp.slot with
  | true, some i => takeSample i (sampleOf o reading) s
  | _, _ => s

/-- The lit mark follows a LAMP_OFF's outcome (spec 05, R113). -/
def litAfterOff (b : Bay) (o : Handed) (s : State) : State :=
  match o with
  | .done => lampOffTaken b s
  | .refused => lampOffTaken b s
  | .failed => lampOffFailed b s
  | .notSent => lampOffFailed b s

/-- The next step begins where the check stands between two steps, RUNNING (spec 05, R107). -/
def nextStep (b : Bay) (s : State) : State :=
  match (s.bay b).lamp.slot with
  | some i =>
    match s.slots[i] with
    | some c => if c.phase = .betweenSteps then stepBegins i s else s
    | none => s
  | none => s

/-- The engine takes a LAMP_OFF's outcome (spec 05, R107, R113). -/
def lampOffOutcome (b : Bay) (wanted : Bool) (o : Handed) (s : State) : State :=
  onlyIf wanted (nextStep b) (litAfterOff b o s)

/-! ### A plan is loaded (spec 05, R93) -/

/-- A slot in WAITING_POWER begins the loaded plan again; with 0 steps its check completes at once. -/
def restartSlot (n : Nat) (i : Fin 4) (s : State) : State :=
  match s.slots[i] with
  | some c =>
    if c.plan = n ∧ (s.bay c.bay).lamp.check = .waitingPower then
      let again : Slot :=
        { c with stepIndex := 0, results := [], blocking := 0, advisory := 0, validSamples := 0, lastBand := none }
      if (planOf s n).isEmpty then completeSlot i again (updSlot i (fun _ => again) s)
      else updSlot i (fun _ => again) s
    else s
  | none => s

/-- The check slots in order. -/
def allSlots : List (Fin 4) := List.finRange 4

/-- A lamp plan is replaced whole, with its effects on the checks that use it (spec 05, R93). -/
def loadPlan (n : Nat) (steps : List LampStep) (s : State) : State :=
  if h : n < 8 then
    takeSlots
      (allSlots.foldl (fun s i => restartSlot n i s) { s with lampPlans := s.lampPlans.set n steps })
  else s

/-- A check in state RUNNING is using the plan (spec 05, R93). -/
def planInUse (s : State) (n : Nat) : Bool :=
  allSlots.any fun i =>
    match s.slots[i] with
    | some c => c.plan == n && (s.bay c.bay).lamp.check == .running
    | none => false

end Sys2Proof.Machine
end

