-- ==== Sys2Proof/Machine/VisitEnds.lean ====
section
/-! DEFINITION. What other blocks bring to the Fault Reader: a bay that needs reading, and visits ended from outside
(spec 07, 7.8). -/

namespace Sys2Proof.Machine

/-- The visit ends from outside: the reader's pending transaction is withdrawn and what is on the line is no longer
wanted (spec 07, R147). -/
def cutVisit (b : Bay) (s : State) : State := withdrawAll b .reader { s with visit := none }

/-- A visit in progress at the bay ends from outside and gives its reservation back (spec 07, R147). -/
def endVisitOutside (b : Bay) (s : State) : State :=
  if visiting s b then giveBack .reader (cutVisit b s) else s

/-- The parting SLEEP, outside any visit: the reader does not wait for its outcome (spec 07, R148). -/
def partingSleep (b : Bay) (s : State) : State :=
  if reachable s b then
    updLane b .reader (fun l => { l with queued := some (newEntry .sleep s.time).unwanted }) s
  else s

/-- A bay is placed at the head of the reader queue, the return after a shed withdrawal (spec 07, R135, R148). -/
def placeHead (b : Bay) (s : State) : State :=
  if mayQueue s b then
    markQueued b { s with readerQueue := b :: s.readerQueue.filter (· != b) }
  else s

/-- A reader state of READING becomes QUEUED as the visit is withdrawn (spec 07, R148). -/
def ReaderRec.requeued (r : ReaderRec) : ReaderRec :=
  { r with state := if r.state = .reading then .queued else r.state }

/-- The allocator has withdrawn the wake reservation (spec 07, R148). -/
def visitWithdrawn (s : State) : State :=
  match s.visit with
  | some v =>
    askVisit
      (partingSleep v.bay (updReader v.bay ReaderRec.requeued (placeHead v.bay (cutVisit v.bay s))))
  | none => s

/-- Spec 07, R149: the reader state of a bay that becomes LOST. -/
def lostReaderState : ReaderState → ReaderState
  | .queued => .unread
  | .reading => .unread
  | .suspended => .unread
  | .unread => .unread
  | .complete => .complete
  | .failed => .failed

/-- The bay becomes LOST (spec 07, R149). -/
def readerLost (b : Bay) (s : State) : State :=
  leaveQueues b
    (updReader b (fun r => { r with state := lostReaderState r.state, failedVisits := 0 }) (endVisitOutside b s))

/-- The bay's release has begun (spec 07, R150). -/
def readerRelease (b : Bay) (s : State) : State :=
  leaveQueues b (onlyIf (visiting s b) (partingSleep b) (endVisitOutside b s))

/-- The bay's release has ended without the coach departing (spec 07, R150). -/
def readerReleaseEnded (b : Bay) (s : State) : State :=
  onlyIf (wantsRead s b || !(s.bay b).reader.clears.isEmpty) (placeTail b) s

/-- The reader's step of the vacancy cleanup (spec 07, R151). -/
def readerCleanup (b : Bay) (s : State) : State :=
  leaveQueues b (updReader b (fun _ => .reset) (endVisitOutside b s))

/-- The reader's step of the cleanup that R17 performs while the visit that made the read carries on (spec 07, R151). -/
def readerCleanupInVisit (b : Bay) (s : State) : State :=
  leaveQueues b (updReader b (fun _ => { ReaderRec.reset with passWanted := true, state := .reading }) s)

/-- The bay needs an identity read and a full read: both marks are set, the cursor is 0, and the bay is placed (spec 01,
R6, R16; spec 07, R149). -/
def needsReading (b : Bay) (s : State) : State :=
  placeTail b
    (updReader b (fun r => { r with identityWanted := true, passWanted := true, cursor := 0 }) s)

end Sys2Proof.Machine
end

