-- ==== Sys2Proof/Machine/Clearance.lean ====
section
/-! DEFINITION. The Clearance Unit: evaluation, revocation, the release sequence and its ends, holds (spec 08). -/

namespace Sys2Proof.Machine

/-! ### Evaluation (spec 08, R158) -/

/-- Spec 08, R158: NOT_IDENTIFIED. -/
def notIdentified (s : State) (b : Bay) : Bool :=
  match (s.bay b).table.occ with
  | .arriving => true
  | .present => (s.bay b).table.identity.isNone
  | .lost => (s.bay b).table.identity.isNone
  | .vacant => false
  | .outOfService => false

/-- The expected fleet number of a record is present and the identity's is absent or differs (spec 01, R9; spec 08,
R158). -/
def wrongCoach (identity : Option Identity) (departure : Option Departure) : Bool :=
  match departure with
  | some d =>
    match d.expected with
    | some n => decide (identity.map Identity.fleet ≠ some n)
    | none => false
  | none => false

/-- Spec 08, R158: HEAT_NOT_READY, where heat is not waived. -/
def heatNotReady (s : State) (b : Bay) : Bool :=
  match (s.bay b).heat.cabin, departureOf s b, (s.bay b).heat.profile with
  | some t, some d, some p => decide (t < d.target - (p.hysteresis : Int))
  | _, _, _ => true

/-- The evaluation of a request collects every reason that applies (spec 08, R158). -/
def evaluate (s : State) (b : Bay) (waive : Bool) : ReasonSet :=
  reasonIf ((s.bay b).table.occ == .outOfService) .outOfService |||
    reasonIf ((s.bay b).table.occ == .vacant) .noCoach |||
    reasonIf ((s.bay b).table.occ == .lost) .nodeLost |||
    reasonIf (notIdentified s b) .notIdentified |||
    reasonIf (departureOf s b).isNone .noDeparture |||
    reasonIf (wrongCoach (s.bay b).table.identity (departureOf s b)) .wrongCoach |||
    reasonIf (!waive && heatNotReady s b) .heatNotReady |||
    reasonIf (checkActive s b) .checkInProgress |||
    reasonIf ((s.bay b).lamp.result == .none) .lampsNotChecked |||
    reasonIf (s.bay b).lamp.stale .lampsStale |||
    reasonIf ((s.bay b).lamp.result == .failed) .lampsFailed |||
    reasonIf ((s.bay b).reader.state != .complete) .faultsNotRead |||
    reasonIf (s.bay b).faults.incomplete .faultsIncomplete |||
    reasonIf ((s.bay b).faults.list.any FaultEntry.blocks) .blockingFault |||
    reasonIf (!(s.bay b).clear.holds.isEmpty) .hold

/-- The clearance record an evaluation stores (spec 08, R159). -/
def ClearRec.judged (now : Moment) (waive : Bool) (reasons : ReasonSet) (c : ClearRec) : ClearRec :=
  if reasons = 0#18 then
    { c with state := .cleared, reasons := 0#18, waive := waive, validityFrom := some now }
  else { c with state := .refused, reasons := reasons, waive := false, validityFrom := none }

/-- The outcome of an evaluation is stored for a bay that holds a coach (spec 08, R157, R159). -/
def storeEvaluation (b : Bay) (waive : Bool) (s : State) : State :=
  if holdsCoach s b then
    postClearance b (updClear b (ClearRec.judged s.time waive (evaluate s b waive)) s)
  else s

/-! ### The latch (spec 08, R164, R166) -/

/-- The entry asks LATCH(open). -/
def Entry.opensLatch (e : Entry) : Bool := e.req == .latch true

/-- A LATCH(open) is in the bay's pending list or waiting out a BUSY. -/
def openPending (s : State) (b : Bay) : Bool :=
  (laneOf s b .latch).opened.any Entry.opensLatch || (laneOf s b .latch).queued.any Entry.opensLatch

/-- The entry, unless it asks LATCH(open). -/
def withoutOpen (e : Option Entry) : Option Entry := e.filter fun x => !x.opensLatch

/-- A LATCH(open) that is pending or waiting out a BUSY is withdrawn (spec 08, R164, R166, R170). -/
def withdrawOpen (b : Bay) (s : State) : State :=
  updLane b .latch (fun l => { opened := withoutOpen l.opened, queued := withoutOpen l.queued }) s

/-- A LATCH(open) of the bay on the line is no longer wanted. -/
def disownOpen (b : Bay) (s : State) : State :=
  { s with line := s.line.map fun l =>
      if l.bay = b ∧ l.entry.opensLatch then { l with entry := l.entry.unwanted } else l }

/-- LATCH(open) is asked for a release: the open asked mark is set and the relatch mark cleared (spec 08, R164,
R166). -/
def askOpen (b : Bay) (s : State) : State :=
  let marked := updClear b (fun c => { c with openAsked := true, relatch := false, relatchAt := none }) s
  if reachable s b then joinLatch b true marked else marked

/-- LATCH(close) is asked, with the relatch mark; one that is not sent clears the mark (spec 08, R164). -/
def askClose (b : Bay) (s : State) : State :=
  if reachable s b then joinLatch b false (updClear b (fun c => { c with relatch := true, relatchAt := none }) s)
  else updClear b (fun c => { c with relatch := false, relatchAt := none }) s

/-! ### The release sequence (spec 08, 8.5) -/

/-- The substep STOPPING_HEAT with a fresh stop limit. -/
def stopHeat (b : Bay) (s : State) : State :=
  updClear b (fun c => { c with substep := some .stoppingHeat, stopFrom := some s.time, latchFrom := none }) s

/-- RELEASE of a CLEARED bay (spec 08, R163). -/
def beginRelease (b : Bay) (s : State) : State :=
  readerRelease b
    (abortCheck b .aborted
      (heatWithdrawn b
        (postClearance b
          (stopHeat b (updClear b (fun c => { c with state := .releasing, validityFrom := none }) s)))))

/-- The latch may be open (spec 08, R164). -/
def mayBeOpen (c : ClearRec) : Bool := c.openAsked || c.state == .released

/-- The record as a release ends (spec 08, R164). -/
def ClearRec.ended (state : ClearState) (reasons : ReasonSet) (c : ClearRec) : ClearRec :=
  { c with
    state := state, reasons := reasons, substep := none, stopFrom := none, latchFrom := none, windowFrom := none,
    waive := false, openAsked := false }

/-- The relatch of a release that ends where the latch may be open and the bay can be reached (spec 08, R164). -/
def relatchAfter (wasOpen : Bool) (b : Bay) (s : State) : State :=
  if wasOpen && reachable s b then askClose b (updClear b (fun c => { c with relatchRefused := false }) s) else s

/-- A release ends without the coach's departure: the timers and marks are cleared, the latch closed again where it may
be open (a LATCH(close) takes the place of a pending LATCH(open), log entry 27), any LATCH(open) left is withdrawn,
CLEARANCE posted, and the Planner and the reader told (spec 08, R164). -/
def endRelease (b : Bay) (state : ClearState) (reasons : ReasonSet) (s : State) : State :=
  readerReleaseEnded b
    (judgePlan b
      (postClearance b
        (disownOpen b
          (withdrawOpen b
            (relatchAfter (mayBeOpen (s.bay b).clear) b (updClear b (ClearRec.ended state reasons) s))))))

/-- The Clearance Unit takes the closed count of a good poll (spec 08, R165, R166). -/
def clearanceCount (b : Bay) (count : Nat) (s : State) : State :=
  match (s.bay b).clear.state, (s.bay b).clear.substep with
  | .releasing, some .stoppingHeat =>
    if count = 0 then
      askOpen b (updClear b (fun c => { c with substep := some .unlatching, stopFrom := none }) s)
    else s
  | .releasing, some .unlatching =>
    if 0 < count ∧ openPending s b then stopHeat b (withdrawOpen b s) else s
  | _, _ => s

/-- The Clearance Unit takes the latch of a good poll (spec 08, R167). -/
def clearanceLatch (b : Bay) (latch : Latch) (s : State) : State :=
  match (s.bay b).clear.state, (s.bay b).clear.substep, (s.bay b).clear.latchFrom, latch with
  | .releasing, some .unlatching, some _, .open_ =>
    postClearance b
      (updClear b
        (fun c => { c with state := .released, substep := none, latchFrom := none, windowFrom := some s.time })
        s)
  | _, _, _, _ => s

/-- The outcome of the release's LATCH(open) (spec 08, R166). -/
def openOutcome (b : Bay) (o : Handed) (s : State) : State :=
  match o with
  | .done => updClear b (fun c => { c with latchFrom := some s.time }) s
  | .refused => endRelease b .revoked (only .equipment) (post .equipment b s)
  | .failed => if (s.bay b).power.closed = 0 then askOpen b s else stopHeat b s
  | .notSent => s

/-- Spec 08, R164: a refused relatch is asked again after 10 s. -/
def relatchDelay : Moment := 10 * Config.sec

/-- The outcome of a relatch's LATCH(close) (spec 08, R164). -/
def closeOutcome (b : Bay) (o : Handed) (s : State) : State :=
  match o with
  | .done => updClear b (fun c => { c with relatch := false, relatchAt := none }) s
  | .failed => askClose b s
  | .refused =>
    onlyIf (!(s.bay b).clear.relatchRefused) (post .equipment b)
      (updClear b (fun c => { c with relatchRefused := true, relatchAt := some (s.time + relatchDelay) }) s)
  | .notSent => updClear b (fun c => { c with relatch := false, relatchAt := none }) s

/-- The Clearance Unit takes a LATCH outcome: a LATCH(open) while it unlatches, a LATCH(close) while it relatches, and
discards any other (spec 02, R29; spec 08, R164, R166). -/
def latchOutcome (b : Bay) (open_ wanted : Bool) (o : Handed) (s : State) : State :=
  if open_ then
    if wanted ∧ (s.bay b).clear.state = .releasing ∧ (s.bay b).clear.substep = some .unlatching then
      openOutcome b o s
    else s
  else if (s.bay b).clear.relatch then closeOutcome b o s
  else s

/-! ### Timers (spec 08, R160, R165 to R167) -/

/-- The stop limit and the latch limit. -/
def limitLength : Moment := 30 * Config.sec

/-- The moment a CLEARED bay's validity runs out (spec 08, R160). -/
def validityEnd (s : State) (b : Bay) : Option Moment :=
  (s.bay b).clear.validityFrom.map fun t => t + s.settings.clearanceValidity * 60 * Config.sec

/-- The moment a RELEASED bay's window runs out (spec 08, R160, R167). -/
def windowEnd (s : State) (b : Bay) : Option Moment :=
  (s.bay b).clear.windowFrom.map fun t => t + s.settings.releaseWindow * Config.sec

/-- The validity runs out (spec 08, R160). -/
def validityExpires (b : Bay) (s : State) : State :=
  postClearance b
    (updClear b (fun c => { c with state := .lapsed, reasons := only .validity, validityFrom := none }) s)

/-- The stop limit runs out: the release ends, and the allocator records the stuck contactor (spec 08, R165). -/
def stopLimitExpires (b : Bay) (s : State) : State :=
  recordStuck b
    (post .equipment b
      (updPower b (fun p => { p with stuck := true }) (endRelease b .revoked (only .equipment) s)))

/-- The latch limit runs out (spec 08, R166). -/
def latchLimitExpires (b : Bay) (s : State) : State :=
  endRelease b .revoked (only .equipment) (post .equipment b s)

/-- The release window runs out (spec 08, R167). -/
def windowExpires (b : Bay) (s : State) : State := endRelease b .lapsed (only .releaseLapsed) s

/-! ### Withdrawal, loss, departure and holds -/

/-- WITHDRAW_CLEARANCE (spec 08, R168). -/
def withdrawClearance (b : Bay) (s : State) : State :=
  if inRelease s b then endRelease b .idle 0#18 s
  else if (s.bay b).clear.state = .idle then s
  else
    postClearance b
      (updClear b (fun c => { c with state := .idle, reasons := 0#18, waive := false, validityFrom := none }) s)

/-- The bay has become LOST (spec 08, R169). -/
def clearanceLost (b : Bay) (s : State) : State :=
  match (s.bay b).clear.state with
  | .releasing => endRelease b .revoked (only .nodeLost) s
  | .released => endRelease b .lapsed (only .nodeLost) s
  | .cleared => clearanceNews b .nodeLost s
  | .revoked => clearanceNews b .nodeLost s
  | .idle => s
  | .refused => s
  | .lapsed => s

/-- The Clearance Unit's step of the vacancy cleanup (spec 08, R170). -/
def clearanceCleanup (b : Bay) (s : State) : State :=
  onlyIf (decide ((s.bay b).clear.state ≠ .idle)) (postClearance b)
    (updClear b (fun _ => .reset)
      (disownOpen b
        (withdrawOpen b (onlyIf (!(s.bay b).clear.holds.isEmpty) (post .hold b) s))))

/-- What a hold just placed does to the clearance (spec 08, R156). -/
def holdPlaced (b : Bay) (s : State) : State :=
  match (s.bay b).clear.state with
  | .releasing => endRelease b .revoked (only .hold) s
  | .cleared => clearanceNews b .hold s
  | .revoked => clearanceNews b .hold s
  | .idle => s
  | .refused => s
  | .lapsed => s
  | .released => s

/-- PLACE_HOLD, once its conditions have been judged (spec 08, R154, R156). -/
def placeHold (b : Bay) (h : Hold) (s : State) : State :=
  holdPlaced b (post .hold b (updClear b (fun c => { c with holds := c.holds ++ [h] }) s))

/-- LIFT_HOLD of a hold that stands (spec 08, R155). -/
def liftHold (b : Bay) (tag : Nat) (s : State) : State :=
  post .hold b (updClear b (fun c => { c with holds := c.holds.filter (·.tag != tag) }) s)

end Sys2Proof.Machine
end

