-- ==== Sys2Proof/Machine/Departures.lean ====
section
/-! DEFINITION. Departure records, the departure list, OVERDUE and the coach mismatch test (spec 01, R9, R21 to R25; spec
09, R181). -/

namespace Sys2Proof.Machine

/-- Spec 01, R24: earlier minute first, and among equal minutes the lower bay. -/
def DepartureEntry.before (x y : DepartureEntry) : Bool :=
  decide (x.minute < y.minute) || (x.minute == y.minute && decide (x.bay < y.bay))

/-- Insert an entry at its place in the order (spec 01, R24). -/
def insertDeparture (e : DepartureEntry) : List DepartureEntry → List DepartureEntry
  | [] => [e]
  | x :: rest => if e.before x then e :: x :: rest else x :: insertDeparture e rest

/-- The list without a bay's entry. -/
def withoutBay (b : Bay) (l : List DepartureEntry) : List DepartureEntry := l.filter (·.bay != b)

/-- The departure list revision rises by one at a change of the list or of a record in it: one for a record written, however
many of its fields and its place change, one for an entry removed and one for an OVERDUE mark set (spec 09, R181; log
entry 18). -/
def departuresChanged (s : State) : State := { s with departuresRevision := nextRevision s.departuresRevision }

/-- Set a bay's departure record, with its place in the list (spec 01, R22, R24). -/
def writeDeparture (b : Bay) (d : Departure) (s : State) : State :=
  departuresChanged
    (updTable b (fun t => { t with departure := some d })
      { s with departures := insertDeparture { bay := b, minute := d.minute } (withoutBay b s.departures) })

/-- A bay's departure record and its entry in the list are taken away (spec 01, R23, R24). -/
def dropDeparture (b : Bay) (s : State) : State :=
  departuresChanged
    (updTable b (fun t => { t with departure := none }) { s with departures := withoutBay b s.departures })

/-- Remove a bay's departure record and its entry, where it has one, and recompute the grants on the new list (spec 01,
R12, R18, R24; spec 03, R58). -/
def removeDeparture (b : Bay) (s : State) : State :=
  if (departureOf s b).isSome then recompute none (dropDeparture b s) else s

/-- Spec 01, R25: OVERDUE is to be posted for the bay. -/
def isOverdue (s : State) (b : Bay) : Bool :=
  match departureOf s b with
  | some d =>
    s.clock.isSet && decide (d.minute < s.clock.minute) && !d.overdue && (s.bay b).clear.state != .released
  | none => false

/-- Judge OVERDUE: it is posted and the record's mark set, a change of the list's records of its own for each bay (spec 01,
R25; spec 09, R181; log entry 18). -/
def judgeOverdue (b : Bay) (s : State) : State :=
  if isOverdue s b then
    post .overdue b
      (departuresChanged
        (updTable b (fun t => { t with departure := t.departure.map fun d => { d with overdue := true } }) s))
  else s

/-- Spec 01, R9: the test finds a mismatch. -/
def mismatch (s : State) (b : Bay) : Bool :=
  (s.bay b).table.occ == .present && wrongCoach (s.bay b).table.identity (departureOf s b)

/-- The coach mismatch test (spec 01, R9). -/
def testMismatch (b : Bay) (s : State) : State := onlyIf (mismatch s b) (post .coachMismatch b) s

/-- The reason a replaced record revokes with (spec 08, R161). -/
def replacedReason (s : State) (b : Bay) : Reason := if mismatch s b then .wrongCoach else .noDeparture

/-- SET_DEPARTURE with values that differ from those held (spec 01, R22): the list, the Planner, the allocator and the
Clearance Unit are told, the mismatch test made and OVERDUE judged. The revision rises by one for the record written, and by
one more where OVERDUE is marked at once (log entry 18). -/
def replaceDeparture (b : Bay) (d : Departure) (s : State) : State :=
  let written := recompute none (heatDepartureSet b (writeDeparture b d s))
  judgeOverdue b (testMismatch b (clearanceNews b (replacedReason written b) written))

/-- CANCEL_DEPARTURE of a record that stands: the record and its entry go, the Planner is told and withdraws the bay's
demand before the grants are worked out on the new list, so that no event is posted, and the Clearance Unit is told (spec
01, R23; spec 03, R57, R58; spec 04, R85). -/
def cancelDeparture (b : Bay) (s : State) : State :=
  clearanceNews b .noDeparture (recompute none (heatWithdrawn b (dropDeparture b s)))

end Sys2Proof.Machine
end

