-- ==== Sys2Proof/Machine/BayTable.lean ====
section
/-! DEFINITION. The occupancy state machine: arrival, identification, departure and the vacancy cleanup, loss and
recovery, service configuration (spec 01). -/

namespace Sys2Proof.Machine

/-! ### The vacancy cleanup (spec 01, R12) -/

/-- The reader's step of the cleanup, with the visit ended or carried on (spec 07, R151). -/
def cleanupReader (carryVisit : Bool) (b : Bay) (s : State) : State :=
  if carryVisit then readerCleanupInVisit b s else readerCleanup b s

/-- The vacancy cleanup, in the order of R12's seven steps. -/
def vacancyCleanup (keepDeparture carryVisit : Bool) (b : Bay) (s : State) : State :=
  let emptied := emptyFaults b s
  let unread := cleanupReader carryVisit b emptied
  let idle := clearanceCleanup b unread
  let unchecked := lampCleanup b idle
  let unknown := updTable b (fun t => { t with identity := none, lampPlan := none, recovery := false }) unchecked
  let cold := heatCleanup b unknown
  onlyIf (!keepDeparture) (removeDeparture b) cold

/-- A coach has departed: the kind, DEPARTED and the cleanup (spec 01, R10, R11, R15, R17, R18). -/
def departs (kind : DepartureKind) (keepDeparture carryVisit : Bool) (b : Bay) (s : State) : State :=
  vacancyCleanup keepDeparture carryVisit b
    (post .departed b (updTable b (fun t => { t with lastDeparture := some kind }) s))

/-- The bay becomes VACANT with no plug count. -/
def becomeVacant (b : Bay) (s : State) : State :=
  updTable b (fun t => { t with occ := .vacant, beforeLoss := none, plugCount := 0 }) s

/-- A clean departure (spec 01, R10). -/
def cleanDeparture (b : Bay) (s : State) : State := becomeVacant b (departs .clean false false b s)

/-- An unreleased departure (spec 01, R11). -/
def unreleasedDeparture (b : Bay) (s : State) : State := becomeVacant b (departs .unreleased true false b s)

/-! ### Arrival and identification (spec 01, R6 to R8, R17) -/

/-- The bay becomes ARRIVING with the effects of R6. -/
def becomeArriving (b : Bay) (s : State) : State :=
  needsReading b
    (post .arrival b
      (updHeat b (fun h => { h with profile := none })
        (updTable b
          (fun t => { t with
            occ := .arriving, beforeLoss := none, recovery := false, plugCount := 0, identity := none,
            lampPlan := t.planOverride })
          s)))

/-- Spec 01, R1: the lamp plan number is the override if there is one, else the coach type. -/
def lampPlanFor (override : Option Nat) (identity : Option Identity) : Option Nat :=
  match override with
  | some n => some n
  | none => identity.map Identity.coachType

/-- The bay is PRESENT with this identity, or with none, and IDENTIFIED is posted (spec 01, R7, R8). -/
def becomePresent (b : Bay) (identity : Option Identity) (s : State) : State :=
  post .identified b
    (updTable b
      (fun t => { t with
        occ := .present, recovery := false, identity := identity,
        lampPlan := lampPlanFor t.planOverride identity })
      s)

/-- A valid identity has been read (spec 01, R7). -/
def identified (b : Bay) (i : Identity) (s : State) : State :=
  testMismatch b (autoCheck b (judgePlan b (copyProfile b i.coachType (becomePresent b (some i) s))))

/-- No valid identity could be read (spec 01, R8). -/
def unidentified (b : Bay) (s : State) : State := testMismatch b (autoCheck b (becomePresent b none s))

/-- The coach that was on a recovering bay is gone and another stands there: an unobserved departure and ARRIVAL (spec
01, R17). -/
def otherCoach (carryVisit : Bool) (b : Bay) (s : State) : State :=
  post .arrival b (departs .unobserved true carryVisit b s)

/-- The same coach is found again (spec 01, R17; spec 07, R149). -/
def sameCoach (b : Bay) (s : State) : State :=
  testMismatch b
    (autoCheck b
      (heatRecovered b
        (updReader b (fun r => { r with state := if visiting s b then .reading else .unread })
          (post .identified b (updTable b (fun t => { t with occ := .present, recovery := false }) s)))))

/-- Spec 01, R7, R8: the identity as read, where its fleet number and coach type are valid. -/
def validIdentity (fleet coachType : Nat) : Option Identity :=
  if 1 ≤ fleet ∧ fleet ≤ 65535 ∧ coachType ≤ 7 then some { fleet := fleet, coachType := coachType } else none

/-- The bay takes a read identity by R7, or an invalid one by R8. -/
def takeIdentity (b : Bay) (identity : Option Identity) (s : State) : State :=
  match identity with
  | some i => identified b i s
  | none => unidentified b s

/-- The outcome of a recovering bay's re-read that came back (spec 01, R17). -/
def recoveredIdentity (b : Bay) (identity : Option Identity) (s : State) : State :=
  match identity, (s.bay b).table.identity with
  | some i, some held => if i.fleet = held.fleet then sameCoach b s else takeIdentity b identity (otherCoach true b s)
  | _, _ => takeIdentity b identity (otherCoach true b s)

/-- The Bay Table takes an identity the reader has read (spec 01, R7, R8, R17; spec 07, R139). -/
def identityRead (b : Bay) (fleet coachType : Nat) (s : State) : State :=
  match (s.bay b).table.occ with
  | .arriving =>
    if (s.bay b).table.recovery then recoveredIdentity b (validIdentity fleet coachType) s
    else takeIdentity b (validIdentity fleet coachType) s
  | .present => takeIdentity b (validIdentity fleet coachType) s
  | .vacant => s
  | .lost => s
  | .outOfService => s

/-- The Bay Table is told that the identity read has FAILED (spec 01, R8, R17; spec 07, R138, R151). -/
def identityFailed (b : Bay) (s : State) : State :=
  match (s.bay b).table.occ with
  | .arriving =>
    if (s.bay b).table.recovery then
      unidentified b (updReader b (fun r => { r with state := .failed }) (otherCoach false b s))
    else unidentified b s
  | .present => unidentified b s
  | .vacant => s
  | .lost => s
  | .outOfService => s

/-! ### Polls and the plug (spec 01, R4, R5) -/

/-- Spec 01, R5: the plug reading contrary to the occupancy. -/
def contrary : Occupancy → Plug → Bool
  | .vacant, .in_ => true
  | .arriving, .out => true
  | .present, .out => true
  | .vacant, .out => false
  | .arriving, .in_ => false
  | .present, .in_ => false
  | .lost, _ => false
  | .outOfService, _ => false

/-- Spec 01, R5: the mark of a bay, taken afresh from its clearance. -/
def plugMark (s : State) (b : Bay) : Nat :=
  if (s.bay b).table.occ = .present ∧ (s.bay b).clear.state = .released then 2 else 3

/-- The transition at the mark (spec 01, R5). -/
def plugTransition (b : Bay) (s : State) : State :=
  match (s.bay b).table.occ with
  | .vacant => becomeArriving b s
  | .arriving => unreleasedDeparture b s
  | .present => if (s.bay b).clear.state = .released then cleanDeparture b s else unreleasedDeparture b s
  | .lost => s
  | .outOfService => s

/-- The plug count takes one reply's plug (spec 01, R5). -/
def countPlug (b : Bay) (plug : Plug) (s : State) : State :=
  if contrary (s.bay b).table.occ plug then
    if plugMark s b ≤ (s.bay b).table.plugCount + 1 then
      plugTransition b (updTable b (fun t => { t with plugCount := 0 }) s)
    else updTable b (fun t => { t with plugCount := t.plugCount + 1 }) s
  else updTable b (fun t => { t with plugCount := 0 }) s

/-- The last-polled plug and latch (spec 01, R4). -/
def storePolled (b : Bay) (plug : Plug) (latch : Latch) (s : State) : State :=
  updTable b (fun t => { t with plug := some plug, latch := some latch }) s

/-- The Bay Table takes a poll reply of a bay that is not LOST (spec 01, R4). -/
def tablePoll (b : Bay) (plug : Plug) (latch : Latch) (s : State) : State :=
  countPlug b plug (storePolled b plug latch s)

/-! ### The sweep and the probes (spec 01, R3, R15, R16) -/

/-- A sweep poll was answered (spec 01, R3). -/
def sweepAnswered (b : Bay) (plug : Plug) (latch : Latch) (s : State) : State :=
  let found := storePolled b plug latch (updTable b (fun t => { t with discovered := true }) s)
  match plug with
  | .out => becomeVacant b found
  | .in_ => becomeArriving b found

/-- A sweep poll failed (spec 01, R3). -/
def sweepFailed (b : Bay) (s : State) : State :=
  post .nodeLost b (updTable b (fun t => { t with discovered := true }) s)

/-- A probe answered with plug OUT (spec 01, R15). -/
def probeOut (b : Bay) (s : State) : State :=
  if (s.bay b).table.beforeLoss = some .arriving ∨ (s.bay b).table.beforeLoss = some .present then
    becomeVacant b (departs .unobserved true false b s)
  else becomeVacant b s

/-- A probe answered with plug IN (spec 01, R16). -/
def probeIn (b : Bay) (s : State) : State :=
  match (s.bay b).table.beforeLoss with
  | some .present =>
    needsReading b
      (updTable b (fun t => { t with occ := .arriving, beforeLoss := none, recovery := true, plugCount := 0 }) s)
  | some .arriving =>
    needsReading b
      (updTable b (fun t => { t with occ := .arriving, beforeLoss := none, recovery := false, plugCount := 0 }) s)
  | _ => becomeArriving b s

/-- A probe was answered (spec 01, R15, R16). -/
def probeAnswered (b : Bay) (plug : Plug) (latch : Latch) (s : State) : State :=
  let back := post .nodeBack b (storePolled b plug latch s)
  match plug with
  | .out => probeOut b back
  | .in_ => probeIn b back

/-! ### Node loss (spec 01, R13, R14) -/

/-- Spec 01, R13: the occupancy before loss that is stored. -/
def storedBeforeLoss (t : TableRec) : Occupancy :=
  if t.occ = .arriving ∧ t.recovery then .present else t.occ

/-- The bay's table record as it becomes LOST (spec 01, R13). -/
def TableRec.lost (t : TableRec) : TableRec :=
  { t with occ := .lost, beforeLoss := some (storedBeforeLoss t), recovery := false, plugCount := 0 }

/-- The bay becomes LOST, and each block that works on it is told (spec 01, R13, R14). -/
def bayLost (b : Bay) (s : State) : State :=
  clearanceLost b
    (readerLost b
      (abortCheck b .aborted
        (heatLost (decide (storedBeforeLoss (s.bay b).table = .present)) b
          (allocatorLost b (post .nodeLost b (updTable b TableRec.lost s))))))

/-! ### Pending entries that come back NOT_SENT (spec 02, R36, R42) -/

/-- An owner is handed NOT_SENT for an entry of the pending list. A reader entry is taken by what removed it (spec 07,
R137, R140). -/
def entryNotSent (b : Bay) (e : Entry) (s : State) : State :=
  match e.req with
  | .stage _ increase => stageOutcome b increase .notSent s
  | .latch open_ => latchOutcome b open_ e.wanted .notSent s
  | .lampSample _ _ => sampleOutcome b e.wanted .notSent none s
  | .lampOff => lampOffOutcome b e.wanted .notSent s
  | .poll => s
  | .wake => s
  | .ident => s
  | .snapshot => s
  | .fetch _ => s
  | .clear _ _ => s
  | .sleep => s

/-- The entries of a lane, the open one first. -/
def Lane.entries (l : Lane) : List Entry := l.opened.toList ++ l.queued.toList

/-- The entries of a bay, its polls apart. -/
def LoopRec.entries (l : LoopRec) : List Entry :=
  l.stage.entries ++ l.latch.entries ++ l.lamp.entries ++ l.reader.entries

/-- Every pending entry of the bay is removed, its failure count is 0, and each owner is handed NOT_SENT (spec 02, R36,
R42). -/
def dropPending (b : Bay) (s : State) : State :=
  (s.bay b).loop.entries.foldl (fun s e => entryNotSent b e s)
    (updLoop b (fun l => .reset l.poll) s)

/-! ### Service configuration (spec 01, R18 to R20) -/

/-- The bay becomes OUT_OF_SERVICE (spec 01, R18; spec 04, R90). -/
def becomeOutOfService (b : Bay) (s : State) : State :=
  heatOutOfService b
    (dropPending b
      (setPoll b .idle
        (updTable b
          (fun t => { t with occ := .outOfService, beforeLoss := none, plugCount := 0, oosRequest := true })
          (removeDeparture b s))))

/-- Out of service on, taken (spec 01, R18). -/
def takeOutOfService (b : Bay) (s : State) : State :=
  if (s.bay b).table.occ = .outOfService then s
  else if holdsCoach s b then becomeOutOfService b (departs .unobserved false false b s)
  else becomeOutOfService b s

/-- Out of service off, for an OUT_OF_SERVICE bay: LOST with VACANT before loss, and probed at once (spec 01, R19; spec
02, R37; spec 03, R67; log entry 24). -/
def bringIntoService (b : Bay) (s : State) : State :=
  if (s.bay b).table.occ = .outOfService then
    setPoll b (.probe s.time)
      (allocatorLost b
        (updTable b
          (fun t => { t with
            occ := .lost, beforeLoss := some .vacant, discovered := true, plugCount := 0, oosRequest := false })
          s))
  else s

/-- The lamp plan override is set or removed (spec 01, R20). -/
def setOverride (b : Bay) (o : Option Nat) (s : State) : State :=
  let changed := updTable b
    (fun t => { t with
      planOverride := o
      lampPlan := if holdsCoach s b then lampPlanFor o t.identity else t.lampPlan }) s
  onlyIf ((s.bay b).table.lampPlan.isNone && (changed.bay b).table.lampPlan.isSome) (autoCheck b) changed

end Sys2Proof.Machine
end

