-- ==== Sys2Proof/Machine/Visits.lean ====
section
/-! DEFINITION. The reader's visit, phase by phase (spec 07, 7.2 to 7.6). -/

namespace Sys2Proof.Machine

/-! ### Moving through the phases -/

/-- The visit enters a phase and asks its transaction. -/
def enterPhase (b : Bay) (phase : VisitPhase) (req : LoopReq) (s : State) : State :=
  askReader b req (updVisit (fun v => { v with phase := phase, settleUntil := none }) s)

/-- The visit goes to its sleep phase (spec 07, R144). -/
def goSleep (b : Bay) (s : State) : State := enterPhase b .sleep .sleep s

/-- The visit fails and goes to its sleep phase (spec 07, R138); the failure is counted as it ends (log entry 16). -/
def visitFails (b : Bay) (s : State) : State := goSleep b (updVisit (fun v => { v with failed := true }) s)

/-- The visit made progress (spec 07, R138). -/
def progress (b : Bay) (s : State) : State := updReader b (fun r => { r with failedVisits := 0 }) s

/-- The clears phase asks the next pending clear; with none left the visit goes on to its snapshot, or to sleep (spec
07, R140, R141). -/
def nextClear (b : Bay) (s : State) : State :=
  match (s.bay b).reader.clears with
  | (source, code) :: _ => enterPhase b .clears (.clear source code) s
  | [] => if (s.bay b).reader.passWanted then enterPhase b .snapshot .snapshot s else goSleep b s

/-- The wake has succeeded: the identity phase where identity is wanted, else the clears phase (spec 07, R137). -/
def afterWake (b : Bay) (s : State) : State :=
  if (s.bay b).reader.identityWanted then enterPhase b .identity .ident s else nextClear b s

/-- A FETCH of the record at the cursor, while the record budget allows; else sleep (spec 07, R142). -/
def fetchNext (b : Bay) (s : State) : State :=
  match s.visit with
  | some v =>
    if v.fetches < v.budget then
      updVisit (fun v => { v with fetches := v.fetches + 1 })
        (enterPhase b .fetch (.fetch (s.bay b).reader.cursor) s)
    else goSleep b s
  | none => s

/-- The pass completes, and the visit goes on to its sleep phase (spec 07, R143). -/
def passCompletes (b : Bay) (s : State) : State :=
  goSleep b
    (post .faultsComplete b
      (updReader b (fun r => { r with passWanted := false, state := .complete, failedVisits := 0 })
        (passCompleted b s)))

/-- With the cursor at the record count the pass completes, else the next record is fetched. -/
def fetchOrComplete (b : Bay) (s : State) : State :=
  if some (s.bay b).reader.cursor = (s.bay b).reader.recordCount then passCompletes b s else fetchNext b s

/-! ### Outcomes of the visit's transactions -/

/-- Spec 07, R137: the settle time. -/
def settleTime : Moment := 3 * Config.sec

/-- WAKE ended DONE: the settle time starts (spec 07, R137). -/
def wakeDone (s : State) : State :=
  updVisit (fun v => { v with phase := .settle, settleUntil := some (s.time + settleTime) }) s

/-- The reader state once identity has been read: with no pass wanted the last pass stands completed and none has been
wanted since, so a READING bay is COMPLETE (spec 07, R134; log entry 36). -/
def ReaderRec.identityOver (r : ReaderRec) : ReaderRec :=
  { r with state := if r.state = .reading ∧ r.passWanted = false then .complete else r.state }

/-- IDENT ended DONE: the Bay Table takes the identity, and the visit goes on to its clears phase (spec 07, R139). -/
def identDone (b : Bay) (fleet coachType : Nat) (s : State) : State :=
  nextClear b
    (updReader b ReaderRec.identityOver
      (identityRead b fleet coachType
        (updReader b (fun r => { r with identityWanted := false }) (progress b s))))

/-- A CLEAR answer leaves the pending clears and goes to the Pool (spec 07, R140). -/
def clearTaken (b : Bay) (source code : Nat) (a : ClearAnswer) (s : State) : State :=
  clearAnswered b source code a
    (updReader b (fun r => { r with clears := r.clears.filter (· != (source, code)) }) s)

/-- Spec 07, R141: the cursor after a snapshot. -/
def snapshotCursor (r : ReaderRec) (count generation : Nat) : Nat :=
  if r.generation = some generation ∧ r.cursor ≤ count then r.cursor else 0

/-- SNAPSHOT ended DONE (spec 07, R141). -/
def snapshotDone (b : Bay) (count generation : Nat) (s : State) : State :=
  let cursor := snapshotCursor (s.bay b).reader count generation
  fetchOrComplete b
    (onlyIf (decide (cursor = 0)) (passBegun b)
      (updReader b
        (fun r => { r with cursor := cursor, generation := some generation, recordCount := some count })
        (progress b s)))

/-- The intake of a fetched record found no room: the visit is suspended (spec 07, R145). -/
def suspendVisit (b : Bay) (s : State) : State :=
  goSleep b
    (updVisit (fun v => { v with suspended := true })
      (updReader b (fun r => { r with state := .suspended }) s))

/-- A record of the context's generation is offered to the Pool (spec 07, R142). -/
def fetchedRecord (b : Bay) (o : Offer) (s : State) : State :=
  match offer b o s with
  | (s', .noRoom) => suspendVisit b s'
  | (s', .merged) => fetchOrComplete b (updReader b (fun r => { r with cursor := r.cursor + 1 }) s')
  | (s', .new) => fetchOrComplete b (updReader b (fun r => { r with cursor := r.cursor + 1 }) s')
  | (s', .displaced) => fetchOrComplete b (updReader b (fun r => { r with cursor := r.cursor + 1 }) s')
  | (s', .refused) => fetchOrComplete b (updReader b (fun r => { r with cursor := r.cursor + 1 }) s')

/-- FETCH ended DONE (spec 07, R142). -/
def fetchDone (b : Bay) (o : Offer) (generation : Nat) (s : State) : State :=
  let moved := progress b s
  if (s.bay b).reader.generation = some generation then fetchedRecord b o moved
  else enterPhase b .snapshot .snapshot moved

/-! ### The end of a visit (spec 07, R138, R144, R145) -/

/-- Every pending clear is dropped undelivered (spec 07, R140). -/
def dropClears (b : Bay) (s : State) : State :=
  (s.bay b).reader.clears.foldl (fun s c => clearTaken b c.1 c.2 .dropped s) s

/-- The failed visits of a bay have reached 3 (spec 07, R138). -/
def visitsExhausted (b : Bay) (s : State) : State :=
  let wanted := wantsRead s b
  let identity := (s.bay b).reader.identityWanted
  let dropped :=
    dropClears b
      (updReader b
        (fun r => { r with
          failedVisits := 0, identityWanted := false, passWanted := false
          state := if wanted then .failed else r.state })
        s)
  onlyIf identity (identityFailed b) dropped

/-- The bay is placed at the tail of the queue where work is still wanted of it (spec 07, R144). -/
def placeIfWanted (b : Bay) (s : State) : State :=
  onlyIf (wantsRead s b || !(s.bay b).reader.clears.isEmpty) (placeTail b) s

/-- Spec 07, R138: the number of failed visits at which the bay is given up. -/
def visitLimit : Nat := 3

/-- A failed visit ends: the count rises, and the bay is placed again or given up (spec 07, R138). -/
def failedVisitEnds (b : Bay) (s : State) : State :=
  if (s.bay b).reader.failedVisits + 1 < visitLimit then
    placeIfWanted b (updReader b (fun r => { r with failedVisits := r.failedVisits + 1 }) s)
  else visitsExhausted b s

/-- A suspended visit ends: the bay joins the suspended list, or the queue where room stands now. A visit that has been told
of room since its NO_ROOM is suspended no longer (`readerResume`) and ends as any other (spec 07, R145). -/
def suspendedVisitEnds (b : Bay) (s : State) : State :=
  if s.freeCount = 0 then { s with suspended := s.suspended.filter (· != b) ++ [b] } else placeTail b s

/-- The visit ends (spec 07, R144). -/
def visitEnds (v : Visit) (s : State) : State :=
  let ended := giveBack .reader { s with visit := none }
  askVisit
    (if v.failed then failedVisitEnds v.bay ended
     else if v.suspended then suspendedVisitEnds v.bay ended
     else placeIfWanted v.bay ended)

/-! ### What the Loop Controller brings -/

/-- What the OK reply of a reader transaction carries (spec 02, R34). -/
inductive ReaderReply where
  | nothing
  | identity (fleet coachType : Nat)
  | snapshot (count generation : Nat)
  | record (offer : Offer) (generation : Nat)
  | clear (confirmed : Bool)
  deriving DecidableEq, Repr

/-- The answer of a CLEAR. -/
def answerOf (confirmed : Bool) : ClearAnswer := if confirmed then .confirmed else .stillActive

/-- A reader transaction of the visit ended DONE, by what its reply carries. -/
def readerDone (b : Bay) (req : LoopReq) (reply : ReaderReply) (v : Visit) (s : State) : State :=
  match req, reply with
  | .wake, _ => wakeDone s
  | .ident, .identity fleet coachType => identDone b fleet coachType s
  | .clear source code, .clear confirmed =>
    nextClear b (clearTaken b source code (answerOf confirmed) (progress b s))
  | .snapshot, .snapshot count generation => snapshotDone b count generation s
  | .fetch _, .record o generation => fetchDone b o generation s
  | .sleep, _ => visitEnds v s
  | _, _ => s

/-- A reader transaction of the visit ended REFUSED or FAILED: SLEEP ends the visit all the same, any other fails it
(spec 07, R137 to R142, R144). -/
def readerNotDone (b : Bay) (req : LoopReq) (v : Visit) (s : State) : State :=
  match req with
  | .sleep => visitEnds v s
  | _ => visitFails b s

/-- The reader takes an outcome while the visit that asked for it goes on. -/
def visitOutcome (b : Bay) (req : LoopReq) (o : Handed) (reply : ReaderReply) (v : Visit) (s : State) : State :=
  match o with
  | .done => readerDone b req reply v s
  | .refused => readerNotDone b req v s
  | .failed => readerNotDone b req v s
  | .notSent => s

/-- An outcome whose visit has ended is discarded, but for a CLEAR answer (spec 07, R140, R147). -/
def lateOutcome (b : Bay) (req : LoopReq) (o : Handed) (reply : ReaderReply) (s : State) : State :=
  match req, o, reply with
  | .clear source code, .done, .clear confirmed => clearTaken b source code (answerOf confirmed) s
  | _, _, _ => s

/-- The reader takes the outcome of one of its transactions (spec 07, R137 to R144, R147). -/
def readerOutcome (b : Bay) (req : LoopReq) (wanted : Bool) (o : Handed) (reply : ReaderReply) (s : State) : State :=
  match wanted, s.visit with
  | true, some v => if v.bay = b then visitOutcome b req o reply v s else lateOutcome b req o reply s
  | _, _ => lateOutcome b req o reply s

/-- The settle time has run. -/
def Visit.settled (now : Moment) (v : Visit) : Bool :=
  v.phase == .settle &&
    match v.settleUntil with
    | some t => decide (t ≤ now)
    | none => true

/-- The reader takes the bridge state of a good poll: the first after the settle time judges the wake (spec 07,
R137). -/
def bridgeReported (b : Bay) (bridge : Bridge) (s : State) : State :=
  match s.visit with
  | some v =>
    if v.bay = b ∧ v.settled s.time then
      match bridge with
      | .awake => afterWake b s
      | .asleep => visitFails b s
      | .waking => visitFails b s
      | .failed => visitFails b s
    else s
  | none => s

end Sys2Proof.Machine
end

