-- ==== Sys2Proof/Machine/SupplyChange.lean ====
section
/-! DEFINITION. A change of the effective budget or reserve, the supply states and the restore delay (spec 03, R49 to
R56). -/

namespace Sys2Proof.Machine

/-- A holder whose entry has been removed is told: a slot has joined the waiting requesters, a visit ends (spec 03,
R56; spec 05, R102; spec 07, R148). -/
def withdrawn (h : Holder) (s : State) : State :=
  match h with
  | .slot i => lampPowerWithdrawn i (joinWaiting h s)
  | .reader => visitWithdrawn s

/-- The newest reservation is withdrawn while the granted amounts exceed ER, as many times as this (spec 03, R56). -/
def withdrawNewest : Nat → State → State
  | 0, s => s
  | n + 1, s =>
    if reservedAmount s ≤ effectiveReserve s then s
    else
      match s.supply.reservations.getLast? with
      | some r => withdrawNewest n (withdrawn r.holder (dropReservation r.holder s))
      | none => s

/-- Reservations are withdrawn, newest first, until the granted amounts no longer exceed ER (spec 03, R56). -/
def withdrawExcess (s : State) : State := withdrawNewest s.supply.reservations.length s

/-- The effects of a change of E or of the service reserve, in the order of R52: withdrawals, the grants on the books,
the grant pass, SUPPLY, and the reductions afterwards. -/
def supplyChanged (tellsMasters : Bool) (s : State) : State :=
  askReductions
    (onlyIf tellsMasters postSupply (grantPass (recomputeBooks none (withdrawExcess s))))

/-- The supply state changes between NORMAL and SHED or RESTORING: the budget in force is switched (spec 03, R50,
R52). -/
def switchSupply (state : SupplyState) (s : State) : State :=
  supplyChanged true (updSupply (fun p => { p with state := state, restoreFrom := none }) s)

/-- SHED has been asserted (spec 03, R50). -/
def shedAsserts (s : State) : State :=
  match s.supply.state with
  | .normal => switchSupply .shed s
  | .restoring => updSupply (fun p => { p with state := .shed, restoreFrom := none }) s
  | .shed => s

/-- SHED has been deasserted: RESTORING, or NORMAL at once with a delay of 0 (spec 03, R50). -/
def shedDeasserts (s : State) : State :=
  match s.supply.state with
  | .shed =>
    if s.settings.restoreDelay = 0 then switchSupply .normal s
    else updSupply (fun p => { p with state := .restoring, restoreFrom := some s.time }) s
  | .normal => s
  | .restoring => s

/-- The moment the restore delay ends (spec 03, R51). -/
def restoreEnd (s : State) : Option Moment :=
  match s.supply.state with
  | .restoring => s.supply.restoreFrom.map fun t => t + s.settings.restoreDelay * Config.sec
  | .normal => none
  | .shed => none

/-- The restore delay ends (spec 03, R50, R51). -/
def restoreEnds (s : State) : State := switchSupply .normal s

/-- SET_BUDGET: the budgets written are clamped, and a change of the value in force is taken by R52 (spec 03, R49,
R52). -/
def setBudget (normal shed : Option Nat) (s : State) : State :=
  let written := updSupply
    (fun p => { p with
      normal := (normal.map (clampNat 0 Config.maxBudget)).getD p.normal
      shed := (shed.map (clampNat 0 Config.maxBudget)).getD p.shed }) s
  if effectiveBudget written = effectiveBudget s then written else supplyChanged true written

/-- SET_RESERVE: the service reserve is clamped and its effects taken by R52 (spec 03, R53). -/
def setReserve (units : Nat) (s : State) : State :=
  supplyChanged false (updSupply (fun p => { p with reserve := clampNat 0 Config.maxReserve units }) s)

end Sys2Proof.Machine
end

