-- ==== Sys2Proof/Machine/Replies.lean ====
section
/-! DEFINITION. Reading a reply frame (spec 02, R26, R30, R33, R34; spec 11, R191). -/

namespace Sys2Proof.Machine

/-- What a good OK reply of a POLL carries (spec 02, R30). -/
structure PollReply where
  plug : Plug
  latch : Latch
  closed : Nat
  cabin : Option Int
  bridge : Bridge
  deriving DecidableEq, Repr

/-- The contents of a good OK reply, by kind (spec 11, R191). -/
inductive Contents where
  | poll (reply : PollReply)
  | current (reading : Option Nat)
  | reader (reply : ReaderReply)
  | nothing
  deriving DecidableEq, Repr

/-- A good reply (spec 02, R26). -/
inductive Good where
  | ok (contents : Contents)
  | busy
  | refused
  deriving DecidableEq, Repr

/-- Spec 11, R191: OUT 0, IN 1. -/
def plugOf : Nat → Option Plug
  | 0 => some .out
  | 1 => some .in_
  | _ => none

/-- Spec 02, R30. -/
def latchOf : Nat → Option Latch
  | 0 => some .closed
  | 1 => some .open_
  | 2 => some .moving
  | _ => none

/-- Spec 02, R30. -/
def bridgeOf : Nat → Option Bridge
  | 0 => some .asleep
  | 1 => some .waking
  | 2 => some .awake
  | 3 => some .failed
  | _ => none

/-- Spec 11, R190: INFO 0, ADVISORY 1, BLOCKING 2. -/
def faultClassOf : Nat → Option FaultClass
  | 0 => some .info
  | 1 => some .advisory
  | 2 => some .blocking
  | _ => none

/-- Spec 02, R34: the coach state of a record, ACTIVE or STORED. -/
def coachActiveOf : Nat → Option Bool
  | 0 => some true
  | 1 => some false
  | _ => none

/-- Spec 02, R30: a cabin temperature outside -400 to 800 is taken as absent. -/
def cabinOf (t : Int) : Option Int := if -400 ≤ t ∧ t ≤ 800 then some t else none

/-- The OK payload of a POLL. -/
def pollPayload : List Byte → Option PollReply
  | [plug, latch, closed, t1, t0, bridge] =>
    match plugOf plug.toNat, latchOf latch.toNat, bridgeOf bridge.toNat with
    | some p, some l, some br =>
      if closed.toNat ≤ 4 then
        some { plug := p, latch := l, closed := closed.toNat, cabin := cabinOf (readSigned [t1, t0]), bridge := br }
      else none
    | _, _, _ => none
  | _ => none

/-- The OK payload of a LAMP_SAMPLE: 65,535 for NO_READING, and a reading above 2,500 is malformed (spec 02, R33). -/
def currentPayload : List Byte → Option (Option Nat)
  | [c1, c0] =>
    if readNat [c1, c0] = 65535 then some none
    else if readNat [c1, c0] ≤ 2500 then some (some (readNat [c1, c0]))
    else none
  | _ => none

/-- The OK payload of a FETCH (spec 02, R34). -/
def recordPayload : List Byte → Option ReaderReply
  | [source, c1, c0, cls, state, o1, o0, generation] =>
    match faultClassOf cls.toNat, coachActiveOf state.toNat with
    | some cls, some active =>
      if source.toNat ≤ 13 ∧ 0 < readNat [o1, o0] then
        some
          (.record
            { source := source.toNat, code := readNat [c1, c0], cls := cls, active := active,
              occurrences := readNat [o1, o0] }
            generation.toNat)
      else none
    | _, _ => none
  | _ => none

/-- The OK payload of an IDENT, whose coach type is 0 to 15 (spec 02, R34). -/
def identPayload : List Byte → Option ReaderReply
  | [f1, f0, coachType] =>
    if coachType.toNat ≤ 15 then some (.identity (readNat [f1, f0]) coachType.toNat) else none
  | _ => none

/-- The OK payload of a SNAPSHOT. -/
def snapshotPayload : List Byte → Option ReaderReply
  | [count, generation] => some (.snapshot count.toNat generation.toNat)
  | _ => none

/-- The OK payload of a CLEAR: CONFIRMED 0, STILL_ACTIVE 1. -/
def clearPayload : List Byte → Option ReaderReply
  | [answer] =>
    match answer.toNat with
    | 0 => some (.clear true)
    | 1 => some (.clear false)
    | _ => none
  | _ => none

/-- The OK payload of a kind that carries none. -/
def noPayload (contents : Contents) : List Byte → Option Contents
  | [] => some contents
  | _ => none

/-- The OK payload of a transaction, where it has the length and the fields its kind has (spec 11, R191). -/
def okPayload (req : LoopReq) (payload : List Byte) : Option Contents :=
  match req with
  | .poll => (pollPayload payload).map .poll
  | .stage _ _ => noPayload .nothing payload
  | .latch _ => noPayload .nothing payload
  | .lampSample _ _ => (currentPayload payload).map .current
  | .lampOff => noPayload .nothing payload
  | .wake => noPayload (.reader .nothing) payload
  | .ident => (identPayload payload).map .reader
  | .snapshot => (snapshotPayload payload).map .reader
  | .fetch _ => (recordPayload payload).map .reader
  | .clear _ _ => (clearPayload payload).map .reader
  | .sleep => noPayload (.reader .nothing) payload

/-- A BUSY or REFUSED reply: its payload is empty, and a POLL is answered neither way (spec 02, R28, R30). -/
def shortReply (req : LoopReq) (payload : List Byte) (good : Good) : Option Good :=
  if payload.isEmpty ∧ req ≠ .poll then some good else none

/-- The status byte: OK 0, BUSY 1, REFUSED 2 (spec 11, 11.3). -/
def statusReply (req : LoopReq) (payload : List Byte) : Nat → Option Good
  | 0 => (okPayload req payload).map .ok
  | 1 => shortReply req payload .busy
  | 2 => shortReply req payload .refused
  | _ => none

/-- The good reply that these bytes are to a transaction, absent where they are malformed (spec 02, R26). -/
def parseReply (b : Bay) (req : LoopReq) (bytes : List Byte) : Option Good :=
  match checkCrc bytes with
  | some (address :: kind :: status :: length :: payload) =>
    if address.toNat = loopAddress b ∧ kind.toNat = loopKind req ∧ length.toNat = payload.length then
      statusReply req payload status.toNat
    else none
  | _ => none

end Sys2Proof.Machine
end

