-- ==== Sys2Proof/Machine/LoopOutcome.lean ====
section
/-! DEFINITION. How an attempt ends, how a transaction ends and what its owner is handed, BUSY, failure counting and node
loss (spec 02, 2.1 to 2.4). -/

namespace Sys2Proof.Machine

/-! ### A POLL's outcome (spec 02, R30) -/

/-- The other contents of a good POLL reply go to their owners, once the Bay Table has taken it: the temperature, the
closed count, the bridge state, and the Clearance Unit's count and latch (spec 01, R4; spec 08, R165 to R167). -/
def pollContents (b : Bay) (r : PollReply) (s : State) : State :=
  clearanceLatch b r.latch
    (clearanceCount b r.closed
      (bridgeReported b r.bridge (closedCount b r.closed (cabinReading b r.cabin s))))

/-- The closed count of a sweep or probe answer is stored before the Bay Table acts on it, since the cleanup reads it
(spec 04, R89; log entry 13). -/
def storeCount (b : Bay) (count : Nat) (s : State) : State :=
  updPower b (fun p => { p with closed := count }) s

/-- A POLL ended DONE (spec 02, R30). -/
def pollDone (b : Bay) (r : PollReply) (s : State) : State :=
  match (s.bay b).table.occ with
  | .outOfService => pollEnded b s
  | .lost =>
    if (s.bay b).table.discovered then
      pollEnded b (pollContents b r (probeAnswered b r.plug r.latch (storeCount b r.closed s)))
    else pollEnded b (pollContents b r (sweepAnswered b r.plug r.latch (storeCount b r.closed s)))
  | .vacant => pollEnded b (pollContents b r (tablePoll b r.plug r.latch s))
  | .arriving => pollEnded b (pollContents b r (tablePoll b r.plug r.latch s))
  | .present => pollEnded b (pollContents b r (tablePoll b r.plug r.latch s))

/-- A POLL ended FAILED (spec 02, R30, R37, R39). -/
def pollFailed (b : Bay) (s : State) : State :=
  match (s.bay b).table.occ with
  | .lost => pollEnded b (if (s.bay b).table.discovered then s else sweepFailed b s)
  | .outOfService => pollEnded b s
  | .vacant => pollEnded b s
  | .arriving => pollEnded b s
  | .present => pollEnded b s

/-! ### Owners (spec 02, R29) -/

/-- The reading in a lamp reply. -/
def Contents.reading : Contents → Option Nat
  | .current r => r
  | .poll _ => none
  | .reader _ => none
  | .nothing => none

/-- The contents of a reader reply. -/
def Contents.readerReply : Contents → ReaderReply
  | .reader r => r
  | .poll _ => .nothing
  | .current _ => .nothing
  | .nothing => .nothing

/-- A POLL's outcome, by what it carries. -/
def pollOutcome (b : Bay) (c : Contents) (s : State) : State :=
  match c with
  | .poll r => pollDone b r s
  | .current _ => pollFailed b s
  | .reader _ => pollFailed b s
  | .nothing => pollFailed b s

/-- The outcome of a transaction goes to its owner (spec 02, R29). -/
def ownerOutcome (b : Bay) (e : Entry) (o : Handed) (c : Contents) (s : State) : State :=
  match e.req with
  | .poll => pollOutcome b c s
  | .stage _ increase => stageOutcome b increase o s
  | .latch open_ => latchOutcome b open_ e.wanted o s
  | .lampSample _ _ => sampleOutcome b e.wanted o c.reading s
  | .lampOff => lampOffOutcome b e.wanted o s
  | .wake => readerOutcome b e.req e.wanted o c.readerReply s
  | .ident => readerOutcome b e.req e.wanted o c.readerReply s
  | .snapshot => readerOutcome b e.req e.wanted o c.readerReply s
  | .fetch _ => readerOutcome b e.req e.wanted o c.readerReply s
  | .clear _ _ => readerOutcome b e.req e.wanted o c.readerReply s
  | .sleep => readerOutcome b e.req e.wanted o c.readerReply s

/-! ### BUSY (spec 02, R28) -/

/-- The wait after a BUSY. -/
def busyWait : Moment := 50 * Config.ms

/-- How long a transaction may receive nothing but BUSY. -/
def busyPersist : Moment := 10 * Config.sec

/-- The moment a run of BUSY replies ends the transaction. -/
def Entry.persistEnd (e : Entry) : Option Moment := e.firstBusy.map fun t => t + busyPersist

/-- An entry as it leaves the line after a BUSY. Its first BUSY stays the first over a malformed reply or a timeout that is
followed by a BUSY (spec 02, R28; DESIGN CHOICE, log entry 41). -/
def Entry.busy (now : Moment) (e : Entry) : Entry :=
  { e with rejoinAt := some (now + busyWait), firstBusy := some (e.firstBusy.getD now) }

/-- Where a transaction that got a BUSY goes: a STAGE or LATCH takes the request that waits behind it, so that the next
frame carries the latest, and a LATCH(open) that is no longer wanted is not sent again (spec 02, R44; spec 03, R60;
spec 08, R166; log entry 32). -/
def Lane.takeBusy (e : Entry) (l : Lane) : Lane :=
  match sortOf e.req, l.queued with
  | .stage, some q => { opened := some (e.takeOver q.req), queued := none }
  | .latch, some q => { opened := some (e.takeOver q.req), queued := none }
  | .latch, none => if e.opensLatch && !e.wanted then { l with opened := none } else { l with opened := some e }
  | .stage, none => { l with opened := some e }
  | .lamp, _ => { l with opened := some e }
  | .reader, _ => { l with opened := some e }
  | .poll, _ => l

/-- An increase whose entry a reduction takes frees the depot-wide slot (spec 03, R61). -/
def busyFreesIncrease (s : State) (b : Bay) (e : Entry) : Bool :=
  isIncrease (some e) && (laneOf s b .stage).queued.isSome

/-- A transaction answered BUSY leaves the line and stays open; after 10 s of nothing but BUSY it ends FAILED, which is
not counted (spec 02, R28). -/
def busyReply (b : Bay) (e : Entry) (s : State) : State :=
  let waiting := e.busy s.time
  if (e.persistEnd.any fun t => decide (t ≤ s.time)) then ownerOutcome b e .failed .nothing s
  else
    updLane b (sortOf e.req) (Lane.takeBusy waiting)
      (onlyIf (busyFreesIncrease s b e) (freeIncrease b) s)

/-! ### Good replies (spec 02, R26, R36) -/

/-- The transaction leaves the line. -/
def leaveLine (s : State) : State := { s with line := none }

/-- The node's failure count is 0 (spec 02, R36). -/
def clearFailures (b : Bay) (s : State) : State := updLoop b (fun l => { l with failures := 0 }) s

/-- A good reply is taken (spec 02, R26, R28, R29). -/
def goodReply (l : OnLine) (good : Good) (s : State) : State :=
  let free := clearFailures l.bay (leaveLine s)
  match good with
  | .ok contents => ownerOutcome l.bay l.entry .done contents free
  | .refused => ownerOutcome l.bay l.entry .refused .nothing free
  | .busy => busyReply l.bay l.entry free

/-! ### Failed attempts (spec 02, R27, R36, R37) -/

/-- The quiet time after a failed first attempt. -/
def retryQuiet : Moment := 2 * Config.ms

/-- The reply timeout. -/
def replyTimeout : Moment := 8 * Config.ms

/-- The failures in a row that lose a node. -/
def lossLimit : Nat := 3

/-- A node is lost: the bay becomes LOST and is probed 10 s later, the failing transaction's owner is handed FAILED, and
every pending entry's owner NOT_SENT (spec 02, R36, R37). -/
def nodeLost (b : Bay) (e : Entry) (s : State) : State :=
  dropPending b
    (ownerOutcome b e .failed .nothing
      (setPoll b (.probe (s.time + probePeriod)) (bayLost b (clearFailures b s))))

/-- A transaction ends FAILED after two failed attempts: the failure is counted unless the bay is LOST or OUT_OF_SERVICE,
and the third loses the node (spec 02, R27, R36). -/
def countedFailure (l : OnLine) (s : State) : State :=
  let free := leaveLine s
  if reachable s l.bay then
    if (s.bay l.bay).loop.failures + 1 < lossLimit then
      ownerOutcome l.bay l.entry .failed .nothing
        (updLoop l.bay (fun r => { r with failures := r.failures + 1 }) free)
    else nodeLost l.bay l.entry free
  else ownerOutcome l.bay l.entry .failed .nothing free

/-- An attempt fails: the first is followed by 2 ms of quiet, the second ends the transaction (spec 02, R27). -/
def attemptFails (l : OnLine) (s : State) : State :=
  if l.attempt = 1 then { s with line := some { l with quietUntil := some (s.time + retryQuiet) } }
  else countedFailure l s

/-- The frame is sent again after the quiet (spec 02, R27). -/
def sendAgain (l : OnLine) (s : State) : State :=
  { s with
    line := some
      { l with attempt := 2, quietUntil := none, sentEnd := s.time + frameTime l.bay l.entry.req } }

/-- The moment a reply of this length has ended at the earliest (spec 11, 11.3). -/
def replyEnd (l : OnLine) (length : Nat) : Moment := l.sentEnd + length * Config.loopByte

/-- A reply of this length that is heard now has ended within the 8 ms of its attempt (spec 02, R26; spec 11, R191). -/
def inTime (s : State) (l : OnLine) (length : Nat) : Bool :=
  decide (max s.time (replyEnd l length) ≤ l.sentEnd + replyTimeout)

/-- No reply has ended within 8 ms: the attempt has failed (spec 02, R26, R27). -/
def noReply (l : OnLine) (s : State) : State := attemptFails l (timeTo (l.sentEnd + replyTimeout) s)

/-- The bytes that end an attempt are judged: a good reply, a malformed one, or bytes that end too late, which are no
reply (spec 02, R26, R27; log entry 8). -/
def judgeReply (bytes : List Byte) (l : OnLine) (s : State) : State :=
  if inTime s l bytes.length then
    match parseReply l.bay l.entry.req bytes with
    | some good => goodReply l good (timeTo (replyEnd l bytes.length) s)
    | none => attemptFails l (timeTo (replyEnd l bytes.length) s)
  else noReply l s

/-- Bytes are heard: they are discarded while the line is quiet or in the 2 ms after a failed attempt, and else judged
(spec 02, R26, R27). -/
def heard (bytes : List Byte) (s : State) : State :=
  match s.line with
  | some l =>
    match l.quietUntil with
    | some _ => s
    | none => judgeReply bytes l s
  | none => s

/-! ### Timers of the loop -/

/-- The 8 ms pass (spec 02, R26, R27). -/
def timesOut (s : State) : State :=
  match s.line with
  | some l =>
    match l.quietUntil with
    | some _ => s
    | none => noReply l s
  | none => s

/-- The 2 ms of quiet have passed (spec 02, R27). -/
def quietEnds (s : State) : State :=
  match s.line with
  | some l =>
    match l.quietUntil with
    | some t => sendAgain l (timeTo t s)
    | none => s
  | none => s

/-- The 50 ms after a BUSY have passed: the entry may rejoin the line (spec 02, R28). -/
def busyWaitEnds (b : Bay) (sort : LoopSort) (s : State) : State :=
  match (laneOf s b sort).opened with
  | some e =>
    match e.rejoinAt with
    | some t => updLane b sort (fun l => { l with opened := some { e with rejoinAt := none } }) (timeTo t s)
    | none => s
  | none => s

/-- A run of BUSY replies has lasted 10 s: the transaction ends FAILED, and the failure is not counted (spec 02, R28). -/
def busyPersists (b : Bay) (sort : LoopSort) (s : State) : State :=
  match (laneOf s b sort).opened with
  | some e =>
    match e.persistEnd with
    | some t =>
      ownerOutcome b e .failed .nothing (updLane b sort (fun l => { l with opened := none }) (timeTo t s))
    | none => s
  | none => s

/-- The arbiter's choice goes onto the line (spec 02, R43). -/
def takeChoice (s : State) : State :=
  match choice s with
  | some c => putOnLine c s
  | none => s

/-- With the line quiet and an entry eligible the arbiter chooses: the promotions are judged, and what is chosen goes onto
the line (spec 02, R41, R43). -/
def arbiterChooses (s : State) : State :=
  match s.line, choice s with
  | none, some _ => takeChoice (promotionsJudged s)
  | _, _ => s

end Sys2Proof.Machine
end

