-- ==== Sys2Proof/Machine/Reads.lean ====
section
/-! DEFINITION. The payloads that the read requests return (spec 09, 9.4; spec 06, R129; spec 10, R186; spec 11, 11.1
and 11.2). The conventions R190 leaves to be read together are those of log entry 19. -/

namespace Sys2Proof.Machine

/-! ### Shared layouts -/

/-- A set of clearance reasons or of event kinds: 3 bytes (spec 11, R190). -/
def kindSetBytes (k : BitVec 18) : List Byte := triple k.toNat

/-- A bay set: 4 bytes (spec 11, R190). -/
def baySetBytes (m : BaySet) : List Byte := long m.toNat

/-- A depot minute that may be absent. -/
def optionalLong (m : Option Nat) : List Byte := optional 0 long m

/-- A two-byte value that may be absent. -/
def optionalWord (m : Option Nat) : List Byte := optional 0 word m

/-- A one-byte value that may be absent. -/
def optionalByte (m : Option Nat) : List Byte := optional 0 byte m

/-- The byte that stands for a moment, a free value (log entry 20). -/
def momentBytes (s : State) (t : Option Moment) : List Byte := [Config.momentByte t s.time]

/-- The seconds left until a moment; their rounding is a free value (log entry 21). -/
def secondsLeft (s : State) (t : Moment) : Nat :=
  if Config.secondsRoundUp then (t - s.time + (Config.sec - 1)) / Config.sec else (t - s.time) / Config.sec

/-- The seconds remaining on a timer that may not run. -/
def remaining (s : State) (t : Option Moment) : List Byte := optionalWord (t.map (secondsLeft s))

/-- The place of a bay in a list of bays, the head having place 0 (DESIGN CHOICE, log entry 19). -/
def placeIn (b : Bay) (l : List Bay) : Option Nat := if l.contains b then some (l.idxOf b) else none

/-- A heat profile's six fields (spec 04, R68). -/
def profileBytes (p : HeatProfile) : List Byte :=
  byte p.stages ++ word p.power ++ byte p.gain ++ byte p.loss ++ byte p.margin ++ byte p.hysteresis

/-- A lamp step's five fields (spec 05, R92; spec 11, 11.2). -/
def stepBytes (t : LampStep) : List Byte :=
  byte t.circuit ++ word t.low ++ word t.high ++ byte t.settle ++ byte (stepClassNumber t.cls)

/-- The five depot settings (spec 09, R176). -/
def settingsBytes (s : State) : List Byte :=
  word s.settings.restoreDelay ++ word s.settings.lampValidity ++ byte s.settings.recordBudget ++
    byte s.settings.clearanceValidity ++ word s.settings.releaseWindow

/-- A bay's service configuration (spec 09, R176, R179). -/
def serviceBytes (s : State) (b : Bay) : List Byte :=
  mark (s.bay b).table.oosRequest ++ orNone (s.bay b).table.planOverride ++ byte (s.bay b).faults.quota

/-! ### READ_BAY (spec 09, R179; spec 11, 11.2) -/

/-- The bay summary's marks: bit 0 discovered, bit 1 recovery, bit 2 out-of-service request. -/
def summaryMarks (t : TableRec) : Nat :=
  (if t.discovered then 1 else 0) + (if t.recovery then 2 else 0) + (if t.oosRequest then 4 else 0)

/-- The fixed bay summary of 12 bytes. -/
def baySummary (s : State) (b : Bay) : List Byte :=
  let t := (s.bay b).table
  byte b.val ++ byte (occupancyNumber t.occ) ++ orNone (t.beforeLoss.map occupancyNumber) ++ byte (summaryMarks t) ++
    byte t.plugCount ++ orNone (t.plug.map plugNumber) ++ orNone (t.latch.map latchNumber) ++
    orNone (t.lastDeparture.map departureKindNumber) ++ byte (s.bay b).loop.failures ++ orNone (pollClass s b) ++
    byte (clearStateNumber (s.bay b).clear.state) ++ byte (heatStateNumber (s.bay b).heat.state)

/-- The coach identity, the lamp plan number and the copied heat profile. An absent lamp plan number is 255, with no presence
byte (DESIGN CHOICE, log entry 19). -/
def identityGroup (s : State) (b : Bay) : List Byte :=
  let t := (s.bay b).table
  optional { fleet := 0, coachType := 0 } (fun i : Identity => word i.fleet ++ byte i.coachType) t.identity ++
    orNone t.lampPlan ++
    optional
      { stages := 0, power := 0, gain := 0, loss := 0, margin := 0, hysteresis := 0 } profileBytes
      (s.bay b).heat.profile

/-- A departure record's fields (spec 01, R21). -/
def departureBytes (d : Departure) : List Byte :=
  long d.minute ++ temperature d.target ++ optionalWord d.expected ++ mark d.overdue

/-- The departure record with its OVERDUE mark. -/
def departureGroup (s : State) (b : Bay) : List Byte :=
  optional { minute := 0, target := 0, expected := none, overdue := false } departureBytes (departureOf s b)

/-- The heat record (spec 04, R72). -/
def heatGroup (s : State) (b : Bay) : List Byte :=
  let h := (s.bay b).heat
  byte (heatStateNumber h.state) ++ byte h.demand ++ optionalLong h.plannedStart ++ optionalWord h.plannedLead ++
    optional 0 temperature h.cabin ++ byte (s.bay b).power.grant ++ byte (s.bay b).power.closed ++
    optionalLong h.projection ++ mark h.late ++ mark h.unreachable ++ mark h.starved

/-- The context of the slot that holds the bay's check. -/
def slotOf (s : State) (b : Bay) : Option Slot :=
  match (s.bay b).lamp.slot with
  | some i => s.slots[i]
  | none => none

/-- The lamp record, the bay's place in the lamp queue, and its slot's step index and valid samples (spec 05, R94). An absent
check plan is 255, with no presence byte (DESIGN CHOICE, log entry 19). -/
def lampGroup (s : State) (b : Bay) : List Byte :=
  let l := (s.bay b).lamp
  byte (checkStateNumber l.check) ++ byte (lampResultNumber l.result) ++ orNone l.plan ++
    optionalByte (l.slot.map Fin.val) ++ optionalLong l.completion ++ byte l.advisory ++ mark l.stale ++ mark l.lit ++
    momentBytes s l.latestStage ++ optionalByte (placeIn b s.lampQueue) ++
    optionalByte ((slotOf s b).map Slot.stepIndex) ++ optionalByte ((slotOf s b).map Slot.validSamples)

/-- The fault summary in the four fields R179 lists. R116 counts the reader state among its fields too; it is sent once, in
the reader group (spec 06, R116; spec 09, R179; DESIGN CHOICE, log entry 19). -/
def faultGroup (s : State) (b : Bay) : List Byte :=
  let f := (s.bay b).faults
  byte f.list.length ++ byte f.quota ++ mark f.incomplete ++ byte f.revision

/-- The phase of a visit in progress at the bay. -/
def visitPhaseAt (s : State) (b : Bay) : Option Nat :=
  match s.visit with
  | some v => if v.bay = b then some (visitPhaseNumber v.phase) else none
  | none => none

/-- The reader context, the bay's places and the visit's phase (spec 07, R134). A count stands before the pending clears,
and its places in the reader queue and in the suspended list are two fields (DESIGN CHOICE, log entry 19). -/
def readerGroup (s : State) (b : Bay) : List Byte :=
  let r := (s.bay b).reader
  byte (readerStateNumber r.state) ++ mark r.identityWanted ++ mark r.passWanted ++ byte r.clears.length ++
    r.clears.flatMap (fun c => byte c.1 ++ word c.2) ++ byte r.cursor ++ optionalByte r.generation ++
    optionalByte r.recordCount ++ byte r.failedVisits ++ optionalByte (placeIn b s.readerQueue) ++
    optionalByte (placeIn b s.suspended) ++ optionalByte (visitPhaseAt s b)

/-- The clearance record with its running timers and the hold list (spec 08, R152, R153). -/
def clearGroup (s : State) (b : Bay) : List Byte :=
  let c := (s.bay b).clear
  byte (clearStateNumber c.state) ++ optionalByte (c.substep.map substepNumber) ++ kindSetBytes c.reasons ++
    mark c.waive ++ remaining s (validityEnd s b) ++ remaining s (c.stopFrom.map (· + limitLength)) ++
    remaining s (c.latchFrom.map (· + limitLength)) ++ remaining s (windowEnd s b) ++ mark c.relatch ++
    mark c.openAsked ++ byte c.holds.length ++ c.holds.flatMap fun h => byte h.tag ++ byte h.reason

/-- The whole record of one bay: the summary, then the groups in R179's order. -/
def bayRecordBytes (s : State) (b : Bay) : List Byte :=
  baySummary s b ++ serviceBytes s b ++ identityGroup s b ++ departureGroup s b ++ heatGroup s b ++ lampGroup s b ++
    faultGroup s b ++ readerGroup s b ++ clearGroup s b

/-! ### READ_SUPPLY (spec 09, R180) -/

/-- The DEPOT part (spec 09, R180). A count stands before the reservation list and before the waiting requesters, a
reservation gives its holder, bay and amount, the amount as a power in two bytes, and the waiting requesters are sent in the
order in which they joined; the clock-set condition is a mark, 1 for SET (DESIGN CHOICE, log entry 19). -/
def depotPart (s : State) : List Byte :=
  long s.clock.minute ++ byte s.clock.seconds ++ mark s.clock.isSet ++ temperature s.outside ++
    byte (supplyStateNumber s.supply.state) ++ remaining s (restoreEnd s) ++ word s.supply.normal ++
    word s.supply.shed ++ word s.supply.reserve ++ word (effectiveBudget s) ++ word (effectiveReserve s) ++
    word (heatBudget s) ++ byte s.supply.reservations.length ++
    s.supply.reservations.flatMap
      (fun r => byte (holderNumber r.holder) ++ byte r.bay.val ++ word (holderAmount r.holder)) ++
    byte s.supply.waiting.length ++ s.supply.waiting.flatMap (fun h => byte (holderNumber h)) ++
    momentBytes s s.supply.lastIncrease ++ optionalByte (s.supply.increase.map Fin.val) ++
    word s.freeCount ++ mark s.lowFlag ++ settingsBytes s

/-- One bay of the BAYS part. -/
def supplyOfBay (s : State) (b : Bay) : List Byte :=
  let p := (s.bay b).power
  byte (s.bay b).heat.demand ++ byte p.grant ++ byte p.commanded ++ byte p.closed ++ mark p.stuck ++ mark p.refused ++
    mark p.stepHold ++ mark p.watch.isSome ++ momentBytes s p.lastIncrease

/-- The BAYS part. -/
def baysPart (s : State) : List Byte := allBays.flatMap (supplyOfBay s)

/-- The PROFILES part. -/
def profilesPart (s : State) : List Byte := s.profiles.toList.flatMap profileBytes

/-- One lamp plan. -/
def planPart (s : State) (n : Nat) : List Byte :=
  byte (planOf s n).length ++ (planOf s n).flatMap stepBytes

/-- The part of the depot-wide state a READ_SUPPLY names: DEPOT 0, BAYS 1, PROFILES 2, PLAN 0 to PLAN 7 from 3 on. -/
def supplyPart (s : State) (part : Nat) : Option (List Byte) :=
  if part = 0 then some (depotPart s)
  else if part = 1 then some (baysPart s)
  else if part = 2 then some (profilesPart s)
  else if part ≤ 10 then some (planPart s (part - 3))
  else none

/-! ### READ_DEPARTURES and READ_FAULTS -/

/-- The entries a page holds. -/
def pageSize : Nat := 8

/-- The elements of a page with their positions. -/
def page {α : Type} (l : List α) (index : Nat) : List (Nat × α) :=
  (((l.zipIdx).drop index).take pageSize).map fun x => (x.2, x.1)

/-- One entry of a departure page (spec 09, R181). -/
def departurePageEntry (s : State) (x : Nat × DepartureEntry) : List Byte :=
  let b := x.2.bay
  let d := (departureOf s b).getD { minute := x.2.minute, target := 0, expected := none, overdue := false }
  byte x.1 ++ byte b.val ++ departureBytes d ++ byte (occupancyNumber (s.bay b).table.occ) ++
    byte (clearStateNumber (s.bay b).clear.state) ++ byte (heatStateNumber (s.bay b).heat.state) ++
    mark (s.bay b).heat.late

/-- A page of the departure list. -/
def departuresPage (s : State) (index : Nat) : List Byte :=
  byte s.departures.length ++ byte s.departuresRevision ++ (page s.departures index).flatMap (departurePageEntry s)

/-- A fault entry's marks byte (spec 11, 11.2). -/
def entryMarks (e : FaultEntry) : Nat :=
  (if e.firstSeen.isSome then 1 else 0) + (if e.lastSeen.isSome then 2 else 0) + (if e.expiry.isSome then 4 else 0) +
    (if e.seen then 8 else 0) + (if isCoachSource e.source then 0 else 16)

/-- A fault entry of 20 bytes (spec 11, 11.2). -/
def entryBytes (x : Nat × FaultEntry) : List Byte :=
  let e := x.2
  byte x.1 ++ byte e.source ++ word e.code ++ byte (faultClassNumber e.cls) ++ byte (faultStateNumber e.state) ++
    byte e.occurrences ++ byte (entryMarks e) ++ long (e.firstSeen.getD 0) ++ long (e.lastSeen.getD 0) ++
    long (e.expiry.getD 0)

/-- A page of a bay's fault list (spec 06, R129; spec 11, 11.2). -/
def faultsPage (s : State) (b : Bay) (index : Nat) : List Byte :=
  let f := (s.bay b).faults
  byte f.list.length ++ byte f.quota ++ mark f.incomplete ++ byte (readerStateNumber (s.bay b).reader.state) ++
    byte f.revision ++ word s.freeCount ++ byte (page f.list index).length ++
    (page f.list index).flatMap entryBytes

/-! ### READ_EVENTS (spec 10, R186; spec 11, 11.2) -/

/-- One kind of the event readout: its flag, then its bay set or its post count. -/
def kindBytes (r : PortRec) (k : Fin 18) : List Byte :=
  if k = poolLowKind then mark r.poolLow.flag ++ byte r.poolLow.count
  else if k = supplyKind then mark r.supply.flag ++ byte r.supply.count
  else mark (r.pendingKind k) ++ baySetBytes r.baySets[k]

/-- The event readout of a port. -/
def eventsBytes (r : PortRec) : List Byte :=
  (List.finRange 18).flatMap (kindBytes r) ++ kindSetBytes r.mask ++ mark r.quiet

end Sys2Proof.Machine
end

