-- ==== Sys2Proof/Machine/Requests.lean ====
section
/-! DEFINITION. What the owner of each request does with it (spec 09, 9.3): its checks in the order its rule gives, its
effect, and its answer. A refused request changes nothing (spec 09, R175). -/

namespace Sys2Proof.Machine

/-- An owner's answer: the state it leaves, the result and the payload. -/
structure Answer where
  state : State
  result : Result
  payload : List Byte

/-- A refusal: nothing is changed and nothing is carried. -/
def refuse (r : Result) (s : State) : Answer where
  state := s
  result := r
  payload := []

/-- DONE, with the state the request leaves and a payload. -/
def doneWith (payload : List Byte) (s : State) : Answer where
  state := s
  result := .done
  payload := payload

/-- DONE with no payload. -/
def done (s : State) : Answer := doneWith [] s

/-! ### The clock and the weather (spec 03, R47, R48; spec 04, R71, R91) -/

/-- The new minute is told to the blocks that compare against it: OVERDUE, the planned starts, the deferrals and the
stale marks (spec 03, R48). -/
def minuteTold (s : State) : State :=
  forAllBays judgeStale (forAllBays expireDeferrals (forAllBays fireIfDue (forAllBays judgeOverdue s)))

/-- SET_CLOCK (spec 03, R47): the first one lets the bays that wait in OFF be planned (spec 04, R91). -/
def takeSetClock (minute : Nat) (s : State) : Answer :=
  if Config.maxMinute < minute then refuse .outOfRange s
  else
    let written := { s with clock := { minute := minute, seconds := 0, isSet := true } }
    done (minuteTold (onlyIf (!s.clock.isSet) (forAllBays judgePlan) written))

/-- The Planner's computations as the outside temperature is written (spec 04, R71). -/
def outsideChanged (b : Bay) (s : State) : State :=
  match (s.bay b).heat.state with
  | .planned => replan b s
  | .heating => project b s
  | .off => s
  | .holding => s
  | .stopping => s
  | .suspended => s

/-- SET_OUTSIDE (spec 04, R71). -/
def takeSetOutside (t : Int) (s : State) : Answer :=
  if t < -500 ∨ 500 < t then refuse .outOfRange s
  else done (forAllBays outsideChanged { s with outside := t })

/-! ### Supply (spec 03, R49, R53) -/

/-- SET_BUDGET. -/
def takeSetBudget (normal shed : Option Nat) (s : State) : Answer := done (setBudget normal shed s)

/-- SET_RESERVE. -/
def takeSetReserve (units : Nat) (s : State) : Answer := done (setReserve units s)

/-! ### CONFIGURE_BAY (spec 09, R176 to R178) -/

/-- The depot settings that the request carries are written, each clamped (spec 09, R176). -/
def writeSettings (p : SettingsPart) (s : State) : State :=
  { s with
    settings :=
      { restoreDelay := (p.restoreDelay.map (clampNat 0 600)).getD s.settings.restoreDelay
        lampValidity := (p.lampValidity.map (clampNat 60 1440)).getD s.settings.lampValidity
        recordBudget := (p.recordBudget.map (clampNat 1 32)).getD s.settings.recordBudget
        clearanceValidity := (p.clearanceValidity.map (clampNat 1 60)).getD s.settings.clearanceValidity
        releaseWindow := (p.releaseWindow.map (clampNat 30 600)).getD s.settings.releaseWindow } }

/-- A timer that may not run has run out by now. -/
def reached (s : State) (t : Option Moment) : Bool := t.any fun m => decide (m ≤ s.time)

/-- A restore delay that has already reached its new value ends at once (spec 03, R51). -/
def endRestoreIfDue (s : State) : State := onlyIf (reached s (restoreEnd s)) restoreEnds s

/-- A validity that has already reached its new value runs out at once (spec 08, R160). -/
def endValidityIfDue (b : Bay) (s : State) : State :=
  onlyIf ((s.bay b).clear.state == .cleared && reached s (validityEnd s b)) (validityExpires b) s

/-- A release window that has already reached its new value runs out at once (spec 08, R160). -/
def endWindowIfDue (b : Bay) (s : State) : State :=
  onlyIf ((s.bay b).clear.state == .released && reached s (windowEnd s b)) (windowExpires b) s

/-- The depot settings are taken, with their effects on what runs (spec 09, R176; spec 03, R51; spec 05, R95; spec 08, R160).
Where one request carries several, their effects are taken in the order of R176's table: DESIGN CHOICE, log entry 38. -/
def applySettings (p : SettingsPart) (s : State) : State :=
  onlyIf p.releaseWindow.isSome (forAllBays endWindowIfDue)
    (onlyIf p.clearanceValidity.isSome (forAllBays endValidityIfDue)
      (onlyIf p.lampValidity.isSome (forAllBays judgeStale)
        (onlyIf p.restoreDelay.isSome endRestoreIfDue (writeSettings p s))))

/-- An override plan above 7. -/
def badOverride (o : Option (Option Nat)) : Bool := o.any fun p => p.any fun n => decide (7 < n)

/-- A quota below 4 or above 64 (spec 06, R117). -/
def badQuota (q : Option Nat) : Bool := q.any fun n => decide (n < 4) || decide (64 < n)

/-- The quota is replaced (spec 06, R117). -/
def setQuota (b : Bay) (q : Nat) (s : State) : State := updFaults b (fun r => { r with quota := q }) s

/-- The out-of-service request, on or off (spec 01, R18, R19). -/
def setOutOfService (b : Bay) (on : Bool) (s : State) : State :=
  if on then takeOutOfService b s else bringIntoService b s

/-- Apply an optional part. -/
def applyPart {α : Type} (part : Option α) (f : α → State → State) (s : State) : State :=
  match part with
  | some v => f v s
  | none => s

/-- The parts of a CONFIGURE_BAY of a bay, in the order of R178. -/
def applyConfiguration (b : Bay) (oos : Option Bool) (planOverride : Option (Option Nat)) (quota : Option Nat)
    (p : SettingsPart) (s : State) : State :=
  applyPart oos (setOutOfService b)
    (applyPart quota (setQuota b) (applyPart planOverride (setOverride b) (applySettings p s)))

/-- CONFIGURE_BAY of a bay: the checks of R177 in order, then the parts (spec 09, R177, R178). -/
def configureBay (b : Bay) (oos : Option Bool) (planOverride : Option (Option Nat)) (quota : Option Nat)
    (p : SettingsPart) (s : State) : Answer :=
  if badOverride planOverride || badQuota quota then refuse .outOfRange s
  else if oos = some true ∧ occupied s b then refuse .wrongState s
  else if quota.any fun n => decide (n < (s.bay b).faults.list.length) then refuse .inUse s
  else
    let taken := applyConfiguration b oos planOverride quota p s
    doneWith (serviceBytes taken b ++ settingsBytes taken) taken

/-- CONFIGURE_BAY with the bay field none: depot settings only (spec 09, R177). -/
def configureDepot (oos : Option Bool) (planOverride : Option (Option Nat)) (quota : Option Nat) (p : SettingsPart)
    (s : State) : Answer :=
  if oos.isSome ∨ planOverride.isSome ∨ quota.isSome then refuse .badBay s
  else doneWith (settingsBytes (applySettings p s)) (applySettings p s)

/-! ### Profiles and plans (spec 04, R69; spec 05, R93) -/

/-- Spec 04, R68: the ranges of a heat profile. -/
def profileInRange (p : HeatProfile) : Bool :=
  decide (1 ≤ p.stages ∧ p.stages ≤ 4) && decide (4 ≤ p.power ∧ p.power ≤ 80) &&
    decide (1 ≤ p.gain ∧ p.gain ≤ 100) && decide (p.loss ≤ 255) && decide (p.margin ≤ 60) &&
    decide (5 ≤ p.hysteresis ∧ p.hysteresis ≤ 30)

/-- LOAD_PROFILE. -/
def takeLoadProfile (coachType : Nat) (p : HeatProfile) (s : State) : Answer :=
  if h : coachType < 8 then
    if profileInRange p then done { s with profiles := s.profiles.set coachType p } else refuse .outOfRange s
  else refuse .outOfRange s

/-- Spec 05, R92: the ranges of a lamp step. -/
def stepInRange (t : LampStep) : Bool :=
  decide (t.circuit ≤ 31) && decide (t.low ≤ t.high ∧ t.high ≤ 2500) && decide (1 ≤ t.settle ∧ t.settle ≤ 50)

/-- Spec 05, R92, R93: a list of steps a plan may hold. -/
def stepsInRange (steps : List LampStep) : Bool :=
  decide (steps.length ≤ 16) && steps.all stepInRange && decide (steps.map LampStep.circuit).Nodup

/-- LOAD_LAMP_PLAN. -/
def takeLoadPlan (n : Nat) (steps : List LampStep) (s : State) : Answer :=
  if 7 < n ∨ stepsInRange steps = false then refuse .outOfRange s
  else if planInUse s n then refuse .inUse s
  else done (loadPlan n steps s)

/-! ### Departures (spec 01, R22, R23) -/

/-- The record a SET_DEPARTURE asks for, after clamping (spec 01, R22). -/
def askedDeparture (minute : Nat) (target : Int) (expected : Nat) : Departure where
  minute := minute
  target := clampInt 50 280 target
  expected := if expected = 0 then none else some expected
  overdue := false

/-- The record already present equals the one asked for in all three fields. -/
def sameDeparture (d : Departure) (old : Option Departure) : Bool :=
  match old with
  | some o => o.minute == d.minute && o.target == d.target && o.expected == d.expected
  | none => false

/-- SET_DEPARTURE. -/
def takeSetDeparture (b : Bay) (minute : Nat) (target : Int) (expected : Nat) (s : State) : Answer :=
  if (s.bay b).table.occ = .outOfService ∨ inRelease s b then refuse .wrongState s
  else if Config.maxMinute < minute then refuse .outOfRange s
  else if sameDeparture (askedDeparture minute target expected) (departureOf s b) then done s
  else done (replaceDeparture b (askedDeparture minute target expected) s)

/-- CANCEL_DEPARTURE. -/
def takeCancelDeparture (b : Bay) (s : State) : Answer :=
  if (departureOf s b).isNone then refuse .notFound s
  else if inRelease s b then refuse .wrongState s
  else done (cancelDeparture b s)

/-- READ_DEPARTURES (spec 09, R181). -/
def takeReadDepartures (index : Nat) (s : State) : Answer :=
  if s.departures.length < index then refuse .outOfRange s else doneWith (departuresPage s index) s

/-! ### Clearance (spec 08) -/

/-- The outcome of an evaluation, CLEARED or REFUSED, and its reasons (log entry 19). -/
def outcomeBytes (reasons : ReasonSet) : List Byte :=
  byte (clearStateNumber (if reasons = 0#18 then .cleared else .refused)) ++ kindSetBytes reasons

/-- REQUEST_CLEARANCE (spec 08, R157). -/
def takeRequestClearance (b : Bay) (waive : Bool) (s : State) : Answer :=
  if s.clock.isSet = false then refuse .clockUnset s
  else if inRelease s b then refuse .wrongState s
  else doneWith (outcomeBytes (evaluate s b waive)) (storeEvaluation b waive s)

/-- RELEASE (spec 08, R163). -/
def takeRelease (b : Bay) (s : State) : Answer :=
  if (s.bay b).clear.state = .cleared then done (beginRelease b s) else refuse .wrongState s

/-- WITHDRAW_CLEARANCE (spec 08, R168). -/
def takeWithdrawClearance (b : Bay) (s : State) : Answer := done (withdrawClearance b s)

/-- PLACE_HOLD (spec 08, R154). -/
def takePlaceHold (b : Bay) (tag reason : Nat) (s : State) : Answer :=
  if tag = 0 ∨ 15 < reason then refuse .outOfRange s
  else if holdsCoach s b = false then refuse .wrongState s
  else if (s.bay b).clear.holds.any (·.tag == tag) then refuse .inUse s
  else if 4 ≤ (s.bay b).clear.holds.length then refuse .full s
  else done (placeHold b { tag := tag, reason := reason } s)

/-- LIFT_HOLD (spec 08, R155). -/
def takeLiftHold (b : Bay) (tag : Nat) (s : State) : Answer :=
  if tag = 0 then refuse .outOfRange s
  else if (s.bay b).clear.holds.any (·.tag == tag) then done (liftHold b tag s)
  else refuse .notFound s

/-! ### Lamp checks (spec 05, R97, R110) -/

/-- START_LAMP_CHECK. -/
def takeStartCheck (b : Bay) (s : State) : Answer :=
  match (s.bay b).table.lampPlan with
  | some n =>
    if (s.bay b).table.occ ≠ .present ∨ inRelease s b then refuse .wrongState s
    else if checkActive s b then refuse .inUse s
    else done (startCheck b n s)
  | none => refuse .wrongState s

/-- ABORT_LAMP_CHECK. -/
def takeAbortCheck (b : Bay) (s : State) : Answer :=
  if checkActive s b then done (abortCheck b .aborted s) else refuse .wrongState s

/-! ### Faults (spec 06, R129 to R133; spec 07, R146) -/

/-- READ_FAULTS (spec 06, R129). -/
def takeReadFaults (b : Bay) (index : Nat) (s : State) : Answer :=
  if (s.bay b).faults.list.length < index then refuse .outOfRange s else doneWith (faultsPage s b index) s

/-- The expiry a DEFER_FAULT stores: an until later than one week ahead, and every until above the largest depot minute, is
clamped to one week ahead (spec 06, R130). -/
def deferExpiry (s : State) (until_ : Nat) : Nat :=
  if Config.maxMinute < until_ then s.clock.minute + Config.maxDeferral
  else min until_ (s.clock.minute + Config.maxDeferral)

/-- An entry is deferred (spec 06, R130). -/
def deferEntry (b : Bay) (source code expiry : Nat) (s : State) : State :=
  updEntry b source code (fun e => { e with state := .deferred, expiry := some expiry }) s

/-- DEFER_FAULT, in the order of R130's table. -/
def takeDefer (b : Bay) (source code until_ : Nat) (s : State) : Answer :=
  if 15 < source then refuse .outOfRange s
  else if s.clock.isSet = false then refuse .clockUnset s
  else
    match findEntry s b source code with
    | none => refuse .notFound s
    | some e =>
      if e.state ≠ .active then refuse .wrongState s
      else if until_ ≤ s.clock.minute then refuse .outOfRange s
      else doneWith (long (deferExpiry s until_)) (deferEntry b source code (deferExpiry s until_) s)

/-- CLEAR_FAULT of an entry that stands, by its source (spec 06, R132, R133). -/
def clearEntry (b : Bay) (e : FaultEntry) (s : State) : Answer :=
  if isCoachSource e.source then
    if e.state = .clearPending then done s else done (askClear b e s)
  else if e.source = lampsSource ∨ (s.bay b).power.closed ≤ (s.bay b).power.commanded then
    done (removeEntries b (FaultEntry.matches e.source e.code) s)
  else refuse .inUse s

/-- CLEAR_FAULT. -/
def takeClear (b : Bay) (source code : Nat) (s : State) : Answer :=
  if 15 < source then refuse .outOfRange s
  else
    match findEntry s b source code with
    | none => refuse .notFound s
    | some e => clearEntry b e s

/-- A pass is already wanted: the reader state is QUEUED, READING or SUSPENDED (spec 07, R146). -/
def passAsked (s : State) (b : Bay) : Bool :=
  match (s.bay b).reader.state with
  | .queued => true
  | .reading => true
  | .suspended => true
  | .unread => false
  | .complete => false
  | .failed => false

/-- The bay's context as a re-read is asked (spec 07, R146). -/
def rereadMarks (b : Bay) (s : State) : State :=
  updReader b
    (fun r => { r with
      passWanted := true, cursor := 0, failedVisits := 0
      identityWanted := r.identityWanted || (s.bay b).table.identity.isNone })
    s

/-- REREAD_FAULTS, taken (spec 07, R146). -/
def reread (b : Bay) (s : State) : State :=
  onlyIf (decide ((s.bay b).reader.state = .complete)) (clearanceNews b .faultsNotRead)
    (if visiting s b then updReader b (fun r => { r with state := .reading }) (rereadMarks b s)
     else placeTail b (rereadMarks b s))

/-- REREAD_FAULTS. -/
def takeReread (b : Bay) (s : State) : Answer :=
  if (s.bay b).table.occ ≠ .present ∨ inRelease s b then refuse .wrongState s
  else if passAsked s b then refuse .inUse s
  else done (reread b s)

/-! ### Reads (spec 09, R179, R180) -/

/-- READ_BAY. -/
def takeReadBay (b : Bay) (s : State) : Answer := doneWith (bayRecordBytes s b) s

/-- READ_SUPPLY. -/
def takeReadSupply (part : Nat) (s : State) : Answer :=
  match supplyPart s part with
  | some payload => doneWith payload s
  | none => refuse .outOfRange s

/-! ### Events (spec 10, R184 to R187) -/

/-- READ_EVENTS. -/
def takeReadEvents (p : Port) (s : State) : Answer := doneWith (eventsBytes (s.port p)) s

/-- Spec 10, R187: a kind without a bay is acknowledged where the count given is the port's post count. -/
def DepotKind.ack (count : Nat) (r : DepotKind) : DepotKind :=
  if r.count = count then { r with flag := false } else r

/-- One kind named is acknowledged on a port (spec 10, R187). -/
def PortRec.ack (a : AckItem) (r : PortRec) : PortRec :=
  if h : a.kind < 18 then
    if a.kind = poolLowKind.val then { r with poolLow := r.poolLow.ack a.count }
    else if a.kind = supplyKind.val then { r with supply := r.supply.ack a.count }
    else { r with baySets := r.baySets.set a.kind (r.baySets[a.kind] &&& ~~~a.bays) }
  else r

/-- The kinds named are acknowledged. -/
def ackItems (p : Port) (items : List AckItem) (s : State) : State :=
  updPort p (fun r => items.foldl (fun r a => r.ack a) r) s

/-- Spec 10, R187: the kinds an ACK_EVENTS may name. -/
def goodAck (items : List AckItem) : Bool :=
  decide (1 ≤ items.length ∧ items.length ≤ 18) && items.all (fun a => decide (a.kind ≤ 17)) &&
    decide (items.map AckItem.kind).Nodup

/-- ACK_EVENTS. -/
def takeAck (p : Port) (items : List AckItem) (s : State) : Answer :=
  if goodAck items then
    doneWith (kindSetBytes ((ackItems p items s).port p).pendingSet) (ackItems p items s)
  else refuse .outOfRange s

/-- SET_EVENT_MASK. -/
def takeSetMask (p : Port) (kinds : Nat) (s : State) : Answer :=
  if kinds < 2 ^ 18 then
    doneWith (kindSetBytes (BitVec.ofNat 18 kinds)) (updPort p (fun r => { r with mask := BitVec.ofNat 18 kinds }) s)
  else refuse .outOfRange s

/-- SET_QUIET. -/
def takeSetQuiet (p : Port) (on : Bool) (s : State) : Answer := done (updPort p (fun r => { r with quiet := on }) s)

/-! ### Handing a request to its owner (spec 09, R173, R174) -/

/-- A bay field that names a bay. -/
def bayField (n : Nat) : Option Bay := if h : n < 32 then some ⟨n, h⟩ else none

/-- The bay field none (spec 11, 11.2). -/
def noBay : Nat := 255

/-- A request of a kind that names a bay goes to its owner, or is answered BAD_BAY. -/
def withBay (n : Nat) (f : Bay → State → Answer) (s : State) : Answer :=
  match bayField n with
  | some b => f b s
  | none => refuse .badBay s

/-- A request of a kind that takes no bay goes to its owner, or is answered BAD_BAY. -/
def withoutBayField (n : Nat) (f : State → Answer) (s : State) : Answer :=
  if n = noBay then f s else refuse .badBay s

/-- CONFIGURE_BAY takes a bay or none (spec 09, R173, R177). -/
def withBayOrNone (n : Nat) (f : Bay → State → Answer) (g : State → Answer) (s : State) : Answer :=
  if n = noBay then g s else withBay n f s

/-- The request kinds, 1 to 27 in the order of the catalogue (spec 09, 9.3; spec 11, R190). -/
def bodyKind : Body → Nat
  | .setClock _ => 1
  | .setOutside _ => 2
  | .setBudget _ _ => 3
  | .setReserve _ => 4
  | .configureBay _ _ _ _ => 5
  | .loadProfile _ _ => 6
  | .loadLampPlan _ _ => 7
  | .setDeparture _ _ _ => 8
  | .cancelDeparture => 9
  | .requestClearance _ => 10
  | .release => 11
  | .withdrawClearance => 12
  | .readDepartures _ => 13
  | .startLampCheck => 14
  | .abortLampCheck => 15
  | .readFaults _ => 16
  | .deferFault _ _ _ => 17
  | .clearFault _ _ => 18
  | .rereadFaults => 19
  | .placeHold _ _ => 20
  | .liftHold _ => 21
  | .readBay => 22
  | .readSupply _ => 23
  | .readEvents => 24
  | .ackEvents _ => 25
  | .setEventMask _ => 26
  | .setQuiet _ => 27
  | .outOfSet kind _ => kind

/-- Spec 09, 9.3: the port a kind belongs to, none where every port may send it. -/
def kindPort (kind : Nat) : Option Port :=
  if kind ≤ 9 then some .schedule
  else if kind ≤ 13 then some .dispatch
  else if kind = 16 then none
  else if kind ≤ 21 then some .workshop
  else none

/-- Spec 09, R173: the kind belongs to the port's role. -/
def permitted (p : Port) (kind : Nat) : Bool :=
  match kindPort kind with
  | some q => p == q
  | none => true

/-- Spec 09, 9.3: the kinds that carry a bay; CONFIGURE_BAY (5) takes either. -/
def kindNamesBay (kind : Nat) : Bool :=
  (decide (8 ≤ kind) && decide (kind ≤ 12)) || (decide (14 ≤ kind) && decide (kind ≤ 22))

/-- A request of a known kind whose parameters include a number with no meaning: its bay field is judged as any
other's, a CONFIGURE_BAY of no bay that carries a bay part is BAD_BAY, and else its owner answers OUT_OF_RANGE (spec 09,
R177; spec 11, R190; log entry 23). -/
def takeOutOfSet (kind : Nat) (bayPart : Bool) (bay : Nat) (s : State) : Answer :=
  if kindNamesBay kind then withBay bay (fun _ => refuse .outOfRange) s
  else if kind = 5 then
    withBayOrNone bay (fun _ => refuse .outOfRange) (refuse (if bayPart then .badBay else .outOfRange)) s
  else withoutBayField bay (refuse .outOfRange) s

/-- The request goes to its owner, its bay field judged (spec 09, R173 and 9.3). -/
def handle (p : Port) (r : Request) (s : State) : Answer :=
  match r.body with
  | .setClock minute => withoutBayField r.bay (takeSetClock minute) s
  | .setOutside t => withoutBayField r.bay (takeSetOutside t) s
  | .setBudget normal shed => withoutBayField r.bay (takeSetBudget normal shed) s
  | .setReserve units => withoutBayField r.bay (takeSetReserve units) s
  | .configureBay oos planOverride quota settings =>
    withBayOrNone r.bay (fun b => configureBay b oos planOverride quota settings)
      (configureDepot oos planOverride quota settings) s
  | .loadProfile coachType profile => withoutBayField r.bay (takeLoadProfile coachType profile) s
  | .loadLampPlan n steps => withoutBayField r.bay (takeLoadPlan n steps) s
  | .setDeparture minute target expected => withBay r.bay (fun b => takeSetDeparture b minute target expected) s
  | .cancelDeparture => withBay r.bay takeCancelDeparture s
  | .requestClearance waive => withBay r.bay (fun b => takeRequestClearance b waive) s
  | .release => withBay r.bay takeRelease s
  | .withdrawClearance => withBay r.bay takeWithdrawClearance s
  | .readDepartures index => withoutBayField r.bay (takeReadDepartures index) s
  | .startLampCheck => withBay r.bay takeStartCheck s
  | .abortLampCheck => withBay r.bay takeAbortCheck s
  | .readFaults index => withBay r.bay (fun b => takeReadFaults b index) s
  | .deferFault source code until_ => withBay r.bay (fun b => takeDefer b source code until_) s
  | .clearFault source code => withBay r.bay (fun b => takeClear b source code) s
  | .rereadFaults => withBay r.bay takeReread s
  | .placeHold tag reason => withBay r.bay (fun b => takePlaceHold b tag reason) s
  | .liftHold tag => withBay r.bay (fun b => takeLiftHold b tag) s
  | .readBay => withBay r.bay takeReadBay s
  | .readSupply part => withoutBayField r.bay (takeReadSupply part) s
  | .readEvents => withoutBayField r.bay (takeReadEvents p) s
  | .ackEvents items => withoutBayField r.bay (takeAck p items) s
  | .setEventMask kinds => withoutBayField r.bay (takeSetMask p kinds) s
  | .setQuiet on => withoutBayField r.bay (takeSetQuiet p on) s
  | .outOfSet kind bayPart => takeOutOfSet kind bayPart r.bay s

end Sys2Proof.Machine
end

