-- ==== Sys2Proof/Machine/Ports.lean ====
section
/-! DEFINITION. The Station Ports: request and response frames, chip-select periods, and requests as whole frames (spec
09, 9.1; spec 11, 11.2). -/

namespace Sys2Proof.Machine

/-! ### Request payloads (spec 11, R190) -/

/-- A payload as read: of the wrong length for its kind, or a body. -/
abbrev Parsed := Option Body

/-- An option of one byte: 1 on, 0 off; any other number has no meaning. -/
def optionOf (b : Byte) : Option Bool :=
  match b.toNat with
  | 0 => some false
  | 1 => some true
  | _ => none

/-- An optional field: absent, or present with its value, or a presence byte or a value with no meaning. -/
def presentOf {α : Type} (presence : Byte) (value : Option α) : Option (Option α) :=
  match optionOf presence with
  | some true => value.map some
  | some false => some none
  | none => none

/-- A plan number that may be none, 255. -/
def planOrNone (b : Byte) : Option Nat := if b.toNat = 255 then none else some b.toNat

/-- The body, or `outOfSet` of its kind where a number has no meaning. -/
def inSet (kind : Nat) (body : Option Body) : Parsed := some (body.getD (.outOfSet kind false))

/-- Spec 05, R92: a step's class. -/
def stepClassOf (b : Byte) : Option StepClass :=
  match b.toNat with
  | 0 => some .blocking
  | 1 => some .advisory
  | _ => none

/-- The steps of a LOAD_LAMP_PLAN, 7 bytes each (spec 11, 11.2). -/
def stepsOf : List Byte → Option (List LampStep)
  | c :: l1 :: l0 :: h1 :: h0 :: t :: k :: rest =>
    match stepClassOf k, stepsOf rest with
    | some cls, some steps =>
      some
        ({ circuit := c.toNat, low := readNat [l1, l0], high := readNat [h1, h0], settle := t.toNat, cls := cls } ::
          steps)
    | _, _ => none
  | _ => some []

/-- The kinds an ACK_EVENTS names, `n` of them, absent where the payload does not have their length (spec 11, R190). -/
def ackItemsOf : Nat → List Byte → Option (List AckItem)
  | 0, [] => some []
  | n + 1, k :: rest =>
    if k.toNat < 18 ∧ k.toNat ≠ poolLowKind.val ∧ k.toNat ≠ supplyKind.val then
      match rest with
      | b3 :: b2 :: b1 :: b0 :: rest =>
        (ackItemsOf n rest).map fun items =>
          { kind := k.toNat, bays := BitVec.ofNat 32 (readNat [b3, b2, b1, b0]), count := 0 } :: items
      | _ => none
    else
      match rest with
      | c :: rest =>
        (ackItemsOf n rest).map fun items => { kind := k.toNat, bays := 0#32, count := c.toNat } :: items
      | [] => none
  | _, _ => none

/-- The CONFIGURE_BAY payload of 19 bytes, each part with its presence byte, the depot settings and then the bay settings in
the order in which R176 names them (spec 09, R176; log entry 19). With a number that has no meaning in it, what is kept of
the payload is whether a bay part is present (spec 09, R177; log entry 23). -/
def configurePayload : List Byte → Parsed
  | [pr, r1, r0, pv, v1, v0, pb, rb, pc, cv, pw, w1, w0, po, o, pp, pl, pq, q] =>
    match presentOf pr (some (readNat [r1, r0])), presentOf pv (some (readNat [v1, v0])), presentOf pb (some rb.toNat),
      presentOf pc (some cv.toNat), presentOf pw (some (readNat [w1, w0])), presentOf po (optionOf o),
      presentOf pp (some (planOrNone pl)), presentOf pq (some q.toNat) with
    | some restore, some lamp, some budget, some clearance, some window, some oos, some planOverride, some quota =>
      some
        (.configureBay oos planOverride quota
          { restoreDelay := restore, lampValidity := lamp, recordBudget := budget, clearanceValidity := clearance,
            releaseWindow := window })
    | _, _, _, _, _, _, _, _ => some (.outOfSet 5 ([po, pp, pq].contains 1#8))
  | _ => none

/-- The SET_BUDGET payload of 6 bytes: two optional budgets. -/
def budgetPayload : List Byte → Parsed
  | [pn, n1, n0, ps, s1, s0] =>
    match presentOf pn (some (readNat [n1, n0])), presentOf ps (some (readNat [s1, s0])) with
    | some normal, some shed => some (.setBudget normal shed)
    | _, _ => some (.outOfSet 3 false)
  | _ => none

/-- The payload of a request kind 1 to 27, absent where its length is not its kind's (spec 09, R173; spec 11, R190). -/
def parseBody (kind : Nat) (payload : List Byte) : Parsed :=
  match kind, payload with
  | 1, [m3, m2, m1, m0] => some (.setClock (readNat [m3, m2, m1, m0]))
  | 2, [t1, t0] => some (.setOutside (readSigned [t1, t0]))
  | 3, payload => budgetPayload payload
  | 4, [u1, u0] => some (.setReserve (readNat [u1, u0]))
  | 5, payload => configurePayload payload
  | 6, [t, st, p1, p0, g, l, m, h] =>
    some
      (.loadProfile t.toNat
        { stages := st.toNat, power := readNat [p1, p0], gain := g.toNat, loss := l.toNat, margin := m.toNat,
          hysteresis := h.toNat })
  | 7, n :: count :: steps =>
    if steps.length = 7 * count.toNat then inSet 7 ((stepsOf steps).map (.loadLampPlan n.toNat)) else none
  | 8, [m3, m2, m1, m0, t1, t0, e1, e0] =>
    some (.setDeparture (readNat [m3, m2, m1, m0]) (readSigned [t1, t0]) (readNat [e1, e0]))
  | 9, [] => some .cancelDeparture
  | 10, [w] => inSet 10 ((optionOf w).map .requestClearance)
  | 11, [] => some .release
  | 12, [] => some .withdrawClearance
  | 13, [i] => some (.readDepartures i.toNat)
  | 14, [] => some .startLampCheck
  | 15, [] => some .abortLampCheck
  | 16, [i] => some (.readFaults i.toNat)
  | 17, [src, c1, c0, u3, u2, u1, u0] =>
    some (.deferFault src.toNat (readNat [c1, c0]) (readNat [u3, u2, u1, u0]))
  | 18, [src, c1, c0] => some (.clearFault src.toNat (readNat [c1, c0]))
  | 19, [] => some .rereadFaults
  | 20, [t, r] => some (.placeHold t.toNat r.toNat)
  | 21, [t] => some (.liftHold t.toNat)
  | 22, [] => some .readBay
  | 23, [p] => some (.readSupply p.toNat)
  | 24, [] => some .readEvents
  | 25, n :: items => (ackItemsOf n.toNat items).map .ackEvents
  | 26, [k2, k1, k0] => some (.setEventMask (readNat [k2, k1, k0]))
  | 27, [q] => inSet 27 ((optionOf q).map .setQuiet)
  | _, _ => none

/-! ### The response (spec 09, R171; spec 11, 11.2) -/

/-- A response frame: its length, the kind echo, the result and the payload. -/
def responseFrame (r : Response) : List Byte :=
  word (r.payload.length + 2) ++ byte r.echo ++ byte (resultNumber r.result) ++ r.payload

/-- The NOT_READY image with a kind echo. -/
def notReady (echo : Nat) : Response where
  echo := echo
  result := .notReady
  payload := []

/-- What a port's state shifts out (spec 09, 9.1). -/
def PortRec.image (r : PortRec) : List Byte :=
  match r.state with
  | .empty => responseFrame (notReady 0)
  | .working => responseFrame (notReady ((r.inWork.map fun q => bodyKind q.body).getD 0))
  | .ready => responseFrame (r.response.getD (notReady 0))
  | .read => responseFrame (r.response.getD (notReady 0))

/-- A response enters the buffer and the port is READY (spec 09, R172). -/
def answerPort (p : Port) (r : Response) (s : State) : State :=
  updPort p (fun q => { q with state := .ready, inWork := none, response := some r }) s

/-- An owner's answer enters the port's buffer, with the kind echo of the request (spec 09, R173). -/
def answerWith (p : Port) (kind : Nat) (a : Answer) : State :=
  answerPort p { echo := kind, result := a.result, payload := a.payload } a.state

/-! ### A request in work -/

/-- The owner takes the port's request in work (spec 09, R172, R174). -/
def takeInWork (p : Port) (s : State) : State :=
  match (s.port p).inWork with
  | some r => answerWith p (bodyKind r.body) (handle p r s)
  | none => s

/-- A request that passes the port's checks is judged and its owner answers (spec 09, R173). -/
def takeRequest (p : Port) (r : Request) (s : State) : State :=
  answerWith p (bodyKind r.body) (if permitted p (bodyKind r.body) then handle p r s else refuse .notPermitted s)

/-- A request row of the operation table: the request as a complete frame of this port. A port with that request in
work has its owner take it, one with another in work discards the frame, and in reset nothing is taken (spec 09, R172,
R182; log entry 7). -/
def portRequest (p : Port) (bay : Nat) (body : Body) (s : State) : State :=
  if s.inReset then s
  else if (s.port p).state = .working then
    if (s.port p).inWork = some { bay := bay, body := body } then takeInWork p s else s
  else takeRequest p { bay := bay, body := body } s

/-! ### Chip-select periods (spec 09, R171, R172) -/

/-- The largest request, after its length byte (spec 11, 11.2). -/
def maxRequest : Nat := 116

/-- Spec 09, R173, check 4: the bay field of a kind. -/
def bayFieldGood (kind bay : Nat) : Bool :=
  if kindNamesBay kind then decide (bay < 32)
  else if kind = 5 then decide (bay < 32) || decide (bay = noBay)
  else decide (bay = noBay)

/-- A frame that passes every check is in work, and one that fails is answered (spec 09, R172, R173). -/
def judgeBody (p : Port) (kind bay : Nat) (parsed : Parsed) (s : State) : State :=
  match parsed with
  | none => answerWith p kind (refuse .badFrame s)
  | some body =>
    if permitted p kind = false then answerWith p kind (refuse .notPermitted s)
    else if bayFieldGood kind bay = false then answerWith p kind (refuse .badBay s)
    else
      updPort p
        (fun q => { q with state := .working, inWork := some { bay := bay, body := body }, response := none }) s

/-- The bytes after the length byte of a complete frame (spec 09, R173). A frame of length 1 has no bay field and no payload
length: for a known kind it is answered BAD_FRAME, the first check it can fail (DESIGN CHOICE, log entry 39). -/
def judgeComplete (p : Port) (frame : List Byte) (s : State) : State :=
  match frame with
  | kind :: rest =>
    if kind.toNat = 0 ∨ 27 < kind.toNat then answerWith p kind.toNat (refuse .unknownRequest s)
    else
      match rest with
      | bay :: payload => judgeBody p kind.toNat bay.toNat (parseBody kind.toNat payload) s
      | [] => judgeBody p kind.toNat noBay none s
  | [] => s

/-- The request that a period clocked in, if it carried one: an incomplete frame is answered BAD_FRAME with the kind
echo none (spec 09, R172). -/
def judgeFrame (p : Port) (bytes : List Byte) (s : State) : State :=
  match bytes with
  | [] => s
  | length :: rest =>
    if length.toNat = 0 then s
    else if maxRequest < length.toNat ∨ rest.length < length.toNat then answerWith p 0 (refuse .badFrame s)
    else judgeComplete p (rest.take length.toNat) s

/-- The image is shifted out, as many bytes as the period clocks, and a READY response that went out whole is READ (spec
09, R171). For clocks beyond the image's last byte nothing is recorded: DESIGN CHOICE, log entry 40. -/
def shiftOut (p : Port) (count : Nat) (s : State) : State :=
  updPort p
    (fun r => { r with
      shiftedOut := r.image.take count
      state := if r.state = .ready ∧ r.image.length ≤ count then .read else r.state })
    s

/-- A whole chip-select period, which stands in the order of commands where its chip select is asserted: what the port shows
is that of the state it begins in; a frame that comes while the port is WORKING is discarded, even where the owner answers
during the period; and a period that begins in reset, or that reset overtakes, is lost whole (spec 09, R171, R172, R182; log
entry 6). -/
def chipSelect (p : Port) (answeredDuring : Bool) (bytes : List Byte) (s : State) : State :=
  if s.inReset then s
  else if (s.port p).state = .working then onlyIf answeredDuring (takeInWork p) (shiftOut p bytes.length s)
  else judgeFrame p bytes (shiftOut p bytes.length s)

end Sys2Proof.Machine
end

