-- ==== Sys2Proof/Machine/OwnEvents.lean ====
section
/-! DEFINITION. The part's own events, each with the conditions under which it comes, as operations on the state. An event
that cannot come in a state leaves it as it is (log entry 4). -/

namespace Sys2Proof.Machine

/-- A command is carried out: what it does, and the due polls held where it has moved a poll class (spec 02, R40). -/
def carryOut (f : State → State) (s : State) : Host.Outcome State Fault Refusal := .next (pollsHeld s (f s))

/-- In reset nothing comes but the end of reset and the edges of SHED (spec 09, R182; log entry 4). -/
def outOfReset (f : State → State) (s : State) : State := if s.inReset then s else f s

/-- No depot setting. -/
def noSettings : SettingsPart where
  restoreDelay := none
  lampValidity := none
  recordBudget := none
  clearanceValidity := none
  releaseWindow := none

/-! ### Reset (spec 01, R2; spec 09, R182) -/

/-- Spec 03, R50: the supply state that the SHED line gives as reset ends. -/
def supplyFromLine (shedLine : Bool) : SupplyState := if shedLine then .shed else .normal

/-- RESETn goes low: every record takes its reset value. The SHED line and the waiting commands are not the part's to
reset (log entry 25). -/
def resetBegins (s : State) : State :=
  State.atReset true s.shedLine (supplyFromLine s.shedLine) 0 .idle s.pending

/-- Reset ends: the supply state is taken from the line, and the 32 sweep polls join the pending list with the same age
(spec 02, R39; spec 03, R50; spec 09, R182). -/
def resetEnds (s : State) : State :=
  if s.inReset then
    State.atReset false s.shedLine (supplyFromLine s.shedLine) (max s.time resetLength)
      (.sweep (max s.time resetLength)) s.pending
  else s

/-! ### The Depot Clock (spec 03, R46, R48) -/

/-- The minute advances where the clock is SET and below saturation, and is told (spec 03, R46, R48). -/
def advanceMinute (s : State) : State :=
  if s.clock.isSet ∧ s.clock.minute < Config.maxMinute then
    minuteTold { s with clock := { s.clock with minute := s.clock.minute + 1 } }
  else s

/-- The seconds timebase has counted so many seconds. -/
def secondsPass (n : Nat) (s : State) : State :=
  timeTo (s.lastSecond + n * Config.sec) { s with lastSecond := s.lastSecond + n * Config.sec }

/-- The seconds count returns to 0 as it passes 59, and the minute advances (spec 03, R46). -/
def secondsWrap (s : State) : State := advanceMinute { s with clock := { s.clock with seconds := 0 } }

/-- One second of the timebase (spec 03, R46). -/
def secondsTick (s : State) : State :=
  if 59 ≤ s.clock.seconds then secondsWrap (secondsPass 1 s)
  else { secondsPass 1 s with clock := { s.clock with seconds := s.clock.seconds + 1 } }

/-- The moment of the next advance of the minute comes (spec 03, R48). -/
def minuteAdvances (s : State) : State :=
  if s.clock.isSet ∧ s.clock.minute < Config.maxMinute then secondsWrap (secondsPass (60 - s.clock.seconds) s)
  else s

/-! ### SHED and the restore delay (spec 03, R50, R51) -/

/-- A filtered assertion of the line; in reset the line alone is noted. -/
def shedAsserted (s : State) : State :=
  if s.inReset then { s with shedLine := true } else shedAsserts { s with shedLine := true }

/-- A filtered deassertion of the line; in reset the line alone is noted. -/
def shedDeasserted (s : State) : State :=
  if s.inReset then { s with shedLine := false } else shedDeasserts { s with shedLine := false }

/-- Something comes at a moment, where there is one. -/
def atMoment (t : Option Moment) (f : State → State) (s : State) : State :=
  match t with
  | some m => f (timeTo m s)
  | none => s

/-- The restore delay runs out (spec 03, R51). -/
def restoreDelayEnds (s : State) : State := atMoment (restoreEnd s) restoreEnds s

/-! ### The loop (spec 02, R36, R37, R40) -/

/-- The moment a bay's poll falls due by its class (spec 02, R40). -/
def pollFallsDueAt (s : State) (b : Bay) : Option Moment :=
  match (s.bay b).loop.poll with
  | .classed _ => pollDueAt s b
  | .held _ _ _ => pollDueAt s b
  | .idle => none
  | .sweep _ => none
  | .probe _ => none

/-- The moment a LOST bay's probe falls due (spec 02, R37). -/
def probeFallsDueAt (s : State) (b : Bay) : Option Moment :=
  match (s.bay b).loop.poll with
  | .probe due => if (s.bay b).table.occ = .lost then some due else none
  | .idle => none
  | .sweep _ => none
  | .classed _ => none
  | .held _ _ _ => none

/-- A bay's poll falls due: from that moment it is an entry of class 5 with its due time as its age (spec 02, R40). -/
def pollFallsDue (b : Bay) (s : State) : State := atMoment (pollFallsDueAt s b) id s

/-- A LOST bay's probe falls due (spec 02, R37). -/
def probeFallsDue (b : Bay) (s : State) : State := atMoment (probeFallsDueAt s b) id s

/-- The bay's transaction on the line, where its failure would be the node's third in a row (spec 02, R36). -/
def losingTransaction (s : State) (b : Bay) : Option OnLine :=
  s.line.filter fun l =>
    l.bay == b && l.attempt == 2 && l.quietUntil.isNone && reachable s b &&
      (s.bay b).loop.failures + 1 == lossLimit

/-- The third consecutive failed transaction of a node (spec 02, R36). -/
def nodeIsLost (b : Bay) (s : State) : State :=
  match losingTransaction s b with
  | some l => countedFailure l s
  | none => s

/-! ### The Bay Table (spec 01, R5, R6, R10, R11) -/

/-- The reading that brings a plug count to its mark. -/
def lastReading (b : Bay) (plug : Plug) (s : State) : State :=
  updTable b (fun t => { t with plug := some plug, plugCount := 0 }) s

/-- A VACANT bay's third plug-IN poll (spec 01, R6). -/
def arrives (b : Bay) (s : State) : State :=
  if (s.bay b).table.occ = .vacant ∧ (s.bay b).table.plugCount = 2 then becomeArriving b (lastReading b .in_ s)
  else s

/-- A RELEASED bay's second plug-OUT poll (spec 01, R10). -/
def departsCleanly (b : Bay) (s : State) : State :=
  if (s.bay b).table.occ = .present ∧ (s.bay b).clear.state = .released ∧ 1 ≤ (s.bay b).table.plugCount then
    cleanDeparture b (lastReading b .out s)
  else s

/-- The bay is ARRIVING, or PRESENT and not RELEASED (spec 01, R11). -/
def unreleasedCoach (s : State) (b : Bay) : Bool :=
  (s.bay b).table.occ == .arriving || ((s.bay b).table.occ == .present && (s.bay b).clear.state != .released)

/-- An unreleased bay's third plug-OUT poll (spec 01, R11). -/
def departsUnreleased (b : Bay) (s : State) : State :=
  if unreleasedCoach s b = true ∧ 2 ≤ (s.bay b).table.plugCount then unreleasedDeparture b (lastReading b .out s)
  else s

/-- The second poll of a stuck watch finds the count above the commanded target (spec 03, R66). -/
def contactorSticks (b : Bay) (s : State) : State :=
  if (s.bay b).power.watch = some 1 ∧ (s.bay b).power.commanded < (s.bay b).power.closed then foundStuck b s else s

/-! ### Lamp checks (spec 05, R100, R101, R104, R113) -/

/-- A waiting slot's reservation is granted (spec 05, R101). -/
def checkRuns (i : Fin 4) (s : State) : State :=
  if waits s (.slot i) && fits s (.slot i) then grantHolder (.slot i) s else s

/-- The moment a slot's next sample is asked (spec 05, R104). -/
def sampleDue (s : State) (i : Fin 4) : Option Moment :=
  match s.slots[i] with
  | some c => if c.phase = .sampling then c.nextAt else none
  | none => none

/-- 200 ms after a sample's outcome the next is asked (spec 05, R104). -/
def sampleIntervalEnds (i : Fin 4) (s : State) : State := atMoment (sampleDue s i) (askSample i) s

/-- The moment a bay's LAMP_OFF is asked again (spec 05, R113). -/
def offRetryDue (s : State) (b : Bay) : Option Moment :=
  if (s.bay b).lamp.lit && (s.bay b).lamp.slot.isNone then (s.bay b).lamp.offRetryAt else none

/-- A LAMP_OFF is asked again, which is answered NOT_SENT while the bay cannot be reached (spec 05, R113). -/
def offRetried (b : Bay) (s : State) : State := atMoment (offRetryDue s b) (askLampOff b) s

/-! ### The Fault Reader (spec 07, R136 to R138, R145) -/

/-- The wake reservation is granted and the visit begins at the queue's head (spec 07, R136). -/
def visitStarts (s : State) : State :=
  if s.visit.isNone && !holdsReservation s .reader && fits s .reader then grantHolder .reader s else s

/-- The moment the settle time ends. -/
def settleDue (s : State) : Option Moment :=
  match s.visit with
  | some v => if v.phase = .settle then v.settleUntil else none
  | none => none

/-- The settle time has run: the next good poll's bridge state judges the wake (spec 07, R137). -/
def settleEnds (s : State) : State :=
  atMoment (settleDue s) (updVisit fun v => { v with settleUntil := none }) s

/-- A visit whose third failure is counted as it ends (spec 07, R138). -/
def exhaustedVisit (s : State) : Option Visit :=
  s.visit.filter fun v =>
    v.failed && v.phase == .sleep && (s.bay v.bay).reader.failedVisits + 1 == visitLimit

/-- The length of the OK reply of a SLEEP: address, kind echo, status, payload length and CRC (spec 11, 11.3). -/
def sleepReplyLength : Nat := 6

/-- The SLEEP of a visit, on the line, with time left for its reply (spec 07, R144). -/
def sleepOnLine (s : State) (v : Visit) : Option OnLine :=
  s.line.filter fun l =>
    l.bay == v.bay && l.entry.req == .sleep && l.entry.wanted && l.quietUntil.isNone && inTime s l sleepReplyLength

/-- The third failed visit of a bay ends: the OK reply of its SLEEP is taken, which ends the visit through its sleep phase
(spec 07, R138, R144; log entry 5). -/
def visitsLimitReached (s : State) : State :=
  match (exhaustedVisit s).bind (sleepOnLine s) with
  | some l => goodReply l (.ok (.reader .nothing)) (timeTo (replyEnd l sleepReplyLength) s)
  | none => s

/-- The pool has room and bays are suspended: they resume (spec 07, R145). -/
def readerResumes (s : State) : State := if 0 < s.freeCount then readerResume s else s

/-! ### The Clearance Unit (spec 08, R160, R164 to R167) -/

/-- The moment a bay's stop limit runs out. -/
def stopDue (s : State) (b : Bay) : Option Moment :=
  if (s.bay b).clear.state = .releasing ∧ (s.bay b).clear.substep = some .stoppingHeat then
    (s.bay b).clear.stopFrom.map (· + limitLength)
  else none

/-- The stop limit runs out (spec 08, R165). -/
def stopLimitEnds (b : Bay) (s : State) : State := atMoment (stopDue s b) (stopLimitExpires b) s

/-- The moment a bay's latch limit runs out. -/
def latchDue (s : State) (b : Bay) : Option Moment :=
  if (s.bay b).clear.state = .releasing ∧ (s.bay b).clear.substep = some .unlatching then
    (s.bay b).clear.latchFrom.map (· + limitLength)
  else none

/-- The latch limit runs out (spec 08, R166). -/
def latchLimitEnds (b : Bay) (s : State) : State := atMoment (latchDue s b) (latchLimitExpires b) s

/-- The moment a RELEASED bay's window runs out. -/
def windowDue (s : State) (b : Bay) : Option Moment :=
  if (s.bay b).clear.state = .released then windowEnd s b else none

/-- The release window runs out (spec 08, R167). -/
def windowEnds (b : Bay) (s : State) : State := atMoment (windowDue s b) (windowExpires b) s

/-- The moment a refused relatch is asked again. -/
def relatchDue (s : State) (b : Bay) : Option Moment :=
  if (s.bay b).clear.relatch then (s.bay b).clear.relatchAt else none

/-- A refused relatch is asked again (spec 08, R164). -/
def relatchRetried (b : Bay) (s : State) : State := atMoment (relatchDue s b) (askClose b) s

/-- The moment a CLEARED bay's validity runs out. -/
def validityDue (s : State) (b : Bay) : Option Moment :=
  if (s.bay b).clear.state = .cleared then validityEnd s b else none

/-- The validity runs out (spec 08, R160). -/
def validityEnds (b : Bay) (s : State) : State := atMoment (validityDue s b) (validityExpires b) s

/-! ### What the part does with no command waiting (log entry 2) -/

/-- An event whose moment has come. -/
def whenDue (t : Option Moment) (f : State → State) (s : State) : Option State :=
  if reached s t then some (f s) else none

/-- A port whose request is in work: its owner takes it (spec 09, R172). -/
def workDue (p : Port) (s : State) : Option State :=
  if (s.port p).state = .working then some (takeInWork p s) else none

/-- The events of one bay, in a fixed order. -/
def bayEvents (b : Bay) : List (State → Option State) :=
  [fun s => whenDue (stopDue s b) (stopLimitEnds b) s, fun s => whenDue (latchDue s b) (latchLimitEnds b) s,
    fun s => whenDue (windowDue s b) (windowEnds b) s, fun s => whenDue (validityDue s b) (validityEnds b) s,
    fun s => whenDue (relatchDue s b) (relatchRetried b) s, fun s => whenDue (offRetryDue s b) (offRetried b) s,
    fun s => whenDue ((laneOf s b .stage).opened.bind Entry.persistEnd) (busyPersists b .stage) s,
    fun s => whenDue ((laneOf s b .latch).opened.bind Entry.persistEnd) (busyPersists b .latch) s,
    fun s => whenDue ((laneOf s b .lamp).opened.bind Entry.persistEnd) (busyPersists b .lamp) s,
    fun s => whenDue ((laneOf s b .reader).opened.bind Entry.persistEnd) (busyPersists b .reader) s]

/-- The moment the transaction on the line ends its attempt or its quiet time. -/
def lineDue (s : State) : Option Moment :=
  s.line.map fun l => l.quietUntil.getD (l.sentEnd + replyTimeout)

/-- The quiet time ends, or no reply has come. -/
def lineEnds (s : State) : State :=
  match s.line with
  | some l => if l.quietUntil.isSome then quietEnds s else timesOut s
  | none => s

/-- The arbiter has a choice to make. -/
def arbiterDue (s : State) : Option State :=
  if s.line.isNone ∧ (choice s).isSome then some (arbiterChooses s) else none

/-- An increase may be asked now. -/
def increaseDue (s : State) : Option State :=
  if s.supply.increase.isNone ∧ (increaseBay s).isSome then some (stageIncrease s) else none

/-- The part's own events in the order in which the model lets them come when several are due. -/
def ownEvents : List (State → Option State) :=
  [workDue .schedule, workDue .dispatch, workDue .workshop,
    fun s => whenDue (some (s.lastSecond + Config.sec)) secondsTick s,
    fun s => whenDue (restoreEnd s) restoreDelayEnds s, fun s => whenDue (settleDue s) settleEnds s] ++
    (allSlots.map fun i s => whenDue (sampleDue s i) (sampleIntervalEnds i) s) ++ allBays.flatMap bayEvents ++
    [fun s => whenDue (lineDue s) lineEnds s, arbiterDue, increaseDue]

/-- With no command waiting the part does the first of its own events that is due, and else lets one millisecond pass
(log entry 2). In reset it does nothing. -/
def idle (s : State) : State :=
  if s.inReset then s
  else pollsHeld s ((ownEvents.findSome? fun e => e s).getD { s with time := s.time + Config.ms })

end Sys2Proof.Machine
end

