-- ==== Sys2Proof/Machine/ExecBays.lean ====
section
/-! DEFINITION. The meanings of the commands of the bay table and the supply allocator. -/

namespace Sys2Proof.Machine

/-- ARRIVAL (spec 01, R6). -/
def execArrival (bay : Bay) (s : State) : Host.Outcome State Fault Refusal :=
  carryOut (outOfReset (arrives bay)) s

/-- CLEAN_DEPARTURE (spec 01, R10). -/
def execCleanDeparture (bay : Bay) (s : State) : Host.Outcome State Fault Refusal :=
  carryOut (outOfReset (departsCleanly bay)) s

/-- UNRELEASED_DEPARTURE (spec 01, R11). -/
def execUnreleasedDeparture (bay : Bay) (s : State) : Host.Outcome State Fault Refusal :=
  carryOut (outOfReset (departsUnreleased bay)) s

/-- STAGE_INCREASE (spec 03, R62). -/
def execStageIncrease (s : State) : Host.Outcome State Fault Refusal :=
  carryOut (outOfReset stageIncrease) s

/-- STUCK_CONTACTOR (spec 03, R66). -/
def execStuckContactor (bay : Bay) (s : State) : Host.Outcome State Fault Refusal :=
  carryOut (outOfReset (contactorSticks bay)) s

end Sys2Proof.Machine
end

