-- ==== Sys2Proof/Machine/ExecClearance.lean ====
section
/-! DEFINITION. The meanings of the commands of the clearance unit. -/

namespace Sys2Proof.Machine

/-- STOP_LIMIT_EXPIRY (spec 08, R165). -/
def execStopLimitExpiry (bay : Bay) (s : State) : Host.Outcome State Fault Refusal :=
  carryOut (outOfReset (stopLimitEnds bay)) s

/-- LATCH_LIMIT_EXPIRY (spec 08, R166). -/
def execLatchLimitExpiry (bay : Bay) (s : State) : Host.Outcome State Fault Refusal :=
  carryOut (outOfReset (latchLimitEnds bay)) s

/-- RELEASE_WINDOW_EXPIRY (spec 08, R167). -/
def execReleaseWindowExpiry (bay : Bay) (s : State) : Host.Outcome State Fault Refusal :=
  carryOut (outOfReset (windowEnds bay)) s

/-- RELATCH_RETRY (spec 08, R164). -/
def execRelatchRetry (bay : Bay) (s : State) : Host.Outcome State Fault Refusal :=
  carryOut (outOfReset (relatchRetried bay)) s

/-- CLEARANCE_VALIDITY_EXPIRY (spec 08, R160). -/
def execClearanceValidityExpiry (bay : Bay) (s : State) : Host.Outcome State Fault Refusal :=
  carryOut (outOfReset (validityEnds bay)) s

end Sys2Proof.Machine
end

