-- ==== Sys2Proof/Machine/ExecClock.lean ====
section
/-! DEFINITION. The meanings of the commands of reset, the clock, SHED and the restore delay. -/

namespace Sys2Proof.Machine

/-- RESET (spec 01, R2): every record takes its reset value. -/
def execReset (s : State) : Host.Outcome State Fault Refusal :=
  .next (resetBegins s)

/-- RESET_END (spec 09, R182): reset ends and the discovery sweep joins the pending list. -/
def execResetEnd (s : State) : Host.Outcome State Fault Refusal :=
  .next (resetEnds s)

/-- SECONDS_TICK (spec 03, R46). -/
def execSecondsTick (s : State) : Host.Outcome State Fault Refusal :=
  carryOut (outOfReset secondsTick) s

/-- MINUTE_ADVANCE (spec 03, R48). -/
def execMinuteAdvance (s : State) : Host.Outcome State Fault Refusal :=
  carryOut (outOfReset minuteAdvances) s

/-- SHED_ASSERTED (spec 03, R50). -/
def execShedAsserted (s : State) : Host.Outcome State Fault Refusal :=
  carryOut shedAsserted s

/-- SHED_DEASSERTED (spec 03, R50). -/
def execShedDeasserted (s : State) : Host.Outcome State Fault Refusal :=
  carryOut shedDeasserted s

/-- RESTORE_DELAY_END (spec 03, R51). -/
def execRestoreDelayEnd (s : State) : Host.Outcome State Fault Refusal :=
  carryOut (outOfReset restoreDelayEnds) s

end Sys2Proof.Machine
end

