-- ==== Sys2Proof/Machine/ExecLamps.lean ====
section
/-! DEFINITION. The meanings of the commands of lamp checks. -/

namespace Sys2Proof.Machine

/-- LAMP_SLOT_TAKEN (spec 05, R100). -/
def execLampSlotTaken (s : State) : Host.Outcome State Fault Refusal :=
  carryOut (outOfReset takeHead) s

/-- LAMP_CHECK_RUNNING (spec 05, R101). -/
def execLampCheckRunning (slot : Fin 4) (s : State) : Host.Outcome State Fault Refusal :=
  carryOut (outOfReset (checkRuns slot)) s

/-- LAMP_SAMPLE_INTERVAL (spec 05, R104). -/
def execLampSampleInterval (slot : Fin 4) (s : State) : Host.Outcome State Fault Refusal :=
  carryOut (outOfReset (sampleIntervalEnds slot)) s

/-- LAMP_OFF_RETRY (spec 05, R113). -/
def execLampOffRetry (bay : Bay) (s : State) : Host.Outcome State Fault Refusal :=
  carryOut (outOfReset (offRetried bay)) s

end Sys2Proof.Machine
end

