-- ==== Sys2Proof/Machine/ExecLoop.lean ====
section
/-! DEFINITION. The meanings of the commands of the bay loop. -/

namespace Sys2Proof.Machine

/-- ARBITER_CHOICE (spec 02, R43). -/
def execArbiterChoice (s : State) : Host.Outcome State Fault Refusal :=
  carryOut (outOfReset arbiterChooses) s

/-- POLL_DUE (spec 02, R40). -/
def execPollDue (bay : Bay) (s : State) : Host.Outcome State Fault Refusal :=
  carryOut (outOfReset (pollFallsDue bay)) s

/-- PROBE_DUE (spec 02, R37). -/
def execProbeDue (bay : Bay) (s : State) : Host.Outcome State Fault Refusal :=
  carryOut (outOfReset (probeFallsDue bay)) s

/-- REPLY_TAKEN (spec 02, R26): the bytes heard are judged. -/
def execReplyTaken (bytes : List Byte) (s : State) : Host.Outcome State Fault Refusal :=
  carryOut (outOfReset (heard bytes)) s

/-- MALFORMED_REPLY (spec 02, R27): the bytes heard are judged. -/
def execMalformedReply (bytes : List Byte) (s : State) : Host.Outcome State Fault Refusal :=
  carryOut (outOfReset (heard bytes)) s

/-- REPLY_TIMEOUT (spec 02, R26, R27). -/
def execReplyTimeout (s : State) : Host.Outcome State Fault Refusal :=
  carryOut (outOfReset timesOut) s

/-- RETRY_QUIET_END (spec 02, R27). -/
def execRetryQuietEnd (s : State) : Host.Outcome State Fault Refusal :=
  carryOut (outOfReset quietEnds) s

/-- BUSY_WAIT_END (spec 02, R28). -/
def execBusyWaitEnd (bay : Bay) (sort : LoopSort) (s : State) : Host.Outcome State Fault Refusal :=
  carryOut (outOfReset (busyWaitEnds bay sort)) s

/-- BUSY_PERSIST_TIMEOUT (spec 02, R28). -/
def execBusyPersistTimeout (bay : Bay) (sort : LoopSort) (s : State) : Host.Outcome State Fault Refusal :=
  carryOut (outOfReset (busyPersists bay sort)) s

/-- NODE_LOSS (spec 02, R36). -/
def execNodeLoss (bay : Bay) (s : State) : Host.Outcome State Fault Refusal :=
  carryOut (outOfReset (nodeIsLost bay)) s

end Sys2Proof.Machine
end

