-- ==== Sys2Proof/Machine/ExecPorts.lean ====
section
/-! DEFINITION. The meanings of the commands of chip-select periods and the requests of the three ports. -/

namespace Sys2Proof.Machine

/-- CHIP_SELECT_PERIOD (spec 09, R171, R172). -/
def execChipSelectPeriod (p : Port) (answeredDuring : Bool) (bytes : List Byte)
    (s : State) : Host.Outcome State Fault Refusal :=
  carryOut (chipSelect p answeredDuring bytes) s

/-- SET_CLOCK (spec 03, R47). -/
def execSetClock (p : Port) (minute : Nat) (s : State) : Host.Outcome State Fault Refusal :=
  carryOut (portRequest p noBay (.setClock minute)) s

/-- SET_OUTSIDE (spec 04, R71). -/
def execSetOutside (p : Port) (t : Int) (s : State) : Host.Outcome State Fault Refusal :=
  carryOut (portRequest p noBay (.setOutside t)) s

/-- SET_BUDGET (spec 03, R49). -/
def execSetBudget (p : Port) (normal : Option Nat) (shed : Option Nat)
    (s : State) : Host.Outcome State Fault Refusal :=
  carryOut (portRequest p noBay (.setBudget normal shed)) s

/-- SET_RESERVE (spec 03, R53). -/
def execSetReserve (p : Port) (units : Nat) (s : State) : Host.Outcome State Fault Refusal :=
  carryOut (portRequest p noBay (.setReserve units)) s

/-- CONFIGURE_BAY with out of service on (spec 01, R18). -/
def execConfigureBayOutOfService (p : Port) (bay : Nat) (s : State) : Host.Outcome State Fault Refusal :=
  carryOut (portRequest p bay (.configureBay (some true) none none noSettings)) s

/-- CONFIGURE_BAY with out of service off (spec 01, R19). -/
def execConfigureBayInService (p : Port) (bay : Nat) (s : State) : Host.Outcome State Fault Refusal :=
  carryOut (portRequest p bay (.configureBay (some false) none none noSettings)) s

/-- CONFIGURE_BAY with the lamp plan override (spec 01, R20). -/
def execConfigureBayLampPlanOverride (p : Port) (bay : Nat) (plan : Option Nat)
    (s : State) : Host.Outcome State Fault Refusal :=
  carryOut (portRequest p bay (.configureBay none (some plan) none noSettings)) s

/-- CONFIGURE_BAY with the fault quota (spec 06, R117). -/
def execConfigureBayQuota (p : Port) (bay : Nat) (quota : Nat) (s : State) : Host.Outcome State Fault Refusal :=
  carryOut (portRequest p bay (.configureBay none none (some quota) noSettings)) s

/-- CONFIGURE_BAY with depot settings (spec 09, R176). -/
def execConfigureBayDepotSettings (p : Port) (bay : Nat) (settings : SettingsPart)
    (s : State) : Host.Outcome State Fault Refusal :=
  carryOut (portRequest p bay (.configureBay none none none settings)) s

/-- LOAD_PROFILE (spec 04, R69). -/
def execLoadProfile (p : Port) (coachType : Nat) (profile : HeatProfile)
    (s : State) : Host.Outcome State Fault Refusal :=
  carryOut (portRequest p noBay (.loadProfile coachType profile)) s

/-- LOAD_LAMP_PLAN (spec 05, R93). -/
def execLoadLampPlan (p : Port) (plan : Nat) (steps : List LampStep) (s : State) : Host.Outcome State Fault Refusal :=
  carryOut (portRequest p noBay (.loadLampPlan plan steps)) s

/-- SET_DEPARTURE (spec 01, R22). -/
def execSetDeparture (p : Port) (bay : Nat) (minute : Nat) (target : Int) (expected : Nat)
    (s : State) : Host.Outcome State Fault Refusal :=
  carryOut (portRequest p bay (.setDeparture minute target expected)) s

/-- CANCEL_DEPARTURE (spec 01, R23). -/
def execCancelDeparture (p : Port) (bay : Nat) (s : State) : Host.Outcome State Fault Refusal :=
  carryOut (portRequest p bay .cancelDeparture) s

/-- REQUEST_CLEARANCE (spec 08, R157). -/
def execRequestClearance (p : Port) (bay : Nat) (waiveHeat : Bool) (s : State) : Host.Outcome State Fault Refusal :=
  carryOut (portRequest p bay (.requestClearance waiveHeat)) s

/-- RELEASE (spec 08, R163). -/
def execRelease (p : Port) (bay : Nat) (s : State) : Host.Outcome State Fault Refusal :=
  carryOut (portRequest p bay .release) s

/-- WITHDRAW_CLEARANCE (spec 08, R168). -/
def execWithdrawClearance (p : Port) (bay : Nat) (s : State) : Host.Outcome State Fault Refusal :=
  carryOut (portRequest p bay .withdrawClearance) s

/-- READ_DEPARTURES (spec 09, R181). -/
def execReadDepartures (p : Port) (index : Nat) (s : State) : Host.Outcome State Fault Refusal :=
  carryOut (portRequest p noBay (.readDepartures index)) s

/-- START_LAMP_CHECK (spec 05, R97). -/
def execStartLampCheck (p : Port) (bay : Nat) (s : State) : Host.Outcome State Fault Refusal :=
  carryOut (portRequest p bay .startLampCheck) s

/-- ABORT_LAMP_CHECK (spec 05, R110). -/
def execAbortLampCheck (p : Port) (bay : Nat) (s : State) : Host.Outcome State Fault Refusal :=
  carryOut (portRequest p bay .abortLampCheck) s

/-- READ_FAULTS (spec 06, R129). -/
def execReadFaults (p : Port) (bay : Nat) (index : Nat) (s : State) : Host.Outcome State Fault Refusal :=
  carryOut (portRequest p bay (.readFaults index)) s

/-- DEFER_FAULT (spec 06, R130). -/
def execDeferFault (p : Port) (bay : Nat) (source : Nat) (code : Nat) (until_ : Nat)
    (s : State) : Host.Outcome State Fault Refusal :=
  carryOut (portRequest p bay (.deferFault source code until_)) s

/-- CLEAR_FAULT (spec 06, R132, R133). -/
def execClearFault (p : Port) (bay : Nat) (source : Nat) (code : Nat)
    (s : State) : Host.Outcome State Fault Refusal :=
  carryOut (portRequest p bay (.clearFault source code)) s

/-- REREAD_FAULTS (spec 07, R146). -/
def execRereadFaults (p : Port) (bay : Nat) (s : State) : Host.Outcome State Fault Refusal :=
  carryOut (portRequest p bay .rereadFaults) s

/-- PLACE_HOLD (spec 08, R154). -/
def execPlaceHold (p : Port) (bay : Nat) (tag : Nat) (reason : Nat) (s : State) : Host.Outcome State Fault Refusal :=
  carryOut (portRequest p bay (.placeHold tag reason)) s

/-- LIFT_HOLD (spec 08, R155). -/
def execLiftHold (p : Port) (bay : Nat) (tag : Nat) (s : State) : Host.Outcome State Fault Refusal :=
  carryOut (portRequest p bay (.liftHold tag)) s

/-- READ_BAY (spec 09, R179). -/
def execReadBay (p : Port) (bay : Nat) (s : State) : Host.Outcome State Fault Refusal :=
  carryOut (portRequest p bay .readBay) s

/-- READ_SUPPLY (spec 09, R180). -/
def execReadSupply (p : Port) (part : Nat) (s : State) : Host.Outcome State Fault Refusal :=
  carryOut (portRequest p noBay (.readSupply part)) s

/-- READ_EVENTS (spec 10, R186). -/
def execReadEvents (p : Port) (s : State) : Host.Outcome State Fault Refusal :=
  carryOut (portRequest p noBay .readEvents) s

/-- ACK_EVENTS (spec 10, R187). -/
def execAckEvents (p : Port) (items : List AckItem) (s : State) : Host.Outcome State Fault Refusal :=
  carryOut (portRequest p noBay (.ackEvents items)) s

/-- SET_EVENT_MASK (spec 10, R184). -/
def execSetEventMask (p : Port) (kinds : Nat) (s : State) : Host.Outcome State Fault Refusal :=
  carryOut (portRequest p noBay (.setEventMask kinds)) s

/-- SET_QUIET (spec 10, R185). -/
def execSetQuiet (p : Port) (on : Bool) (s : State) : Host.Outcome State Fault Refusal :=
  carryOut (portRequest p noBay (.setQuiet on)) s

end Sys2Proof.Machine
end

