-- ==== Sys2Proof/Machine/ExecReader.lean ====
section
/-! DEFINITION. The meanings of the commands of the fault reader. -/

namespace Sys2Proof.Machine

/-- VISIT_BEGIN (spec 07, R136). -/
def execVisitBegin (s : State) : Host.Outcome State Fault Refusal :=
  carryOut (outOfReset visitStarts) s

/-- WAKE_SETTLE_END (spec 07, R137). -/
def execWakeSettleEnd (s : State) : Host.Outcome State Fault Refusal :=
  carryOut (outOfReset settleEnds) s

/-- FAILED_VISITS_LIMIT (spec 07, R138). -/
def execFailedVisitsLimit (s : State) : Host.Outcome State Fault Refusal :=
  carryOut (outOfReset visitsLimitReached) s

/-- READER_RESUME (spec 07, R145). -/
def execReaderResume (s : State) : Host.Outcome State Fault Refusal :=
  carryOut (outOfReset readerResumes) s

end Sys2Proof.Machine
end

