-- ==== Sys2Proof/Machine/Dispatch.lean ====
section
/-! DEFINITION. The meaning of every command: one arm for each constructor of `Instr`. -/

namespace Sys2Proof.Machine

/-- What a command does to the part, the queue of waiting commands apart. -/
def exec (i : Instr) (s : State) : Host.Outcome State Fault Refusal :=
  match i with
  | .reset => Sys2Proof.Machine.execReset s
  | .resetEnd => Sys2Proof.Machine.execResetEnd s
  | .secondsTick => Sys2Proof.Machine.execSecondsTick s
  | .minuteAdvance => Sys2Proof.Machine.execMinuteAdvance s
  | .shedAsserted => Sys2Proof.Machine.execShedAsserted s
  | .shedDeasserted => Sys2Proof.Machine.execShedDeasserted s
  | .restoreDelayEnd => Sys2Proof.Machine.execRestoreDelayEnd s
  | .chipSelectPeriod p answeredDuring bytes => Sys2Proof.Machine.execChipSelectPeriod p answeredDuring bytes s
  | .setClock p minute => Sys2Proof.Machine.execSetClock p minute s
  | .setOutside p t => Sys2Proof.Machine.execSetOutside p t s
  | .setBudget p normal shed => Sys2Proof.Machine.execSetBudget p normal shed s
  | .setReserve p units => Sys2Proof.Machine.execSetReserve p units s
  | .configureBayOutOfService p bay => Sys2Proof.Machine.execConfigureBayOutOfService p bay s
  | .configureBayInService p bay => Sys2Proof.Machine.execConfigureBayInService p bay s
  | .configureBayLampPlanOverride p bay plan => Sys2Proof.Machine.execConfigureBayLampPlanOverride p bay plan s
  | .configureBayQuota p bay quota => Sys2Proof.Machine.execConfigureBayQuota p bay quota s
  | .configureBayDepotSettings p bay settings => Sys2Proof.Machine.execConfigureBayDepotSettings p bay settings s
  | .loadProfile p coachType profile => Sys2Proof.Machine.execLoadProfile p coachType profile s
  | .loadLampPlan p plan steps => Sys2Proof.Machine.execLoadLampPlan p plan steps s
  | .setDeparture p bay minute target expected => Sys2Proof.Machine.execSetDeparture p bay minute target expected s
  | .cancelDeparture p bay => Sys2Proof.Machine.execCancelDeparture p bay s
  | .requestClearance p bay waiveHeat => Sys2Proof.Machine.execRequestClearance p bay waiveHeat s
  | .release p bay => Sys2Proof.Machine.execRelease p bay s
  | .withdrawClearance p bay => Sys2Proof.Machine.execWithdrawClearance p bay s
  | .readDepartures p index => Sys2Proof.Machine.execReadDepartures p index s
  | .startLampCheck p bay => Sys2Proof.Machine.execStartLampCheck p bay s
  | .abortLampCheck p bay => Sys2Proof.Machine.execAbortLampCheck p bay s
  | .readFaults p bay index => Sys2Proof.Machine.execReadFaults p bay index s
  | .deferFault p bay source code until_ => Sys2Proof.Machine.execDeferFault p bay source code until_ s
  | .clearFault p bay source code => Sys2Proof.Machine.execClearFault p bay source code s
  | .rereadFaults p bay => Sys2Proof.Machine.execRereadFaults p bay s
  | .placeHold p bay tag reason => Sys2Proof.Machine.execPlaceHold p bay tag reason s
  | .liftHold p bay tag => Sys2Proof.Machine.execLiftHold p bay tag s
  | .readBay p bay => Sys2Proof.Machine.execReadBay p bay s
  | .readSupply p part => Sys2Proof.Machine.execReadSupply p part s
  | .readEvents p => Sys2Proof.Machine.execReadEvents p s
  | .ackEvents p items => Sys2Proof.Machine.execAckEvents p items s
  | .setEventMask p kinds => Sys2Proof.Machine.execSetEventMask p kinds s
  | .setQuiet p on => Sys2Proof.Machine.execSetQuiet p on s
  | .arbiterChoice => Sys2Proof.Machine.execArbiterChoice s
  | .pollDue bay => Sys2Proof.Machine.execPollDue bay s
  | .probeDue bay => Sys2Proof.Machine.execProbeDue bay s
  | .replyTaken bytes => Sys2Proof.Machine.execReplyTaken bytes s
  | .malformedReply bytes => Sys2Proof.Machine.execMalformedReply bytes s
  | .replyTimeout => Sys2Proof.Machine.execReplyTimeout s
  | .retryQuietEnd => Sys2Proof.Machine.execRetryQuietEnd s
  | .busyWaitEnd bay sort => Sys2Proof.Machine.execBusyWaitEnd bay sort s
  | .busyPersistTimeout bay sort => Sys2Proof.Machine.execBusyPersistTimeout bay sort s
  | .nodeLoss bay => Sys2Proof.Machine.execNodeLoss bay s
  | .arrival bay => Sys2Proof.Machine.execArrival bay s
  | .cleanDeparture bay => Sys2Proof.Machine.execCleanDeparture bay s
  | .unreleasedDeparture bay => Sys2Proof.Machine.execUnreleasedDeparture bay s
  | .stageIncrease => Sys2Proof.Machine.execStageIncrease s
  | .stuckContactor bay => Sys2Proof.Machine.execStuckContactor bay s
  | .lampSlotTaken => Sys2Proof.Machine.execLampSlotTaken s
  | .lampCheckRunning slot => Sys2Proof.Machine.execLampCheckRunning slot s
  | .lampSampleInterval slot => Sys2Proof.Machine.execLampSampleInterval slot s
  | .lampOffRetry bay => Sys2Proof.Machine.execLampOffRetry bay s
  | .visitBegin => Sys2Proof.Machine.execVisitBegin s
  | .wakeSettleEnd => Sys2Proof.Machine.execWakeSettleEnd s
  | .failedVisitsLimit => Sys2Proof.Machine.execFailedVisitsLimit s
  | .readerResume => Sys2Proof.Machine.execReaderResume s
  | .stopLimitExpiry bay => Sys2Proof.Machine.execStopLimitExpiry bay s
  | .latchLimitExpiry bay => Sys2Proof.Machine.execLatchLimitExpiry bay s
  | .releaseWindowExpiry bay => Sys2Proof.Machine.execReleaseWindowExpiry bay s
  | .relatchRetry bay => Sys2Proof.Machine.execRelatchRetry bay s
  | .clearanceValidityExpiry bay => Sys2Proof.Machine.execClearanceValidityExpiry bay s

end Sys2Proof.Machine
end

