-- ==== Sys2Proof/Safety.lean ====
section
/-! DEFINITION. What claims about the TB-40 speak of: a port that takes a request, an answer in a port's buffer, an event
pending on every port, and the laws that every step keeps. -/

namespace Sys2Proof.Machine

/-! ### Ports -/

/-- The port takes a new request: the part is out of reset and no request of the port is in work (spec 09, R172,
R182). -/
def takes (p : Port) (s : State) : Prop := s.inReset = false ∧ (s.port p).state ≠ .working

/-- The port's buffer holds this response, READY to be read (spec 09, R172). -/
def answered (p : Port) (r : Response) (s : State) : Prop :=
  (s.port p).state = .ready ∧ (s.port p).inWork = none ∧ (s.port p).response = some r

/-- The event is pending for the bay on every port (spec 10, R183). -/
def announced (e : BayEvent) (b : Bay) (s : State) : Prop :=
  ∀ p : Port, (s.port p).baySets[bayEventKind e] &&& bayBit b = bayBit b

/-- The two states have the same event records on every port (spec 10, R183). -/
def sameEvents (s t : State) : Prop :=
  ∀ p : Port, (t.port p).baySets = (s.port p).baySets ∧ (t.port p).poolLow = (s.port p).poolLow ∧
    (t.port p).supply = (s.port p).supply

/-- SUPPLY has been posted once on every port (spec 10, R183). -/
def supplyPosted (s t : State) : Prop := ∀ p : Port, (t.port p).supply = (s.port p).supply.post

/-- SUPPLY has not been posted. -/
def supplyNotPosted (s t : State) : Prop := ∀ p : Port, (t.port p).supply = (s.port p).supply

/-- The request that a request row stands for: its port, its bay field and what it asks. -/
def requestOf : Instr → Option (Port × Nat × Body)
  | .reset => none
  | .resetEnd => none
  | .secondsTick => none
  | .minuteAdvance => none
  | .shedAsserted => none
  | .shedDeasserted => none
  | .restoreDelayEnd => none
  | .chipSelectPeriod _ _ _ => none
  | .setClock p minute => some (p, noBay, .setClock minute)
  | .setOutside p t => some (p, noBay, .setOutside t)
  | .setBudget p normal shed => some (p, noBay, .setBudget normal shed)
  | .setReserve p units => some (p, noBay, .setReserve units)
  | .configureBayOutOfService p bay => some (p, bay, .configureBay (some true) none none noSettings)
  | .configureBayInService p bay => some (p, bay, .configureBay (some false) none none noSettings)
  | .configureBayLampPlanOverride p bay plan => some (p, bay, .configureBay none (some plan) none noSettings)
  | .configureBayQuota p bay quota => some (p, bay, .configureBay none none (some quota) noSettings)
  | .configureBayDepotSettings p bay settings => some (p, bay, .configureBay none none none settings)
  | .loadProfile p coachType profile => some (p, noBay, .loadProfile coachType profile)
  | .loadLampPlan p plan steps => some (p, noBay, .loadLampPlan plan steps)
  | .setDeparture p bay minute target expected => some (p, bay, .setDeparture minute target expected)
  | .cancelDeparture p bay => some (p, bay, .cancelDeparture)
  | .requestClearance p bay waiveHeat => some (p, bay, .requestClearance waiveHeat)
  | .release p bay => some (p, bay, .release)
  | .withdrawClearance p bay => some (p, bay, .withdrawClearance)
  | .readDepartures p index => some (p, noBay, .readDepartures index)
  | .startLampCheck p bay => some (p, bay, .startLampCheck)
  | .abortLampCheck p bay => some (p, bay, .abortLampCheck)
  | .readFaults p bay index => some (p, bay, .readFaults index)
  | .deferFault p bay source code until_ => some (p, bay, .deferFault source code until_)
  | .clearFault p bay source code => some (p, bay, .clearFault source code)
  | .rereadFaults p bay => some (p, bay, .rereadFaults)
  | .placeHold p bay tag reason => some (p, bay, .placeHold tag reason)
  | .liftHold p bay tag => some (p, bay, .liftHold tag)
  | .readBay p bay => some (p, bay, .readBay)
  | .readSupply p part => some (p, noBay, .readSupply part)
  | .readEvents p => some (p, noBay, .readEvents)
  | .ackEvents p items => some (p, noBay, .ackEvents items)
  | .setEventMask p kinds => some (p, noBay, .setEventMask kinds)
  | .setQuiet p on => some (p, noBay, .setQuiet on)
  | .arbiterChoice => none
  | .pollDue _ => none
  | .probeDue _ => none
  | .replyTaken _ => none
  | .malformedReply _ => none
  | .replyTimeout => none
  | .retryQuietEnd => none
  | .busyWaitEnd _ _ => none
  | .busyPersistTimeout _ _ => none
  | .nodeLoss _ => none
  | .arrival _ => none
  | .cleanDeparture _ => none
  | .unreleasedDeparture _ => none
  | .stageIncrease => none
  | .stuckContactor _ => none
  | .lampSlotTaken => none
  | .lampCheckRunning _ => none
  | .lampSampleInterval _ => none
  | .lampOffRetry _ => none
  | .visitBegin => none
  | .wakeSettleEnd => none
  | .failedVisitsLimit => none
  | .readerResume => none
  | .stopLimitExpiry _ => none
  | .latchLimitExpiry _ => none
  | .releaseWindowExpiry _ => none
  | .relatchRetry _ => none
  | .clearanceValidityExpiry _ => none

/-! ### What a change leaves behind -/

/-- The allocator's books are in order (spec 03, R52, R58, R60): the reservations fit the effective reserve, every grant is
the one the walk of the demand list gives, and no bay is commanded above it. -/
def booksInForce (t : State) : Prop :=
  reservedAmount t ≤ effectiveReserve t ∧
    ∀ b : Bay, (t.bay b).power.grant = recomputedGrant t b ∧ (t.bay b).power.commanded ≤ (t.bay b).power.grant

/-- The minute has been told to the four blocks that compare against it (spec 03, R48): no booked departure is left to be
reported overdue, no planned start is left unfired, no deferral has outlived its expiry, and every stale mark is as the
age says. -/
def minuteIsTold (t : State) : Prop :=
  ∀ b : Bay,
    isOverdue t b = false ∧
      ((t.bay b).heat.state = .planned → ∀ m ∈ (t.bay b).heat.plannedStart, t.clock.minute < m) ∧
      (∀ e ∈ (t.bay b).faults.list, e.expired t.clock.minute = false) ∧ (t.bay b).lamp.stale = isStale t b

/-- No timer has moved (spec 03, R48): the time, the seconds timebase and the restore delay; the spacings of increases; the
visit, the slots and the transaction on the line with theirs; and at each bay the limits, the window, the relatch, the
validity of a clearance that is CLEARED still, the next LAMP_OFF, every BUSY wait, the probe, and the poll of a bay whose
class has not moved. A stuck watch stands unless a STAGE asked now has ended it. -/
def timersKept (s t : State) : Prop :=
  t.time = s.time ∧ t.lastSecond = s.lastSecond ∧ t.supply.restoreFrom = s.supply.restoreFrom ∧
    t.supply.lastIncrease = s.supply.lastIncrease ∧ t.visit = s.visit ∧ t.slots = s.slots ∧ t.line = s.line ∧
    ∀ b : Bay,
      (t.bay b).power.lastIncrease = (s.bay b).power.lastIncrease ∧
        ((t.bay b).power.watch = (s.bay b).power.watch ∨
          (t.bay b).power.watch = none ∧ (t.bay b).lamp.latestStage = some s.time) ∧
        (t.bay b).clear.stopFrom = (s.bay b).clear.stopFrom ∧
        (t.bay b).clear.latchFrom = (s.bay b).clear.latchFrom ∧
        (t.bay b).clear.windowFrom = (s.bay b).clear.windowFrom ∧
        (t.bay b).clear.relatchAt = (s.bay b).clear.relatchAt ∧
        ((t.bay b).clear.state = .cleared → (t.bay b).clear.validityFrom = (s.bay b).clear.validityFrom) ∧
        (t.bay b).lamp.offRetryAt = (s.bay b).lamp.offRetryAt ∧
        (∀ sort ∈ sortOrder,
          (laneOf t b sort).opened.map (fun e => (e.rejoinAt, e.firstBusy)) =
            (laneOf s b sort).opened.map fun e => (e.rejoinAt, e.firstBusy)) ∧
        probeFallsDueAt t b = probeFallsDueAt s b ∧
        (pollPeriod t b = pollPeriod s b → (t.bay b).loop.poll = (s.bay b).loop.poll)

/-! ### Replies and failed attempts -/

/-- Out of reset this transaction is on the line with no quiet time running (spec 02, R26, R27). -/
def awaitsReply (l : OnLine) (s : State) : Prop := s.inReset = false ∧ s.line = some l ∧ l.quietUntil = none

/-- The moment these bytes have been heard: now, or as the last of them ends (spec 11, R191; log entry 8). -/
def heardAt (l : OnLine) (bytes : List Byte) (s : State) : Moment := max s.time (l.sentEnd + bytes.length * 40)

/-- The bytes are this good reply of the transaction on the line, ended within its 8 ms (spec 02, R26). -/
def replies (l : OnLine) (bytes : List Byte) (good : Good) (s : State) : Prop :=
  awaitsReply l s ∧ heardAt l bytes s ≤ l.sentEnd + 8000 ∧ parseReply l.bay l.entry.req bytes = some good

/-- The good reply has ended its transaction: the line is free and the node's failures are 0 (spec 02, R26, R36). -/
def replyEnded (l : OnLine) (bytes : List Byte) (s : State) : State :=
  updLoop l.bay (fun r => { r with failures := 0 }) { s with time := heardAt l bytes s, line := none }

/-- The second attempt of a transaction is on the line, and its failure would be counted without losing the node (spec 02,
R27, R36). -/
def lastAttempt (l : OnLine) (s : State) : Prop :=
  awaitsReply l s ∧ l.attempt = 2 ∧ reachable s l.bay = true ∧ (s.bay l.bay).loop.failures < 2

/-- A reader visit at the bay of the transaction on the line, whose reader still wants it (spec 07, R147). -/
def visitAsks (l : OnLine) (v : Visit) (s : State) : Prop := s.visit = some v ∧ v.bay = l.bay ∧ l.entry.wanted = true

/-- None of a release's timers runs and it has no substep (spec 08, R164). -/
def releaseOver (c : ClearRec) : Prop :=
  c.substep = none ∧ c.stopFrom = none ∧ c.latchFrom = none ∧ c.windowFrom = none ∧ c.openAsked = false ∧ c.waive = false

/-- A LATCH(close) is in the bay's pending list or waiting out a BUSY. -/
def closePending (s : State) (b : Bay) : Bool :=
  (laneOf s b .latch).opened.any (fun e => e.req == .latch false) ||
    (laneOf s b .latch).queued.any (fun e => e.req == .latch false)

/-! ### The laws every step keeps -/

/-- Spec 06, R114: the free count and the lengths of the 32 lists make 512. -/
def poolBalanced (s : State) : Prop :=
  s.freeCount + (allBays.map fun b => (s.bay b).faults.list.length).sum = Config.poolSize

/-- Spec 06, R115 to R117: a list is not longer than its quota of 4 to 64, holds no source and code twice, and each entry
has a source of 0 to 15 and 1 to 255 occurrences. -/
def listsGood (s : State) : Prop :=
  ∀ b : Bay,
    (s.bay b).faults.list.length ≤ (s.bay b).faults.quota ∧ 4 ≤ (s.bay b).faults.quota ∧
      (s.bay b).faults.quota ≤ 64 ∧ ((s.bay b).faults.list.map fun e => (e.source, e.code)).Nodup ∧
      ∀ e ∈ (s.bay b).faults.list, e.source ≤ 15 ∧ 1 ≤ e.occurrences ∧ e.occurrences ≤ 255

/-- Spec 06, R126: the low flag is set just while 32 entries or fewer are free. -/
def lowFlagTrue (s : State) : Prop := s.lowFlag = decide (s.freeCount ≤ Config.lowMark)

/-- The Fault Pool's law. -/
def Inv.pool (s : State) : Prop := poolBalanced s ∧ listsGood s ∧ lowFlagTrue s

/-- Spec 01, R24: the departure list is in strict order and holds just the bays with a record, at the record's
minute. -/
def Inv.departures (s : State) : Prop :=
  s.departures.Pairwise (fun x y => x.before y = true) ∧
    (∀ e ∈ s.departures, (departureOf s e.bay).map Departure.minute = some e.minute) ∧
    ∀ b : Bay, ∀ m : Nat, (departureOf s b).map Departure.minute = some m → { bay := b, minute := m } ∈ s.departures

/-- Spec 03, R52, R58, R60: the granted reservations fit the effective reserve, and no bay is commanded above its grant or
granted above its demand. -/
def Inv.supply (s : State) : Prop :=
  reservedAmount s ≤ effectiveReserve s ∧
    ∀ b : Bay, (s.bay b).power.commanded ≤ (s.bay b).power.grant ∧ (s.bay b).power.grant ≤ (s.bay b).heat.demand

/-- Spec 01, R1, R12, R13, R16, R20; spec 02, R36; spec 08, R157: what a bay's occupancy says of the rest of its record. -/
def occupancyGood (s : State) (b : Bay) : Prop :=
  ((s.bay b).table.beforeLoss.isSome ↔ (s.bay b).table.occ = .lost) ∧
    (s.bay b).table.beforeLoss ≠ some .lost ∧ (s.bay b).table.beforeLoss ≠ some .outOfService ∧
    ((s.bay b).table.discovered = false → (s.bay b).table.occ = .lost → (s.bay b).table.beforeLoss = some .vacant) ∧
    ((s.bay b).table.discovered = false → (s.bay b).table.occ = .lost ∨ (s.bay b).table.occ = .outOfService) ∧
    ((s.bay b).table.recovery = true → (s.bay b).table.occ = .arriving) ∧
    (s.bay b).table.plugCount ≤ 2 ∧
    (s.bay b).table.lampPlan =
      (if holdsCoach s b then lampPlanFor (s.bay b).table.planOverride (s.bay b).table.identity else none) ∧
    (s.bay b).loop.failures ≤ 2 ∧ (reachable s b = false → (s.bay b).loop.failures = 0) ∧
    (holdsCoach s b = false →
      (s.bay b).table.identity = none ∧ (s.bay b).heat.profile = none ∧ (s.bay b).clear.state = .idle ∧
        (s.bay b).clear.holds = [])

/-- The law of the bay records. -/
def Inv.occupancy (s : State) : Prop := ∀ b : Bay, occupancyGood s b

/-- Spec 08, R152 to R168: each field of a clearance record is as its state says. -/
def ClearRec.good (c : ClearRec) : Prop :=
  (c.substep.isSome ↔ c.state = .releasing) ∧ (c.stopFrom.isSome ↔ c.substep = some .stoppingHeat) ∧
    (c.latchFrom.isSome → c.substep = some .unlatching) ∧ (c.windowFrom.isSome ↔ c.state = .released) ∧
    (c.validityFrom.isSome ↔ c.state = .cleared) ∧
    (c.reasons ≠ 0#18 ↔ c.state = .refused ∨ c.state = .revoked ∨ c.state = .lapsed) ∧
    (c.openAsked = true → c.state = .releasing ∨ c.state = .released) ∧ c.holds.length ≤ 4 ∧
    (c.holds.map Hold.tag).Nodup ∧ ∀ h ∈ c.holds, h.tag ≠ 0 ∧ h.reason ≤ 15

/-- The law of the clearance records: a coach that is CLEARED, RELEASING or RELEASED is PRESENT (spec 08, R159, R169,
R170). -/
def Inv.clearance (s : State) : Prop :=
  ∀ b : Bay, (s.bay b).clear.good ∧
    ((s.bay b).clear.state = .cleared ∨ inRelease s b = true → (s.bay b).table.occ = .present)

/-- The line carries a LATCH(open) of the bay that its owner still wants. -/
def opening (s : State) (b : Bay) : Bool :=
  s.line.any fun l => l.bay == b && l.entry.opensLatch && l.entry.wanted

/-- Spec 08, R166: a LATCH(open) is asked, or wanted on the line, only while the bay is RELEASING in UNLATCHING and its last
poll reported no contactor closed. -/
def Inv.latch (s : State) : Prop :=
  ∀ b : Bay,
    (openPending s b = true ∨ opening s b = true →
      (s.bay b).clear.state = .releasing ∧ (s.bay b).clear.substep = some .unlatching ∧
        (s.bay b).clear.latchFrom = none ∧ (s.bay b).power.closed = 0) ∧
      ¬(openPending s b = true ∧ opening s b = true)

/-- Spec 05, R99, R100: the lamp queue holds just the bays whose check is QUEUED, each once, and a slot and the bay whose
check it holds name each other. -/
def Inv.lamps (s : State) : Prop :=
  s.lampQueue.Nodup ∧ (∀ b : Bay, b ∈ s.lampQueue ↔ (s.bay b).lamp.check = .queued) ∧
    (∀ i : Fin 4, ∀ b : Bay, (s.slots[i].map Slot.bay = some b ↔ (s.bay b).lamp.slot = some i)) ∧
    ∀ b : Bay,
      ((s.bay b).lamp.slot.isSome ↔ (s.bay b).lamp.check = .waitingPower ∨ (s.bay b).lamp.check = .running)

end Sys2Proof.Machine
end

