-- ==== Sys2Proof/Certificates/Slice0/Obligations.lean ====
section
/-! DEFINITION. The statements for the provers, each formalising what the spec's rules say of a command, of the machine or
of every step. -/

open Sys2Proof Sys2Proof.Machine

/-- For every command c, queue rest and state s: the step of s with c at the front of its queue is exec of c on s with the
queue's rest. (Rests on 00_scope.md, Time and order.) -/
def Obligations.StepRunsTheFrontCommand : Prop :=
  ∀ (c : Instr) (rest : List Instr) (s : State),
    step { s with pending := c :: rest } = exec c { s with pending := rest }

/-- For every command c and state s, exec of c answers a next state t; t has the same waiting commands as s, the same SHED
line unless c is an edge of SHED, and the same reset condition unless c is RESET or RESET_END. That no command ends in
a fault or a refusal is log entry 22, that an own event whose conditions fail does nothing log entry 4, and that RESET
and RESET_END keep the waiting commands, and RESET the SHED line, log entry 25: the model's choices. (Rests on R175,
00_scope.md, Time and order.) -/
def Obligations.EveryCommandIsCarriedOut : Prop :=
  ∀ (c : Instr) (s : State), ∃ t, exec c s = .next t ∧
    t.pending = s.pending ∧
      (c ≠ .shedAsserted → c ≠ .shedDeasserted → t.shedLine = s.shedLine) ∧
      (c ≠ .reset → c ≠ .resetEnd → t.inReset = s.inReset)

/-- After RESET, in any state, the departure list is empty and every bay record holds the values of R2's table, its per-
job parts the reset values of their owners' chapters, written out field by field. That a bay then waits for a good
poll before its first increase (polledSince false) is the model's choice, log entry 26. (Rests on R2, R60, R72, R94,
R117, R134, R152.) -/
def Obligations.ResetPutsEveryBayRecordAtItsResetValue : Prop :=
  ∀ (s : State), ∃ t, exec .reset s = .next t ∧
    t.departures = [] ∧
      ∀ b : Bay,
        (t.bay b).table =
            { occ := .lost, beforeLoss := some .vacant, discovered := false, recovery := false, plugCount := 0,
              plug := none, latch := none, lastDeparture := none, oosRequest := false, planOverride := none,
              identity := none, lampPlan := none, departure := none } ∧
          (t.bay b).heat =
            { state := .off, demand := 0, plannedStart := none, plannedLead := none, cabin := none,
              projection := none, late := false, unreachable := false, starved := false, profile := none } ∧
          (t.bay b).power =
            { grant := 0, commanded := 0, closed := 0, lastIncrease := none, stepHold := false, watch := none,
              stuck := false, refused := false, polledSince := false } ∧
          (t.bay b).lamp =
            { check := .none, result := .none, plan := none, slot := none, completion := none, advisory := 0,
              stale := false, lit := false, latestStage := none, offRetryAt := none } ∧
          (t.bay b).faults = { list := [], quota := 16, incomplete := false, refusal := false, revision := 0 } ∧
          (t.bay b).reader =
            { state := .unread, identityWanted := false, passWanted := false, clears := [], cursor := 0,
              generation := none, recordCount := none, failedVisits := 0 } ∧
          (t.bay b).clear =
            { state := .idle, substep := none, reasons := 0#18, waive := false, validityFrom := none,
              stopFrom := none, latchFrom := none, windowFrom := none, relatch := false, openAsked := false,
              relatchRefused := false, relatchAt := none, holds := [] }

/-- For every state s in reset, RESET_END ends reset not before 20 ms: the supply state is SHED with the line asserted and
NORMAL otherwise, both budgets are 0 and the reserve 40, the clock is UNSET at minute 0, the pool has 512 free
entries, the depot settings have their reset values, the line is quiet, each of the 32 bays has its sweep poll waiting
with one and the same age, and every port is EMPTY with no request, no response, its role's mask, quiet off, nothing
pending and ATTN inactive. The waiting commands and the SHED line are kept (the model's choice, log entry 25). (Rests
on R38, R39, R46, R49, R50, R53, R114, R176, R182, R184, R189.) -/
def Obligations.ResetEndStartsTheSweepAndOpensThePorts : Prop :=
  ∀ (s : State), s.inReset = true → ∃ t, exec .resetEnd s = .next t ∧
    t.inReset = false ∧ t.time = max s.time 20000 ∧ t.shedLine = s.shedLine ∧ t.pending = s.pending ∧
      t.supply.state = (if s.shedLine then .shed else .normal) ∧ t.supply.normal = 0 ∧ t.supply.shed = 0 ∧
      t.supply.reserve = 40 ∧ t.supply.reservations = [] ∧ t.supply.waiting = [] ∧
      t.clock = { minute := 0, seconds := 0, isSet := false } ∧ t.freeCount = 512 ∧ t.outside = -250 ∧
      t.settings =
        { restoreDelay := 60, lampValidity := 720, recordBudget := 8, clearanceValidity := 10,
          releaseWindow := 120 } ∧
      t.line = none ∧ (∀ b : Bay, (t.bay b).loop.poll = .sweep t.time ∧ (t.bay b).loop.failures = 0) ∧
      (t.port .schedule).mask = 0x301FB#18 ∧ (t.port .dispatch).mask = 0x1C00C#18 ∧
      (t.port .workshop).mask = 0x0BE30#18 ∧
      ∀ p : Port,
        (t.port p).state = .empty ∧ (t.port p).inWork = none ∧ (t.port p).response = none ∧
          (t.port p).quiet = false ∧ (t.port p).pendingSet = 0#18 ∧ attn t p = false

/-- The state right after reset meets the laws of the pool, the departure list, the supply books, the bay records, the
clearance records, the latch and the lamp queue, and RESET_END with nothing waiting and SHED deasserted reaches just
that state from a reset of 20 ms or less. That the state right after reset is the one at 20,000 microseconds with SHED
deasserted is the model's choice, log entry 1. (Rests on R2, R24, R52, R99, R114, R116, R152.) -/
def Obligations.ResetMeetsEveryLaw : Prop :=
  (Inv.pool State.reset ∧ Inv.departures State.reset ∧ Inv.supply State.reset ∧ Inv.occupancy State.reset ∧
      Inv.clearance State.reset ∧ Inv.latch State.reset ∧ Inv.lamps State.reset) ∧
    ∀ s : State, s.inReset = true → s.shedLine = false → s.pending = [] → s.time ≤ 20000 →
      exec .resetEnd s = .next State.reset

/-- Out of reset one second of the timebase passes. Below 59 the seconds count rises by 1 and nothing else changes. At 59
it returns to 0, the minute rises by 1 where the clock is SET and below 16,777,215, and the new minute is told; where
it does not advance nothing else changes. (Rests on R46, R48.) -/
def Obligations.SecondsTickCountsAndWraps : Prop :=
  ∀ (s : State), s.inReset = false → ∃ t, exec .secondsTick s = .next t ∧
    t.lastSecond = s.lastSecond + 1000000 ∧ t.time = max s.time (s.lastSecond + 1000000) ∧
      (s.clock.seconds < 59 →
        t = { s with
          time := max s.time (s.lastSecond + 1000000)
          lastSecond := s.lastSecond + 1000000
          clock := { s.clock with seconds := s.clock.seconds + 1 } }) ∧
      (59 ≤ s.clock.seconds → ¬(s.clock.isSet = true ∧ s.clock.minute < 16777215) →
        t = { s with
          time := max s.time (s.lastSecond + 1000000)
          lastSecond := s.lastSecond + 1000000
          clock := { s.clock with seconds := 0 } }) ∧
      (59 ≤ s.clock.seconds → s.clock.isSet = true → s.clock.minute < 16777215 →
        t.clock = { minute := s.clock.minute + 1, seconds := 0, isSet := true } ∧ minuteIsTold t)

/-- Out of reset, with the clock SET and below saturation, MINUTE_ADVANCE brings the timebase to the next wrap of the
seconds count (the model's choice, log entry 3), the minute rises by 1 and is told: every booking past its minute is
marked OVERDUE unless RELEASED, every planned start at or before now has fired, every deferral at or before now has
expired, and every stale mark is as the age says. Reader contexts, settings, profiles, plans and the order of
departures are left alone. (Rests on R25, R46, R48, R77, R95, R131.) -/
def Obligations.MinuteAdvanceIsToldToTheFourBlocks : Prop :=
  ∀ (s : State), s.inReset = false → s.clock.isSet = true → s.clock.minute < 16777215 →
    ∃ t, exec .minuteAdvance s = .next t ∧
      t.clock = { minute := s.clock.minute + 1, seconds := 0, isSet := true } ∧
        t.lastSecond = s.lastSecond + (60 - s.clock.seconds) * 1000000 ∧ minuteIsTold t ∧
        t.settings = s.settings ∧ t.profiles = s.profiles ∧ t.lampPlans = s.lampPlans ∧
        t.departures = s.departures ∧ ∀ b : Bay, (t.bay b).reader = (s.bay b).reader

/-- On a port that takes it. SET_CLOCK to at most 16,777,215 leaves the clock SET at it with seconds 0, answers DONE and
is told; no timer moves: a stuck watch ends only where a STAGE is asked now, a validity only with its CLEARED state,
and a poll follows its class; after the first one no bay in OFF is left that may be planned. A larger minute is
OUT_OF_RANGE. SET_OUTSIDE beyond -500 to 500 is OUT_OF_RANGE; within, every bay left PLANNED has the planned start and
UNREACHABLE of R75 on the new value. The heat-up time is 0 where nothing is to be gained, unreachable where the rate
of R74 is 0 or less, and else the least number of minutes that gains ten times the rise; the edge cases of 4.4 give a
loss of 6, no free heat, and unreachable. SET_DEPARTURE is WRONG_STATE in OUT_OF_SERVICE, RELEASING and RELEASED, and
else OUT_OF_RANGE above 16,777,215; CANCEL_DEPARTURE of a record is WRONG_STATE in RELEASING and RELEASED; PLACE_HOLD
is OUT_OF_RANGE for tag 0 or a reason above 15, and IN_USE for a tag that stands; CLEAR_FAULT is OUT_OF_RANGE for a
source above 15. What is refused changes nothing but its port. (Rests on R22, R23, R47, R48, R71, R74, R75, R76, R91,
R132, R154.) -/
def Obligations.ClockWeatherAndBadRequestsAreTaken : Prop :=
  ∀ (b : Bay) (minute expected tag reason source code stages gain loss : Nat) (target cabin o : Int) (s : State),
    (takes .schedule s → minute ≤ 16777215 → ∃ t, exec (.setClock .schedule minute) s = .next t ∧
      t.clock = { minute := minute, seconds := 0, isSet := true } ∧
        answered .schedule { echo := 1, result := .done, payload := [] } t ∧ minuteIsTold t ∧ timersKept s t ∧
        (s.clock.isSet = false → ∀ x : Bay, mayPlan t x = false)) ∧
      (takes .schedule s → 16777215 < minute →
        exec (.setClock .schedule minute) s =
          .next (answerPort .schedule { echo := 1, result := .outOfRange, payload := [] } s)) ∧
      (takes .schedule s → o < -500 ∨ 500 < o →
        exec (.setOutside .schedule o) s =
          .next (answerPort .schedule { echo := 2, result := .outOfRange, payload := [] } s)) ∧
      (takes .schedule s → -500 ≤ o → o ≤ 500 → ∃ t, exec (.setOutside .schedule o) s = .next t ∧
        ∀ x : Bay, (t.bay x).heat.state = .planned → ∀ pr ∈ (t.bay x).heat.profile, ∀ d ∈ departureOf t x,
          (t.bay x).heat.plannedStart =
              some (d.minute - plannedLead (plannedHeatUp t pr d (t.bay x).heat.cabin) pr.margin) ∧
            (t.bay x).heat.unreachable = (plannedHeatUp t pr d (t.bay x).heat.cabin).isNone) ∧
      (target ≤ cabin → heatUpTime stages gain loss cabin target o = some 0) ∧
      (cabin < target →
        (stages : Int) * gain ≤ max 0 ((cabin + target) / 2 - o) * loss / 1024 →
        heatUpTime stages gain loss cabin target o = none) ∧
      (cabin < target →
        max 0 ((cabin + target) / 2 - o) * loss / 1024 < (stages : Int) * gain →
        ((heatUpTime stages gain loss cabin target o).any fun m =>
          decide
            (10 * (target - cabin) ≤ m * ((stages : Int) * gain - max 0 ((cabin + target) / 2 - o) * loss / 1024) ∧
              m * ((stages : Int) * gain - max 0 ((cabin + target) / 2 - o) * loss / 1024) <
                10 * (target - cabin) +
                  ((stages : Int) * gain - max 0 ((cabin + target) / 2 - o) * loss / 1024))) = true) ∧
      (heatUpTime 1 7 36 (-181) 180 (-200) = some 3610 ∧ heatUpTime 1 1 255 50 120 100 = some 700 ∧
        heatUpTime 1 1 255 (-400) 280 (-500) = none) ∧
      (takes .schedule s → (s.bay b).table.occ = .outOfService ∨ inRelease s b = true →
        exec (.setDeparture .schedule b.val minute target expected) s =
          .next (answerPort .schedule { echo := 8, result := .wrongState, payload := [] } s)) ∧
      (takes .schedule s → (s.bay b).table.occ ≠ .outOfService → inRelease s b = false → 16777215 < minute →
        exec (.setDeparture .schedule b.val minute target expected) s =
          .next (answerPort .schedule { echo := 8, result := .outOfRange, payload := [] } s)) ∧
      (takes .schedule s → departureOf s b ≠ none → inRelease s b = true →
        exec (.cancelDeparture .schedule b.val) s =
          .next (answerPort .schedule { echo := 9, result := .wrongState, payload := [] } s)) ∧
      (takes .workshop s → tag = 0 ∨ 15 < reason →
        exec (.placeHold .workshop b.val tag reason) s =
          .next (answerPort .workshop { echo := 20, result := .outOfRange, payload := [] } s)) ∧
      (takes .workshop s → tag ≠ 0 → reason ≤ 15 → holdsCoach s b = true →
        (∃ h ∈ (s.bay b).clear.holds, h.tag = tag) →
        exec (.placeHold .workshop b.val tag reason) s =
          .next (answerPort .workshop { echo := 20, result := .inUse, payload := [] } s)) ∧
      (takes .workshop s → 15 < source →
        exec (.clearFault .workshop b.val source code) s =
          .next (answerPort .workshop { echo := 18, result := .outOfRange, payload := [] } s))

/-- Out of reset. SHED asserted in NORMAL gives SHED with SUPPLY posted on every port and the books in order; in RESTORING
it gives SHED and cancels the delay, moving nothing else; in SHED it changes nothing but the line. SHED deasserted in
SHED gives RESTORING with the delay started now, or NORMAL at once with SUPPLY posted where the delay is 0; in any
other state it changes nothing but the line. When the delay has run in RESTORING the state is NORMAL, with SUPPLY
posted and the books in order. (Rests on R50, R51, R52.) -/
def Obligations.ShedEdgesMoveTheSupplyState : Prop :=
  ∀ (t0 : Nat) (s : State), s.inReset = false →
    (∃ t, exec .shedAsserted s = .next t ∧
      t.shedLine = true ∧ t.supply.state = .shed ∧
        (s.supply.state = .normal → t.supply.restoreFrom = none ∧ supplyPosted s t ∧ booksInForce t) ∧
        (s.supply.state = .restoring →
          t = { s with shedLine := true, supply := { s.supply with state := .shed, restoreFrom := none } }) ∧
        (s.supply.state = .shed → t = { s with shedLine := true })) ∧
      (∃ t, exec .shedDeasserted s = .next t ∧
        t.shedLine = false ∧
          (s.supply.state = .shed → s.settings.restoreDelay ≠ 0 →
            t = { s with
              shedLine := false
              supply := { s.supply with state := .restoring, restoreFrom := some s.time } }) ∧
          (s.supply.state = .shed → s.settings.restoreDelay = 0 →
            t.supply.state = .normal ∧ supplyPosted s t ∧ booksInForce t) ∧
          (s.supply.state ≠ .shed → t = { s with shedLine := false })) ∧
      (s.supply.state = .restoring → s.supply.restoreFrom = some t0 →
        ∃ t, exec .restoreDelayEnd s = .next t ∧
          t.time = max s.time (t0 + s.settings.restoreDelay * 1000000) ∧ t.supply.state = .normal ∧
            t.supply.restoreFrom = none ∧ supplyPosted s t ∧ booksInForce t)

/-- On a Schedule port that takes it, SET_BUDGET writes each budget it carries, at most 16,000, and keeps the other. Where
the effective budget stays as it was nothing else changes; where it changes, SUPPLY is posted and the books are in
order. SET_RESERVE writes the reserve, at most 400, posts no SUPPLY and leaves the books in order. Both answer DONE.
(Rests on R49, R52, R53, R56, R58.) -/
def Obligations.BudgetAndReserveAreClampedAndTaken : Prop :=
  ∀ (normal shed : Option Nat) (units : Nat) (s : State), takes .schedule s →
    (∃ t, exec (.setBudget .schedule normal shed) s = .next t ∧
      answered .schedule { echo := 3, result := .done, payload := [] } t ∧
        t.supply.normal = (normal.map (min 16000)).getD s.supply.normal ∧
        t.supply.shed = (shed.map (min 16000)).getD s.supply.shed ∧ t.supply.state = s.supply.state ∧
        t.supply.reserve = s.supply.reserve ∧
        (effectiveBudget t = effectiveBudget s →
          t = answerPort .schedule { echo := 3, result := .done, payload := [] }
            { s with supply := { s.supply with
                normal := (normal.map (min 16000)).getD s.supply.normal
                shed := (shed.map (min 16000)).getD s.supply.shed } }) ∧
        (effectiveBudget t ≠ effectiveBudget s → supplyPosted s t ∧ booksInForce t)) ∧
      (∃ t, exec (.setReserve .schedule units) s = .next t ∧
        answered .schedule { echo := 4, result := .done, payload := [] } t ∧ t.supply.reserve = min 400 units ∧
          t.supply.normal = s.supply.normal ∧ t.supply.shed = s.supply.shed ∧ t.supply.state = s.supply.state ∧
          supplyNotPosted s t ∧ booksInForce t)

/-- For every state in which no bay stands twice in the departure list: after the recompute on the books, each bay of the
demand list has the lesser of its demand and the whole stages that fit in H less what the bays before it take, every
other bay has 0, and all grants together fit within H. (Rests on R57, R58, R59.) -/
def Obligations.RecomputeWalksTheDemandListWithinTheHeatBudget : Prop :=
  ∀ (starting : Option Bay) (s : State), (departureOrder s).Nodup →
    let t := recomputeBooks starting s
    (∀ b : Bay, b ∉ demandList s → (t.bay b).power.grant = 0) ∧
      (∀ i : Fin (demandList s).length,
        (t.bay (demandList s)[i]).power.grant =
          min (s.bay (demandList s)[i]).heat.demand
            ((heatBudget s -
                (((demandList s).take i).map fun x => (t.bay x).power.grant * stagePower s x).sum) /
              stagePower s (demandList s)[i])) ∧
      ((demandList s).map fun x => (t.bay x).power.grant * stagePower s x).sum ≤ heatBudget s

/-- Out of reset. In WORKING, a period shifts out NOT_READY with the kind echo of the request in work, and its frame is
discarded whole. In READY, a period that carries no request shifts out the response and makes the state READ if every
byte was clocked out, and leaves it READY otherwise. In READ the response is shifted out again. Nothing else changes.
(Rests on R171, R172.) -/
def Obligations.ChipSelectPeriodShowsTheImageAndReadsTheResponse : Prop :=
  ∀ (p : Port) (bytes : List Byte) (q : Request) (r : Response) (s : State), s.inReset = false →
    ((s.port p).state = .working → (s.port p).inWork = some q →
      exec (.chipSelectPeriod p false bytes) s =
        .next (updPort p
          (fun x => { x with
            shiftedOut := ([0x00#8, 0x02#8, BitVec.ofNat 8 (bodyKind q.body), 0x01#8]).take bytes.length })
          s)) ∧
      ((s.port p).state = .ready → (s.port p).response = some r →
        exec (.chipSelectPeriod p false (0x00#8 :: bytes)) s =
          .next (updPort p
            (fun x => { x with
              shiftedOut := (responseFrame r).take (bytes.length + 1)
              state := if (responseFrame r).length ≤ bytes.length + 1 then .read else .ready })
            s)) ∧
      ((s.port p).state = .read → (s.port p).response = some r →
        exec (.chipSelectPeriod p false (0x00#8 :: bytes)) s =
          .next (updPort p (fun x => { x with shiftedOut := (responseFrame r).take (bytes.length + 1) }) s))

/-- Out of reset, on a port not WORKING (in READY its response goes with the first byte of a new request): a period that
clocks in a length, a kind 1 to 27 of the port, a bay field that suits it and a payload its kind carries leaves the
port WORKING with that request and no response, whatever follows the frame; fewer bytes than the length says, or a
length above 116, is BAD_FRAME with echo none; a kind of none of the 27 is UNKNOWN_REQUEST with its echo; a payload of
a wrong length is BAD_FRAME with the kind's echo, and so is a frame of length 1 (the model's choice, log entry 39).
Beside that the period shifts out the image of the state it began in, and nothing else changes, the other ports among
it. In reset a period changes nothing. With no command waiting and out of reset, the step is the model's choice of log
entry 2: the owner of the first WORKING port takes its request just as the request's row does; with none in work a
second of the timebase that is over is counted as SECONDS_TICK; with nothing due a millisecond passes. In reset it
changes nothing. (Rests on R46, R171, R172, R173, R182, 00_scope.md, Time and order.) -/
def Obligations.RequestFramesAreCheckedAndWorkIsDoneOnAnEmptyQueue : Prop :=
  ∀ (p : Port) (a : Bool) (length kind bay : Byte) (payload rest short : List Byte) (body : Body) (c : Instr)
    (n : Nat) (s : State),
    (s.inReset = false → (s.port p).state ≠ .working →
      (length.toNat = payload.length + 2 → length.toNat ≤ 116 → 1 ≤ kind.toNat → kind.toNat ≤ 27 →
        parseBody kind.toNat payload = some body → permitted p kind.toNat = true →
        bayFieldGood kind.toNat bay.toNat = true →
        exec (.chipSelectPeriod p a (length :: kind :: bay :: (payload ++ rest))) s =
          .next (updPort p
            (fun x => { x with
              state := .working
              inWork := some { bay := bay.toNat, body := body }
              response := none
              shiftedOut := x.image.take (payload.length + rest.length + 3) })
            s)) ∧
        (length.toNat ≠ 0 → 116 < length.toNat ∨ short.length < length.toNat →
          exec (.chipSelectPeriod p a (length :: short)) s =
            .next (answerPort p { echo := 0, result := .badFrame, payload := [] }
              (updPort p (fun x => { x with shiftedOut := x.image.take (short.length + 1) }) s))) ∧
        (length.toNat = payload.length + 2 → length.toNat ≤ 116 → kind.toNat = 0 ∨ 27 < kind.toNat →
          exec (.chipSelectPeriod p a (length :: kind :: bay :: (payload ++ rest))) s =
            .next (answerPort p { echo := kind.toNat, result := .unknownRequest, payload := [] }
              (updPort p
                (fun x => { x with shiftedOut := x.image.take (payload.length + rest.length + 3) }) s))) ∧
        (length.toNat = payload.length + 2 → length.toNat ≤ 116 → 1 ≤ kind.toNat → kind.toNat ≤ 27 →
          parseBody kind.toNat payload = none →
          exec (.chipSelectPeriod p a (length :: kind :: bay :: (payload ++ rest))) s =
            .next (answerPort p { echo := kind.toNat, result := .badFrame, payload := [] }
              (updPort p
                (fun x => { x with shiftedOut := x.image.take (payload.length + rest.length + 3) }) s))) ∧
        (1 ≤ kind.toNat → kind.toNat ≤ 27 →
          exec (.chipSelectPeriod p a (0x01#8 :: kind :: rest)) s =
            .next (answerPort p { echo := kind.toNat, result := .badFrame, payload := [] }
              (updPort p (fun x => { x with shiftedOut := x.image.take (rest.length + 2) }) s)))) ∧
      (s.inReset = true → exec (.chipSelectPeriod p a short) s = .next s) ∧
      (s.pending = [] → s.inReset = false →
        (requestOf c = some (p, n, body) → (s.port p).state = .working →
          (s.port p).inWork = some { bay := n, body := body } →
          (p ≠ .schedule → (s.port .schedule).state ≠ .working) →
          (p = .workshop → (s.port .dispatch).state ≠ .working) → step s = exec c s) ∧
          ((∀ q : Port, (s.port q).state ≠ .working) → s.lastSecond + 1000000 ≤ s.time →
            step s = exec .secondsTick s) ∧
          ((∀ e ∈ ownEvents, e s = none) → step s = .next { s with time := s.time + 1000 })) ∧
      (s.pending = [] → s.inReset = true → step s = .next s)

/-- For every request row on a port that takes it: the port is READY with a response that echoes the kind, and if its
result is not DONE it carries no payload and the state is the one before with that response in the port's buffer,
nothing else changed. (Rests on R172, R173, R175.) -/
def Obligations.RefusedRequestChangesNothing : Prop :=
  ∀ (c : Instr) (p : Port) (bay : Nat) (body : Body) (s : State), requestOf c = some (p, bay, body) → takes p s →
    ∃ t, exec c s = .next t ∧
      (t.port p).state = .ready ∧ (t.port p).inWork = none ∧
        (t.port p).response.any (fun r => r.echo == bodyKind body) = true ∧
        ∀ r ∈ (t.port p).response, r.result ≠ .done → r.payload = [] ∧ t = answerPort p r s

/-- For every request row on a port that takes it: a kind that belongs to another port's role is answered NOT_PERMITTED; a
permitted kind that names a bay, with a bay field above 31, is answered BAD_BAY; CONFIGURE_BAY with a bay field above
31 that is not none likewise. Nothing but the port changes. (Rests on R173, 09_station_ports_and_requests.md, 9.3.) -/
def Obligations.PortRoleAndBayFieldAreChecked : Prop :=
  ∀ (c : Instr) (p q : Port) (bay : Nat) (body : Body) (s : State),
    requestOf c = some (p, bay, body) → takes p s →
    (kindPort (bodyKind body) = some q → p ≠ q →
      exec c s = .next (answerPort p { echo := bodyKind body, result := .notPermitted, payload := [] } s)) ∧
      (permitted p (bodyKind body) = true → kindNamesBay (bodyKind body) = true → 31 < bay →
        exec c s = .next (answerPort p { echo := bodyKind body, result := .badBay, payload := [] } s)) ∧
      (permitted p (bodyKind body) = true → bodyKind body = 5 → 31 < bay → bay ≠ 255 →
        exec c s = .next (answerPort p { echo := bodyKind body, result := .badBay, payload := [] } s))

/-- On a Schedule port that takes it, with a temperature from -500 to 500: the outside temperature is that, the answer is
DONE, every bay left PLANNED has the planned lead R74 and R75 give on the new value (its planned start and UNREACHABLE
are stated beside SET_CLOCK), every bay left HEATING has its projection and LATE as R79 and R80 give them, and no
bay's occupancy record, fault list, reader context or clearance changes. (Rests on R71, R74, R75, R79, R80, R83.) -/
def Obligations.SetOutsideReplansAndReprojects : Prop :=
  ∀ (o : Int) (s : State), takes .schedule s → -500 ≤ o → o ≤ 500 →
    ∃ t, exec (.setOutside .schedule o) s = .next t ∧
      t.outside = o ∧ answered .schedule { echo := 2, result := .done, payload := [] } t ∧ t.clock = s.clock ∧
        t.departures = s.departures ∧
        ∀ b : Bay,
          (t.bay b).table = (s.bay b).table ∧ (t.bay b).faults = (s.bay b).faults ∧
            (t.bay b).reader = (s.bay b).reader ∧ (t.bay b).clear = (s.bay b).clear ∧
            ((t.bay b).heat.state = .planned →
              ∀ pr ∈ (t.bay b).heat.profile, ∀ d ∈ departureOf t b,
                (t.bay b).heat.plannedLead =
                  some (plannedLead (plannedHeatUp t pr d (t.bay b).heat.cabin) pr.margin)) ∧
            ((t.bay b).heat.state = .heating →
              (t.bay b).heat.projection = projectionOf t b ∧
                (t.bay b).heat.late = isLate (projectionOf t b) (departureOf t b))

/-- On a Schedule port that takes it: a type above 7 or any field outside its range is answered OUT_OF_RANGE and nothing
but the port changes; otherwise the one profile is replaced whole by the six values, the answer is DONE, and nothing
else changes: no event is posted, no copied profile moves, whatever the clock and the bays do. (Stated by R69.) -/
def Obligations.LoadProfileReplacesOneProfileWhole : Prop :=
  ∀ (coachType : Nat) (f : HeatProfile) (s : State), takes .schedule s →
    (7 < coachType ∨
        ¬(1 ≤ f.stages ∧ f.stages ≤ 4 ∧ 4 ≤ f.power ∧ f.power ≤ 80 ∧ 1 ≤ f.gain ∧ f.gain ≤ 100 ∧ f.loss ≤ 255 ∧
          f.margin ≤ 60 ∧ 5 ≤ f.hysteresis ∧ f.hysteresis ≤ 30) →
      exec (.loadProfile .schedule coachType f) s =
        .next (answerPort .schedule { echo := 6, result := .outOfRange, payload := [] } s)) ∧
      (coachType ≤ 7 → 1 ≤ f.stages → f.stages ≤ 4 → 4 ≤ f.power → f.power ≤ 80 → 1 ≤ f.gain → f.gain ≤ 100 →
        f.loss ≤ 255 → f.margin ≤ 60 → 5 ≤ f.hysteresis → f.hysteresis ≤ 30 →
        ∃ t, exec (.loadProfile .schedule coachType f) s = .next t ∧
          answered .schedule { echo := 6, result := .done, payload := [] } t ∧
            (∀ i : Fin 8, t.profiles[i] = if i.val = coachType then f else s.profiles[i]) ∧
            t = answerPort .schedule { echo := 6, result := .done, payload := [] }
              { s with profiles := t.profiles })

/-- On a Schedule port that takes it: a plan above 7 or a bad step is OUT_OF_RANGE, and IN_USE answers while a RUNNING
check uses the plan; else the one plan is replaced whole, the answer DONE, and every check of it that waits for power
stands at step 0 with no results; with 0 steps, in a state that meets the lamp law and holds no reservation for a slot
of the plan, it is PASSED with LAMP_DONE and no slot. Of a check RUNNING in a step, a good LAMP_SAMPLE that a STAGE
blanks is not counted; a valid one of a band neither repeated nor the fourth is counted, and both change nothing but
the slot, whose next sample is 200 ms later, as it is after a FAILED one. A repeated band, or else UNSTABLE at the
fourth, is decided: it joins the results, a failure of the step's class is counted unless it is IN, and the lamp-step
hold ends. With steps left LAMP_OFF is pending; at the last the check is FAILED where a blocking step failed and else
PASSED, with LAMP_DONE, and a plan of one step leaves no LAMPS entry of its circuit but the kind found, that one
standing or INCOMPLETE set. LAMP_OFF ended between two steps begins the next; ended good with no slot it clears the
lit mark alone; ended FAILED it is due again 10 s later. A turnaround of 0 is log entry 8's, the clearing of samples
and last band at the decision log entry 37's. (Rests on R92, R93, R103, R104, R105, R106, R107, R108, R109, R113.) -/
def Obligations.LampPlansAndLampOutcomesMoveTheChecks : Prop :=
  ∀ (n : Nat) (steps : List LampStep) (i : Fin 4) (c : Slot) (st : LampStep) (l : OnLine) (bytes : List Byte)
    (good : Good) (r : Option Nat) (band : Band) (s : State),
    (takes .schedule s →
      7 < n ∨ 16 < steps.length ∨ ¬(steps.map LampStep.circuit).Nodup ∨
        (∃ x ∈ steps, 31 < x.circuit ∨ x.high < x.low ∨ 2500 < x.high ∨ x.settle = 0 ∨ 50 < x.settle) →
      exec (.loadLampPlan .schedule n steps) s =
        .next (answerPort .schedule { echo := 7, result := .outOfRange, payload := [] } s)) ∧
      (takes .schedule s → n ≤ 7 → stepsInRange steps = true → planInUse s n = true →
        exec (.loadLampPlan .schedule n steps) s =
          .next (answerPort .schedule { echo := 7, result := .inUse, payload := [] } s)) ∧
      (takes .schedule s → n ≤ 7 → stepsInRange steps = true → planInUse s n = false →
        ∃ t, exec (.loadLampPlan .schedule n steps) s = .next t ∧
          answered .schedule { echo := 7, result := .done, payload := [] } t ∧
            (∀ k : Fin 8, t.lampPlans[k] = if k.val = n then steps else s.lampPlans[k]) ∧
            (∀ b : Bay, (t.bay b).table = (s.bay b).table) ∧
            (steps ≠ [] → ∀ k : Fin 4, ∀ x ∈ s.slots[k], x.plan = n →
              (s.bay x.bay).lamp.check = .waitingPower →
              (t.slots[k].any fun y =>
                y.bay == x.bay && y.plan == n && y.stepIndex == 0 && y.results == [] && y.blocking == 0 &&
                  y.advisory == 0) = true) ∧
            (steps = [] → Inv.lamps s →
              (∀ k : Fin 4, ∀ x ∈ s.slots[k], x.plan = n → holdsReservation s (.slot k) = false) →
              ∀ k : Fin 4, ∀ x ∈ s.slots[k], x.plan = n → (s.bay x.bay).lamp.check = .waitingPower →
              (t.bay x.bay).lamp.check = .passed ∧ (t.bay x.bay).lamp.result = .passed ∧
                (t.bay x.bay).lamp.slot = none ∧ (t.bay x.bay).lamp.completion = minuteIfSet s ∧
                (t.bay x.bay).lamp.advisory = 0 ∧ (∀ j : Fin 4, t.slots[j].map Slot.bay ≠ some x.bay) ∧
                announced .lampDone x.bay t)) ∧
      (replies l bytes good s → l.entry.req = .lampSample st.circuit st.settle → l.entry.wanted = true →
        good = .ok (.current r) ∨ (good = .refused ∧ r = none) → (s.bay l.bay).lamp.slot = some i →
        s.slots[i] = some c → c.bay = l.bay → c.phase = .sampling → c.step = some st →
        band =
          (match r with
            | none => Band.none
            | some x => if x < st.low then .low else if st.high < x then .high else .in_) →
        (blanked { s with time := heardAt l bytes s } c = true →
          exec (.replyTaken bytes) s =
            .next { replyEnded l bytes s with
              slots := s.slots.set i (some { c with nextAt := some (heardAt l bytes s + 200000) }) }) ∧
          (blanked { s with time := heardAt l bytes s } c = false →
            (c.lastBand ≠ some band → c.validSamples < 3 →
              exec (.replyTaken bytes) s =
                .next { replyEnded l bytes s with
                  slots := s.slots.set i
                    (some { c with
                      validSamples := c.validSamples + 1
                      lastBand := some band
                      nextAt := some (heardAt l bytes s + 200000) }) }) ∧
              (c.lastBand = some band ∨ 3 ≤ c.validSamples →
                c.stepIndex + 1 < (planOf s c.plan).length → reachable s l.bay = true →
                ∃ t, exec (.replyTaken bytes) s = .next t ∧
                  t.slots =
                      s.slots.set i
                        (some { c with
                          blocking :=
                            if st.cls = .blocking ∧ ¬(c.lastBand = some band ∧ band = .in_) then c.blocking + 1
                            else c.blocking
                          advisory :=
                            if st.cls = .advisory ∧ ¬(c.lastBand = some band ∧ band = .in_) then c.advisory + 1
                            else c.advisory
                          results := c.results ++ [if c.lastBand = some band then band else .unstable]
                          stepIndex := c.stepIndex + 1
                          phase := .betweenSteps
                          validSamples := 0
                          lastBand := none
                          step := none
                          nextAt := none }) ∧
                    (t.bay l.bay).power = { (s.bay l.bay).power with stepHold := false } ∧
                    (laneOf t l.bay .lamp).queued = some (newEntry .lampOff t.time) ∧ t.ports = s.ports ∧
                    (t.bay l.bay).table = (s.bay l.bay).table ∧ (t.bay l.bay).faults = (s.bay l.bay).faults ∧
                    ∀ x : Bay, x ≠ l.bay → t.bay x = s.bay x) ∧
              (c.lastBand = some band ∨ 3 ≤ c.validSamples →
                (planOf s c.plan).length = c.stepIndex + 1 → Inv.lamps s →
                ∃ t, exec (.replyTaken bytes) s = .next t ∧
                  (t.bay l.bay).lamp.check =
                      (if 0 < c.blocking ∨ (st.cls = .blocking ∧ ¬(c.lastBand = some band ∧ band = .in_)) then
                        .failed
                      else .passed) ∧
                    (t.bay l.bay).lamp.result =
                      (if 0 < c.blocking ∨ (st.cls = .blocking ∧ ¬(c.lastBand = some band ∧ band = .in_)) then
                        .failed
                      else .passed) ∧
                    (t.bay l.bay).lamp.advisory =
                      (if st.cls = .advisory ∧ ¬(c.lastBand = some band ∧ band = .in_) then c.advisory + 1
                      else c.advisory) ∧
                    (t.bay l.bay).lamp.completion = minuteIfSet s ∧ (t.bay l.bay).lamp.slot = none ∧
                    (t.bay l.bay).power.stepHold = false ∧ announced .lampDone l.bay t ∧
                    (planOf s c.plan = [st] → c.results = [] →
                      (c.lastBand = some band → band = .in_ →
                        ∀ e ∈ (t.bay l.bay).faults.list, e.source = 14 →
                          e.code < st.circuit * 4 + 1 ∨ st.circuit * 4 + 3 < e.code) ∧
                        (c.lastBand = some band → band = .low →
                          ((findEntry t l.bay 14 (st.circuit * 4 + 1)).isSome = true ∨
                              (t.bay l.bay).faults.incomplete = true) ∧
                            findEntry t l.bay 14 (st.circuit * 4 + 2) = none ∧
                            findEntry t l.bay 14 (st.circuit * 4 + 3) = none) ∧
                        (c.lastBand = some band → band = .high →
                          ((findEntry t l.bay 14 (st.circuit * 4 + 2)).isSome = true ∨
                              (t.bay l.bay).faults.incomplete = true) ∧
                            findEntry t l.bay 14 (st.circuit * 4 + 1) = none ∧
                            findEntry t l.bay 14 (st.circuit * 4 + 3) = none) ∧
                        (c.lastBand ≠ some band ∨ band = .none →
                          ((findEntry t l.bay 14 (st.circuit * 4 + 3)).isSome = true ∨
                              (t.bay l.bay).faults.incomplete = true) ∧
                            findEntry t l.bay 14 (st.circuit * 4 + 1) = none ∧
                            findEntry t l.bay 14 (st.circuit * 4 + 2) = none))))) ∧
      (lastAttempt l s → l.entry.req = .lampSample st.circuit st.settle → l.entry.wanted = true →
        (s.bay l.bay).lamp.slot = some i → s.slots[i] = some c → c.phase = .sampling → c.step = some st →
        ∃ t, exec .replyTimeout s = .next t ∧
          t.slots = s.slots.set i (some { c with nextAt := some (t.time + 200000) })) ∧
      (replies l bytes good s → l.entry.req = .lampOff → good = .ok .nothing ∨ good = .refused →
        ((s.bay l.bay).lamp.slot = none →
          exec (.replyTaken bytes) s =
            .next (updLamp l.bay (fun x => { x with lit := false, offRetryAt := none }) (replyEnded l bytes s))) ∧
          (l.entry.wanted = true → (s.bay l.bay).lamp.slot = some i → s.slots[i] = some c → c.bay = l.bay →
            c.phase = .betweenSteps → (planOf s c.plan)[c.stepIndex]? = some st → reachable s l.bay = true →
            ∃ t, exec (.replyTaken bytes) s = .next t ∧
              t.slots =
                  s.slots.set i
                    (some { c with
                      phase := .sampling
                      step := some st
                      validSamples := 0
                      lastBand := none
                      askedAt := t.time
                      nextAt := none }) ∧
                (t.bay l.bay).power.stepHold = true ∧ (t.bay l.bay).lamp.lit = true ∧
                (laneOf t l.bay .lamp).queued = some (newEntry (.lampSample st.circuit st.settle) t.time) ∧
                (t.bay l.bay).table = (s.bay l.bay).table)) ∧
      (lastAttempt l s → l.entry.req = .lampOff → (s.bay l.bay).lamp.slot = none → (s.bay l.bay).lamp.lit = true →
        ∃ t, exec .replyTimeout s = .next t ∧
          (t.bay l.bay).lamp = { (s.bay l.bay).lamp with offRetryAt := some (t.time + 10000000) } ∧
            (t.bay l.bay).loop.failures = (s.bay l.bay).loop.failures + 1)

/-- On a Schedule port that takes it, with the bay field none: each setting carried is written, clamped to its range, the
others are kept, and the answer is DONE with the five settings. No restore delay, validity or release window whose
setting was written is left past its new end, and every stale mark is as the new validity says. Occupancy records and
fault lists do not change, and a request that carries no setting changes nothing but the port. The layout of the
answer is the model's choice, log entry 19, and the order in which several settings take effect log entry 38. (Rests
on R51, R95, R160, R176, R177, R178.) -/
def Obligations.DepotSettingsAreClampedAndTakenAtOnce : Prop :=
  ∀ (f : SettingsPart) (s : State), takes .schedule s →
    ∃ t, exec (.configureBayDepotSettings .schedule 255 f) s = .next t ∧
      answered .schedule { echo := 5, result := .done, payload := settingsBytes t } t ∧
        t.settings =
          { restoreDelay := (f.restoreDelay.map (min 600)).getD s.settings.restoreDelay
            lampValidity := (f.lampValidity.map fun n => max 60 (min 1440 n)).getD s.settings.lampValidity
            recordBudget := (f.recordBudget.map fun n => max 1 (min 32 n)).getD s.settings.recordBudget
            clearanceValidity :=
              (f.clearanceValidity.map fun n => max 1 (min 60 n)).getD s.settings.clearanceValidity
            releaseWindow := (f.releaseWindow.map fun n => max 30 (min 600 n)).getD s.settings.releaseWindow } ∧
        (f.restoreDelay.isSome = true → ∀ m ∈ restoreEnd t, t.time < m) ∧
        (∀ b : Bay,
          (t.bay b).table = (s.bay b).table ∧ (t.bay b).faults = (s.bay b).faults ∧
            (f.lampValidity.isSome = true → (t.bay b).lamp.stale = isStale t b) ∧
            (f.clearanceValidity.isSome = true → (t.bay b).clear.state = .cleared →
              ∀ m ∈ validityEnd t b, t.time < m) ∧
            (f.releaseWindow.isSome = true → (t.bay b).clear.state = .released →
              ∀ m ∈ windowEnd t b, t.time < m)) ∧
        (f = noSettings →
          t = answerPort .schedule { echo := 5, result := .done, payload := settingsBytes s } s)

/-- On a Schedule port that takes it. A quota of 4 to 64 not below the list length replaces the bay's quota and changes
nothing else but the port; below the list length it is refused IN_USE, outside 4 to 64 OUT_OF_RANGE. An override of 0
to 7 or none is stored; the lamp plan number of a bay that holds a coach becomes the override, else the coach type of
its identity; every other field of the occupancy record stays, and a PRESENT bay that thereby gains a plan number,
with result NONE and no check active, has its automatic check started. An override above 7 is refused OUT_OF_RANGE.
(Rests on R20, R96, R117, R177, R178.) -/
def Obligations.QuotaAndPlanOverrideAreConfigured : Prop :=
  ∀ (b : Bay) (n : Nat) (o : Option Nat) (s : State), takes .schedule s →
    (4 ≤ n → n ≤ 64 → (s.bay b).faults.list.length ≤ n →
      ∃ t, exec (.configureBayQuota .schedule b.val n) s = .next t ∧
        t = answerPort .schedule
          { echo := 5, result := .done, payload := serviceBytes t b ++ settingsBytes t }
          (updFaults b (fun f => { f with quota := n }) s)) ∧
      (4 ≤ n → n ≤ 64 → n < (s.bay b).faults.list.length →
        exec (.configureBayQuota .schedule b.val n) s =
          .next (answerPort .schedule { echo := 5, result := .inUse, payload := [] } s)) ∧
      (n < 4 ∨ 64 < n →
        exec (.configureBayQuota .schedule b.val n) s =
          .next (answerPort .schedule { echo := 5, result := .outOfRange, payload := [] } s)) ∧
      ((∀ k ∈ o, k ≤ 7) →
        ∃ t, exec (.configureBayLampPlanOverride .schedule b.val o) s = .next t ∧
          answered .schedule
              { echo := 5, result := .done, payload := serviceBytes t b ++ settingsBytes t } t ∧
            (t.bay b).table =
              { (s.bay b).table with
                planOverride := o
                lampPlan :=
                  if holdsCoach s b then o.orElse (fun _ => (s.bay b).table.identity.map Identity.coachType)
                  else (s.bay b).table.lampPlan } ∧
            (∀ x : Bay, x ≠ b → (t.bay x).table = (s.bay x).table) ∧
            ((s.bay b).table.occ = .present → (s.bay b).table.lampPlan = none → (t.bay b).table.lampPlan ≠ none →
              (s.bay b).lamp.result = .none → checkActive s b = false → (t.bay b).lamp.result ≠ .none)) ∧
      ((∃ k ∈ o, 7 < k) →
        exec (.configureBayLampPlanOverride .schedule b.val o) s =
          .next (answerPort .schedule { echo := 5, result := .outOfRange, payload := [] } s))

/-- On a Schedule port that takes it. Out of service on: refused WRONG_STATE in ARRIVING and PRESENT; for a bay already
OUT_OF_SERVICE nothing but the port changes; otherwise the bay is OUT_OF_SERVICE with no occupancy before loss, plug
count 0 and the request on, its departure record and its poll gone, no transaction pending, failure count 0, heat OFF
with demand 0, its discovered mark, last-polled fields, override and quota kept, no NODE_LOST posted; a LOST bay that
held a coach has an UNOBSERVED departure with DEPARTED posted, an empty fault list whose entries are free again, and
its clearance record at reset. Out of service off: an OUT_OF_SERVICE bay is LOST with VACANT before loss, discovered,
its probe due now, and nothing is posted; for any other bay nothing but the port changes. The commanded target of 0 on
coming into service is DEDUCED from R67 (log entry 24), the answer's layout the model's choice (log entry 19). (Rests
on R12, R18, R19, R36, R37, R90, R170, R178.) -/
def Obligations.BayIsTakenOutOfServiceAndBroughtBack : Prop :=
  ∀ (b : Bay) (s : State), takes .schedule s →
    (occupied s b = true →
      exec (.configureBayOutOfService .schedule b.val) s =
        .next (answerPort .schedule { echo := 5, result := .wrongState, payload := [] } s)) ∧
      (occupied s b = false → ∃ t, exec (.configureBayOutOfService .schedule b.val) s = .next t ∧
        answered .schedule { echo := 5, result := .done, payload := serviceBytes t b ++ settingsBytes t } t ∧
          ((s.bay b).table.occ = .outOfService →
            t = answerPort .schedule
              { echo := 5, result := .done, payload := serviceBytes s b ++ settingsBytes s } s) ∧
          ((s.bay b).table.occ ≠ .outOfService →
            (t.bay b).table.occ = .outOfService ∧ (t.bay b).table.beforeLoss = none ∧
              (t.bay b).table.plugCount = 0 ∧ (t.bay b).table.oosRequest = true ∧ departureOf t b = none ∧
              ((departureOf s b).isSome = true → ∀ e ∈ t.departures, e.bay ≠ b) ∧
              (t.bay b).loop.poll = .idle ∧ (t.bay b).loop.entries = [] ∧ (t.bay b).loop.failures = 0 ∧
              (t.bay b).heat.state = .off ∧ (t.bay b).heat.demand = 0 ∧
              (t.bay b).table.discovered = (s.bay b).table.discovered ∧
              (t.bay b).table.plug = (s.bay b).table.plug ∧ (t.bay b).table.latch = (s.bay b).table.latch ∧
              (t.bay b).table.planOverride = (s.bay b).table.planOverride ∧
              (t.bay b).faults.quota = (s.bay b).faults.quota ∧
              (∀ p : Port, (t.port p).baySets[bayEventKind .nodeLost] = (s.port p).baySets[bayEventKind .nodeLost]) ∧
              (holdsCoach s b = true →
                (t.bay b).table.lastDeparture = some .unobserved ∧ announced .departed b t ∧
                  (t.bay b).faults.list = [] ∧ t.freeCount = s.freeCount + (s.bay b).faults.list.length ∧
                  (t.bay b).clear = .reset) ∧
              (holdsCoach s b = false →
                (t.bay b).table.lastDeparture = (s.bay b).table.lastDeparture ∧
                  (t.bay b).faults = (s.bay b).faults ∧ t.freeCount = s.freeCount))) ∧
      (∃ t, exec (.configureBayInService .schedule b.val) s = .next t ∧
        answered .schedule { echo := 5, result := .done, payload := serviceBytes t b ++ settingsBytes t } t ∧
          sameEvents s t ∧
          ((s.bay b).table.occ = .outOfService →
            (t.bay b).table =
                { (s.bay b).table with
                  occ := .lost, beforeLoss := some .vacant, discovered := true, plugCount := 0,
                  oosRequest := false } ∧
              (t.bay b).loop.poll = .probe s.time ∧ (t.bay b).power.commanded = 0 ∧
              ∀ x : Bay, x ≠ b → t.bay x = s.bay x) ∧
          ((s.bay b).table.occ ≠ .outOfService →
            t = answerPort .schedule
              { echo := 5, result := .done, payload := serviceBytes s b ++ settingsBytes s } s))

/-- On a Schedule port that takes it, for a bay not OUT_OF_SERVICE whose clearance is neither RELEASING nor RELEASED and a
minute up to 16,777,215: values equal to those held are answered DONE with nothing changed; otherwise the record is
replaced whole, the target clamped to 50 to 280, an expected fleet of 0 absent, OVERDUE set just where the clock is
SET and past the minute and then posted; the bay stands in the list at that minute and every other entry stays; a
mismatch of a PRESENT bay posts COACH_MISMATCH; a CLEARED clearance is REVOKED with WRONG_COACH or NO_DEPARTURE; no
other bay's occupancy record changes. (Rests on R9, R21, R22, R24, R25, R161.) -/
def Obligations.SetDepartureReplacesTheRecordWhole : Prop :=
  ∀ (b : Bay) (minute : Nat) (target : Int) (expected : Nat) (s : State), takes .schedule s →
    (s.bay b).table.occ ≠ .outOfService → inRelease s b = false → minute ≤ 16777215 →
    ∃ t, exec (.setDeparture .schedule b.val minute target expected) s = .next t ∧
      answered .schedule { echo := 8, result := .done, payload := [] } t ∧
        (sameDeparture (askedDeparture minute target expected) (departureOf s b) = true →
          t = answerPort .schedule { echo := 8, result := .done, payload := [] } s) ∧
        (sameDeparture (askedDeparture minute target expected) (departureOf s b) = false →
          (t.bay b).table =
              { (s.bay b).table with
                departure := some
                  { minute := minute
                    target := max 50 (min 280 target)
                    expected := if expected = 0 then none else some expected
                    overdue := s.clock.isSet && decide (minute < s.clock.minute) } } ∧
            (∀ x : Bay, x ≠ b → (t.bay x).table = (s.bay x).table) ∧
            { bay := b, minute := minute } ∈ t.departures ∧
            (∀ e ∈ t.departures, e.bay = b → e.minute = minute) ∧
            (∀ e ∈ t.departures, e.bay ≠ b → e ∈ s.departures) ∧
            (∀ e ∈ s.departures, e.bay ≠ b → e ∈ t.departures) ∧
            (s.clock.isSet = true → minute < s.clock.minute → announced .overdue b t) ∧
            (mismatch t b = true → announced .coachMismatch b t) ∧
            ((s.bay b).clear.state = .cleared →
              (t.bay b).clear.state = .revoked ∧
                (t.bay b).clear.reasons = only (if mismatch t b then .wrongCoach else .noDeparture) ∧
                announced .clearance b t))

/-- On a Schedule port that takes it. A bay with no record is answered NOT_FOUND. A bay with a record whose clearance is
neither RELEASING nor RELEASED loses it and its entry, every other entry and occupancy record stays, a PLANNED heat
record is OFF, a HEATING or HOLDING one is STOPPING or OFF with demand 0, a CLEARED clearance is REVOKED with
NO_DEPARTURE, and the answer is DONE. (Rests on R23, R24, R85, R161.) -/
def Obligations.CancelDepartureRemovesTheRecord : Prop :=
  ∀ (b : Bay) (s : State), takes .schedule s →
    (departureOf s b = none →
      exec (.cancelDeparture .schedule b.val) s =
        .next (answerPort .schedule { echo := 9, result := .notFound, payload := [] } s)) ∧
      (departureOf s b ≠ none → inRelease s b = false →
        ∃ t, exec (.cancelDeparture .schedule b.val) s = .next t ∧
          answered .schedule { echo := 9, result := .done, payload := [] } t ∧
            (t.bay b).table = { (s.bay b).table with departure := none } ∧
            (∀ x : Bay, x ≠ b → (t.bay x).table = (s.bay x).table) ∧ (∀ e ∈ t.departures, e.bay ≠ b) ∧
            (∀ e ∈ s.departures, e.bay ≠ b → e ∈ t.departures) ∧
            (∀ e ∈ t.departures, e ∈ s.departures) ∧
            ((s.bay b).heat.state = .planned → (t.bay b).heat.state = .off) ∧
            ((s.bay b).heat.state = .heating ∨ (s.bay b).heat.state = .holding →
              (t.bay b).heat.demand = 0 ∧
                ((t.bay b).heat.state = .stopping ∨ (t.bay b).heat.state = .off)) ∧
            ((s.bay b).clear.state = .cleared →
              (t.bay b).clear.state = .revoked ∧ (t.bay b).clear.reasons = only .noDeparture))

/-- On a Dispatch port that takes it, with the clock SET and the clearance neither RELEASING nor RELEASED: the answer is
DONE with the outcome and the reasons found. For a bay that holds a coach no reason gives CLEARED with empty reasons,
the waive mark as asked and a full validity from now, and any reason gives REFUSED with the reasons found, the waive
mark clear and no validity, CLEARANCE being posted; for any other bay nothing but the port changes. With the clock
UNSET the answer is CLOCK_UNSET, and in RELEASING and RELEASED WRONG_STATE. The answer's bytes, 1 CLEARED or 2 REFUSED
and three bytes of reasons, are the model's choice (log entry 19). (Rests on R157, R159.) -/
def Obligations.RequestClearanceStoresWhatItFinds : Prop :=
  ∀ (b : Bay) (waive : Bool) (s : State), takes .dispatch s →
    (s.clock.isSet = false →
      exec (.requestClearance .dispatch b.val waive) s =
        .next (answerPort .dispatch { echo := 10, result := .clockUnset, payload := [] } s)) ∧
      (s.clock.isSet = true → inRelease s b = true →
        exec (.requestClearance .dispatch b.val waive) s =
          .next (answerPort .dispatch { echo := 10, result := .wrongState, payload := [] } s)) ∧
      (s.clock.isSet = true → inRelease s b = false →
        ∃ t, exec (.requestClearance .dispatch b.val waive) s = .next t ∧
          t = answerPort .dispatch
            { echo := 10, result := .done,
              payload := byte (if evaluate s b waive = 0#18 then 1 else 2) ++ triple (evaluate s b waive).toNat }
            (if holdsCoach s b then
              post .clearance b
                (updClear b
                  (fun c =>
                    if evaluate s b waive = 0#18 then
                      { c with state := .cleared, reasons := 0#18, waive := waive, validityFrom := some s.time }
                    else
                      { c with
                        state := .refused, reasons := evaluate s b waive, waive := false, validityFrom := none })
                  s)
            else s))

/-- On a Dispatch port that takes it, with the clock SET and a bay that holds a coach, not in release: afterwards the bay
is CLEARED if and only if it is PRESENT with its identity, has a departure record whose expected fleet number, if any,
is the coach's, is warm unless heat was waived, has no check active, a lamp result that is neither NONE nor FAILED nor
stale, its reader COMPLETE and INCOMPLETE clear, no entry that blocks clearance, and no hold. (Rests on R128, R157,
R158, R159.) -/
def Obligations.CoachIsClearedJustWhenNothingStandsAgainstIt : Prop :=
  ∀ (b : Bay) (waive : Bool) (s : State), takes .dispatch s → s.clock.isSet = true → inRelease s b = false →
    holdsCoach s b = true →
    ∃ t, exec (.requestClearance .dispatch b.val waive) s = .next t ∧
      ((t.bay b).clear.state = .cleared ↔
        (s.bay b).table.occ = .present ∧ (s.bay b).table.identity.isSome = true ∧
          (departureOf s b).isSome = true ∧
          (∀ d ∈ departureOf s b, ∀ n ∈ d.expected, (s.bay b).table.identity.map Identity.fleet = some n) ∧
          (waive = true ∨
            ((s.bay b).heat.cabin.isSome = true ∧ (s.bay b).heat.profile.isSome = true ∧
              ∀ x ∈ (s.bay b).heat.cabin, ∀ d ∈ departureOf s b, ∀ f ∈ (s.bay b).heat.profile,
                d.target - (f.hysteresis : Int) ≤ x)) ∧
          (s.bay b).lamp.check ≠ .queued ∧ (s.bay b).lamp.check ≠ .waitingPower ∧
          (s.bay b).lamp.check ≠ .running ∧ (s.bay b).lamp.result ≠ .none ∧ (s.bay b).lamp.result ≠ .failed ∧
          (s.bay b).lamp.stale = false ∧ (s.bay b).reader.state = .complete ∧
          (s.bay b).faults.incomplete = false ∧
          (∀ e ∈ (s.bay b).faults.list,
            ¬(e.cls = .blocking ∧ (e.state = .active ∨ e.state = .clearPending))) ∧
          (s.bay b).clear.holds = [])

/-- On a Dispatch port that takes it: in CLEARED the clearance is RELEASING in STOPPING_HEAT with the stop limit running
from now and no validity, everything else of the clearance record kept, CLEARANCE posted and the answer DONE; a
PLANNED heat record is OFF, a HEATING or HOLDING one STOPPING or OFF with demand 0; the bay stands in neither reader
list; no occupancy record and no fault list changes, and no time passes. In every other state the answer is
WRONG_STATE. (Rests on R87, R150, R163.) -/
def Obligations.ReleaseBeginsByStoppingHeat : Prop :=
  ∀ (b : Bay) (s : State), takes .dispatch s →
    ((s.bay b).clear.state ≠ .cleared →
      exec (.release .dispatch b.val) s =
        .next (answerPort .dispatch { echo := 11, result := .wrongState, payload := [] } s)) ∧
      ((s.bay b).clear.state = .cleared → ∃ t, exec (.release .dispatch b.val) s = .next t ∧
        answered .dispatch { echo := 11, result := .done, payload := [] } t ∧
          (t.bay b).clear =
            { (s.bay b).clear with
              state := .releasing, substep := some .stoppingHeat, stopFrom := some s.time, latchFrom := none,
              validityFrom := none } ∧
          announced .clearance b t ∧ b ∉ t.readerQueue ∧ b ∉ t.suspended ∧ t.time = s.time ∧
          ((s.bay b).heat.state = .planned → (t.bay b).heat.state = .off) ∧
          ((s.bay b).heat.state = .heating ∨ (s.bay b).heat.state = .holding →
            (t.bay b).heat.demand = 0 ∧
              ((t.bay b).heat.state = .stopping ∨ (t.bay b).heat.state = .off)) ∧
          ∀ x : Bay, (t.bay x).table = (s.bay x).table ∧ (t.bay x).faults = (s.bay x).faults)

/-- On a Dispatch port that takes it, always answered DONE: in IDLE nothing but the port changes; in CLEARED, REFUSED,
REVOKED and LAPSED the state is IDLE with no reasons, no waive mark and no validity, CLEARANCE is posted and nothing
else changes; in RELEASING and RELEASED the release ends: IDLE, no reasons, no substep, no timer, waive and open asked
marks clear, CLEARANCE posted, the holds kept, and, where the latch may be open and the bay can be reached, the
relatch mark set; no occupancy record and no fault list changes. (Rests on R153, R164, R168.) -/
def Obligations.WithdrawClearanceReturnsToIdle : Prop :=
  ∀ (b : Bay) (s : State), takes .dispatch s →
    ∃ t, exec (.withdrawClearance .dispatch b.val) s = .next t ∧
      answered .dispatch { echo := 12, result := .done, payload := [] } t ∧ (t.bay b).clear.state = .idle ∧
        ((s.bay b).clear.state = .idle →
          t = answerPort .dispatch { echo := 12, result := .done, payload := [] } s) ∧
        ((s.bay b).clear.state ≠ .idle → inRelease s b = false →
          t = answerPort .dispatch { echo := 12, result := .done, payload := [] }
            (post .clearance b
              (updClear b
                (fun c => { c with state := .idle, reasons := 0#18, waive := false, validityFrom := none }) s))) ∧
        (inRelease s b = true →
          (t.bay b).clear.reasons = 0#18 ∧ (t.bay b).clear.substep = none ∧ (t.bay b).clear.stopFrom = none ∧
            (t.bay b).clear.latchFrom = none ∧ (t.bay b).clear.windowFrom = none ∧
            (t.bay b).clear.waive = false ∧ (t.bay b).clear.openAsked = false ∧
            (t.bay b).clear.holds = (s.bay b).clear.holds ∧ announced .clearance b t ∧
            ((s.bay b).clear.openAsked = true ∨ (s.bay b).clear.state = .released → reachable s b = true →
              (t.bay b).clear.relatch = true) ∧
            ∀ x : Bay, (t.bay x).table = (s.bay x).table ∧ (t.bay x).faults = (s.bay x).faults)

/-- On a Workshop port that takes it, for a bay that holds a coach, a tag that is not 0 and not standing, a reason up to
15 and fewer than 4 holds: the hold joins the tail, HOLD is posted and the answer is DONE. In IDLE, REFUSED, LAPSED
and RELEASED nothing else changes; in REVOKED HOLD joins the reasons and nothing else changes; in CLEARED the
clearance is REVOKED with HOLD alone, CLEARANCE is posted and nothing else changes; in RELEASING the release ends
REVOKED with HOLD. A bay that holds no coach is answered WRONG_STATE, and a full list FULL. (Rests on R154, R156,
R162, R164.) -/
def Obligations.PlaceHoldRecordsTheHoldAndStopsTheClearance : Prop :=
  ∀ (b : Bay) (tag reason : Nat) (s : State), takes .workshop s → tag ≠ 0 → reason ≤ 15 →
    (holdsCoach s b = false →
      exec (.placeHold .workshop b.val tag reason) s =
        .next (answerPort .workshop { echo := 20, result := .wrongState, payload := [] } s)) ∧
      (holdsCoach s b = true → (∀ h ∈ (s.bay b).clear.holds, h.tag ≠ tag) → 4 ≤ (s.bay b).clear.holds.length →
        exec (.placeHold .workshop b.val tag reason) s =
          .next (answerPort .workshop { echo := 20, result := .full, payload := [] } s)) ∧
      (holdsCoach s b = true → (∀ h ∈ (s.bay b).clear.holds, h.tag ≠ tag) → (s.bay b).clear.holds.length < 4 →
        ∃ t, exec (.placeHold .workshop b.val tag reason) s = .next t ∧
          answered .workshop { echo := 20, result := .done, payload := [] } t ∧ announced .hold b t ∧
            (t.bay b).clear.holds = (s.bay b).clear.holds ++ [{ tag := tag, reason := reason }] ∧
            ((s.bay b).clear.state = .idle ∨ (s.bay b).clear.state = .refused ∨
                (s.bay b).clear.state = .lapsed ∨ (s.bay b).clear.state = .released →
              t = answerPort .workshop { echo := 20, result := .done, payload := [] }
                (post .hold b
                  (updClear b
                    (fun c => { c with holds := c.holds ++ [{ tag := tag, reason := reason }] }) s))) ∧
            ((s.bay b).clear.state = .revoked →
              t = answerPort .workshop { echo := 20, result := .done, payload := [] }
                (post .hold b
                  (updClear b
                    (fun c => { c with
                      holds := c.holds ++ [{ tag := tag, reason := reason }]
                      reasons := c.reasons ||| only .hold }) s))) ∧
            ((s.bay b).clear.state = .cleared →
              t = answerPort .workshop { echo := 20, result := .done, payload := [] }
                (post .clearance b
                  (post .hold b
                    (updClear b
                      (fun c => { c with
                        holds := c.holds ++ [{ tag := tag, reason := reason }]
                        state := .revoked
                        reasons := only .hold
                        validityFrom := none }) s)))) ∧
            ((s.bay b).clear.state = .releasing →
              (t.bay b).clear.state = .revoked ∧ (t.bay b).clear.reasons = only .hold ∧
                (t.bay b).clear.substep = none ∧ announced .clearance b t))

/-- On a Workshop port that takes it: tag 0 is refused OUT_OF_RANGE; a tag that does not stand on the bay NOT_FOUND, in
every occupancy; otherwise the hold leaves the list and those after it close up, HOLD is posted, the answer is DONE
and nothing else changes, the clearance state among it, in every clearance state. (Stated by R155.) -/
def Obligations.LiftHoldRemovesTheHoldAlone : Prop :=
  ∀ (b : Bay) (tag : Nat) (s : State), takes .workshop s →
    (tag = 0 →
      exec (.liftHold .workshop b.val tag) s =
        .next (answerPort .workshop { echo := 21, result := .outOfRange, payload := [] } s)) ∧
      (tag ≠ 0 → (∀ h ∈ (s.bay b).clear.holds, h.tag ≠ tag) →
        exec (.liftHold .workshop b.val tag) s =
          .next (answerPort .workshop { echo := 21, result := .notFound, payload := [] } s)) ∧
      (tag ≠ 0 → (∃ h ∈ (s.bay b).clear.holds, h.tag = tag) →
        ∃ t, exec (.liftHold .workshop b.val tag) s = .next t ∧
          (t.bay b).clear.state = (s.bay b).clear.state ∧
            t = answerPort .workshop { echo := 21, result := .done, payload := [] }
              (post .hold b
                (updClear b (fun c => { c with holds := c.holds.filter fun h => h.tag != tag }) s)))

/-- On a Workshop port that takes it, for a PRESENT bay with a lamp plan number, not in release and with no check active:
the answer is DONE and a CLEARED clearance is REVOKED. Where the plan has steps, the check is QUEUED, WAITING_POWER or
RUNNING on that plan with result IN_PROGRESS, no completion minute, no advisory defects and the stale mark clear.
Where it has none, the check is PASSED at the present minute with no slot and LAMP_DONE is posted. A bay that is not
PRESENT, is in release or has no plan number is answered WRONG_STATE, and one with a check active IN_USE. (Rests on
R97, R98, R100, R108, R161.) -/
def Obligations.StartLampCheckStartsTheBaysPlan : Prop :=
  ∀ (b : Bay) (n : Nat) (s : State), takes .workshop s →
    ((s.bay b).table.occ ≠ .present ∨ inRelease s b = true ∨ (s.bay b).table.lampPlan = none →
      exec (.startLampCheck .workshop b.val) s =
        .next (answerPort .workshop { echo := 14, result := .wrongState, payload := [] } s)) ∧
      ((s.bay b).table.occ = .present → inRelease s b = false → (s.bay b).table.lampPlan = some n →
        checkActive s b = true →
        exec (.startLampCheck .workshop b.val) s =
          .next (answerPort .workshop { echo := 14, result := .inUse, payload := [] } s)) ∧
      ((s.bay b).table.occ = .present → inRelease s b = false → (s.bay b).table.lampPlan = some n →
        checkActive s b = false →
        ∃ t, exec (.startLampCheck .workshop b.val) s = .next t ∧
          answered .workshop { echo := 14, result := .done, payload := [] } t ∧
            ((s.bay b).clear.state = .cleared → (t.bay b).clear.state = .revoked) ∧
            (planOf s n ≠ [] →
              checkActive t b = true ∧ (t.bay b).lamp.plan = some n ∧ (t.bay b).lamp.result = .inProgress ∧
                (t.bay b).lamp.completion = none ∧ (t.bay b).lamp.advisory = 0 ∧ (t.bay b).lamp.stale = false) ∧
            (planOf s n = [] →
              (t.bay b).lamp.check = .passed ∧ (t.bay b).lamp.result = .passed ∧ (t.bay b).lamp.slot = none ∧
                (t.bay b).lamp.plan = none ∧ (t.bay b).lamp.completion = minuteIfSet s ∧
                announced .lampDone b t ∧ t.lampQueue = s.lampQueue ∧ t.slots = s.slots) ∧
            ∀ x : Bay, (t.bay x).table = (s.bay x).table ∧ (t.bay x).faults = (s.bay x).faults)

/-- On a Workshop port that takes it. With no check active the answer is WRONG_STATE. In a state that meets the lamp law,
an active check is ABORTED: result NONE, no plan, no slot, no completion minute, no advisory defects, stale clear; the
bay is in no queue and no slot; no LAMP_DONE is posted for it; its clearance and every occupancy record and fault list
stay; the answer is DONE. (Rests on R110, R111.) -/
def Obligations.AbortLampCheckLeavesNoResult : Prop :=
  ∀ (b : Bay) (s : State), takes .workshop s →
    (checkActive s b = false →
      exec (.abortLampCheck .workshop b.val) s =
        .next (answerPort .workshop { echo := 15, result := .wrongState, payload := [] } s)) ∧
      (checkActive s b = true → Inv.lamps s → ∃ t, exec (.abortLampCheck .workshop b.val) s = .next t ∧
        answered .workshop { echo := 15, result := .done, payload := [] } t ∧
          (t.bay b).lamp.check = .aborted ∧ (t.bay b).lamp.result = .none ∧ (t.bay b).lamp.plan = none ∧
          (t.bay b).lamp.slot = none ∧ (t.bay b).lamp.completion = none ∧ (t.bay b).lamp.advisory = 0 ∧
          (t.bay b).lamp.stale = false ∧ b ∉ t.lampQueue ∧ (∀ i : Fin 4, t.slots[i].map Slot.bay ≠ some b) ∧
          (∀ p : Port,
            (t.port p).baySets[bayEventKind .lampDone] &&& bayBit b =
              (s.port p).baySets[bayEventKind .lampDone] &&& bayBit b) ∧
          (t.bay b).clear = (s.bay b).clear ∧
          ∀ x : Bay, (t.bay x).table = (s.bay x).table ∧ (t.bay x).faults = (s.bay x).faults)

/-- On a port that takes it: SET_EVENT_MASK with a set of kinds 0 to 17 replaces the port's mask whole and answers DONE
with it, and with a kind above 17 is answered OUT_OF_RANGE; nothing else changes, the pending records among it. Each
read request is answered DONE with the layout of what it names as it stands, and changes nothing but the port:
READ_BAY and READ_EVENTS always, READ_FAULTS for an index up to the list length, READ_DEPARTURES on the Dispatch port
for an index up to the number of departures, READ_SUPPLY for the parts DEPOT 0, BAYS 1, PROFILES 2 and PLAN 3 to 10.
An index beyond, or another part, is answered OUT_OF_RANGE. The part numbers, the three bytes of a mask and the order
of fields within a layout are the model's choices where the spec leaves them open (log entries 19, 20 and 21). (Rests
on R129, R174, R179, R180, R181, R184, R186, R190.) -/
def Obligations.ReadsAndEventMaskChangeOnlyTheirPort : Prop :=
  ∀ (p : Port) (b : Bay) (index kinds : Nat) (s : State), takes p s →
    (kinds < 262144 → ∃ t, exec (.setEventMask p kinds) s = .next t ∧
      t = answerPort p { echo := 26, result := .done, payload := triple kinds }
        (updPort p (fun r => { r with mask := BitVec.ofNat 18 kinds }) s)) ∧
      (262144 ≤ kinds →
        exec (.setEventMask p kinds) s =
          .next (answerPort p { echo := 26, result := .outOfRange, payload := [] } s)) ∧
      exec (.readBay p b.val) s =
        .next (answerPort p { echo := 22, result := .done, payload := bayRecordBytes s b } s) ∧
      exec (.readEvents p) s =
        .next (answerPort p { echo := 24, result := .done, payload := eventsBytes (s.port p) } s) ∧
      exec (.readFaults p b.val index) s =
        .next (answerPort p
          (if index ≤ (s.bay b).faults.list.length then
            { echo := 16, result := .done, payload := faultsPage s b index }
          else { echo := 16, result := .outOfRange, payload := [] }) s) ∧
      (p = .dispatch →
        exec (.readDepartures p index) s =
          .next (answerPort p
            (if index ≤ s.departures.length then
              { echo := 13, result := .done, payload := departuresPage s index }
            else { echo := 13, result := .outOfRange, payload := [] }) s)) ∧
      exec (.readSupply p 0) s =
        .next (answerPort p { echo := 23, result := .done, payload := depotPart s } s) ∧
      exec (.readSupply p 1) s =
        .next (answerPort p { echo := 23, result := .done, payload := baysPart s } s) ∧
      exec (.readSupply p 2) s =
        .next (answerPort p { echo := 23, result := .done, payload := profilesPart s } s) ∧
      (3 ≤ index → index ≤ 10 →
        exec (.readSupply p index) s =
          .next (answerPort p { echo := 23, result := .done, payload := planPart s (index - 3) } s)) ∧
      (10 < index →
        exec (.readSupply p index) s =
          .next (answerPort p { echo := 23, result := .outOfRange, payload := [] } s))

/-- On a port that takes it. With 1 to 18 kinds, none above 17 and none named twice, the answer is DONE with the port's
pending flags as it leaves them: of a kind with a bay the bays given are removed from the bay set; of a kind without a
bay the flag is cleared just where the count given is the post count, which stays; kinds not named, the mask, the
quiet flag, the other ports and everything else of the part stay. Any other list is refused OUT_OF_RANGE and nothing
is acknowledged. The answer's three bytes of pending flags are the model's choice (log entry 19). (Rests on R187,
R190.) -/
def Obligations.AckEventsClearsJustWhatItNames : Prop :=
  ∀ (p : Port) (items : List AckItem) (s : State), takes p s →
    (¬(1 ≤ items.length ∧ items.length ≤ 18 ∧ (∀ a ∈ items, a.kind ≤ 17) ∧ (items.map AckItem.kind).Nodup) →
      exec (.ackEvents p items) s =
        .next (answerPort p { echo := 25, result := .outOfRange, payload := [] } s)) ∧
      (1 ≤ items.length → items.length ≤ 18 → (∀ a ∈ items, a.kind ≤ 17) → (items.map AckItem.kind).Nodup →
        ∃ t, exec (.ackEvents p items) s = .next t ∧
          answered p { echo := 25, result := .done, payload := triple ((t.port p).pendingSet).toNat } t ∧
            (∀ a ∈ items, ∀ k : Fin 18, a.kind = k.val → k ≠ 12 → k ≠ 17 →
              (t.port p).baySets[k] = (s.port p).baySets[k] &&& ~~~a.bays) ∧
            (∀ a ∈ items, a.kind = 12 →
              (t.port p).poolLow.count = (s.port p).poolLow.count ∧
                (t.port p).poolLow.flag =
                  ((s.port p).poolLow.flag && decide ((s.port p).poolLow.count ≠ a.count))) ∧
            (∀ a ∈ items, a.kind = 17 →
              (t.port p).supply.count = (s.port p).supply.count ∧
                (t.port p).supply.flag =
                  ((s.port p).supply.flag && decide ((s.port p).supply.count ≠ a.count))) ∧
            (∀ k : Fin 18, k.val ∉ items.map AckItem.kind → (t.port p).baySets[k] = (s.port p).baySets[k]) ∧
            (12 ∉ items.map AckItem.kind → (t.port p).poolLow = (s.port p).poolLow) ∧
            (17 ∉ items.map AckItem.kind → (t.port p).supply = (s.port p).supply) ∧
            (t.port p).mask = (s.port p).mask ∧ (t.port p).quiet = (s.port p).quiet ∧
            (∀ q : Port, q ≠ p → t.port q = s.port q) ∧ { t with ports := s.ports } = s)

/-- On a port that takes it, SET_QUIET sets that port's quiet flag, leaves its mask and everything else as they were, and
answers DONE; set to the value it holds it changes nothing but the port's buffer. Out of reset a port's ATTN line is
active if and only if its quiet flag is off and some kind of its mask has its pending flag set. Right after reset
every ATTN line is inactive. (Stated by R185.) -/
def Obligations.AttnFollowsQuietMaskAndPendingFlags : Prop :=
  ∀ (p : Port) (on : Bool) (s : State),
    (takes p s → ∃ t, exec (.setQuiet p on) s = .next t ∧
      answered p { echo := 27, result := .done, payload := [] } t ∧ (t.port p).quiet = on ∧
        (t.port p).mask = (s.port p).mask ∧
        ((s.port p).quiet = on → t = answerPort p { echo := 27, result := .done, payload := [] } s) ∧
        t = answerPort p { echo := 27, result := .done, payload := [] }
          (updPort p (fun r => { r with quiet := on }) s)) ∧
      (s.inReset = false →
        (attn s p = true ↔
          (s.port p).quiet = false ∧
            ∃ k : Fin 18, (s.port p).mask.getLsbD k.val = true ∧ (s.port p).pendingKind k = true)) ∧
      (State.reset.port p).quiet = false ∧ attn State.reset p = false

/-- On a Workshop port that takes it, with a source up to 15, the clock SET and an entry of that source and code: if it is
ACTIVE and the minute lies ahead, the entry is DEFERRED with its expiry at that minute or 10,080 minutes from now,
whichever is earlier, and at one week for a minute above 16,777,215, the answer is DONE with the expiry, and nothing
else changes; if it is ACTIVE and the minute does not lie ahead the answer is OUT_OF_RANGE; if it is not ACTIVE the
answer is WRONG_STATE. With the clock UNSET the answer is CLOCK_UNSET, and with no such entry NOT_FOUND. A source
above 15 is answered OUT_OF_RANGE before all else. (Rests on R130.) -/
def Obligations.DeferFaultPutsAnActiveEntryOff : Prop :=
  ∀ (b : Bay) (source code until_ : Nat) (e : FaultEntry) (s : State), takes .workshop s →
    (15 < source →
      exec (.deferFault .workshop b.val source code until_) s =
        .next (answerPort .workshop { echo := 17, result := .outOfRange, payload := [] } s)) ∧
      (source ≤ 15 → s.clock.isSet = false →
        exec (.deferFault .workshop b.val source code until_) s =
          .next (answerPort .workshop { echo := 17, result := .clockUnset, payload := [] } s)) ∧
      (source ≤ 15 → s.clock.isSet = true → findEntry s b source code = none →
        exec (.deferFault .workshop b.val source code until_) s =
          .next (answerPort .workshop { echo := 17, result := .notFound, payload := [] } s)) ∧
      (source ≤ 15 → s.clock.isSet = true → findEntry s b source code = some e → e.state ≠ .active →
        exec (.deferFault .workshop b.val source code until_) s =
          .next (answerPort .workshop { echo := 17, result := .wrongState, payload := [] } s)) ∧
      (source ≤ 15 → s.clock.isSet = true → findEntry s b source code = some e → e.state = .active →
        until_ ≤ s.clock.minute →
        exec (.deferFault .workshop b.val source code until_) s =
          .next (answerPort .workshop { echo := 17, result := .outOfRange, payload := [] } s)) ∧
      (source ≤ 15 → s.clock.isSet = true → findEntry s b source code = some e → e.state = .active →
        s.clock.minute < until_ →
        ∃ t, exec (.deferFault .workshop b.val source code until_) s = .next t ∧
          t = answerPort .workshop
            { echo := 17
              result := .done
              payload :=
                long
                  (if 16777215 < until_ then s.clock.minute + 10080
                  else min until_ (s.clock.minute + 10080)) }
            (updFaults b
              (fun f => { f with
                list := f.list.map fun x =>
                  if x.source == source && x.code == code then
                    { x with
                      state := .deferred
                      expiry :=
                        some
                          (if 16777215 < until_ then s.clock.minute + 10080
                          else min until_ (s.clock.minute + 10080)) }
                  else x })
              s))

/-- On a Workshop port that takes it, for an entry that stands. A COACH entry already CLEAR_PENDING is answered DONE and
nothing but the port changes. Any other COACH entry is CLEAR_PENDING with no expiry, its source and code are at the
tail of the bay's pending clears, the list keeps its length and the free count stays; a BLOCKING one that did not
block revokes a CLEARED clearance. A LAMPS entry, or a BAY entry with no more contactors closed than commanded, leaves
the list and its entry is free again. A BAY entry with more closed is answered IN_USE. With no such entry the answer
is NOT_FOUND. (Rests on R125, R128, R132, R133.) -/
def Obligations.ClearFaultAsksTheCoachOrRemovesThePartsEntry : Prop :=
  ∀ (b : Bay) (source code : Nat) (e : FaultEntry) (s : State), takes .workshop s → source ≤ 15 →
    (findEntry s b source code = none →
      exec (.clearFault .workshop b.val source code) s =
        .next (answerPort .workshop { echo := 18, result := .notFound, payload := [] } s)) ∧
      (findEntry s b source code = some e → source ≤ 13 → e.state = .clearPending →
        exec (.clearFault .workshop b.val source code) s =
          .next (answerPort .workshop { echo := 18, result := .done, payload := [] } s)) ∧
      (findEntry s b source code = some e → source ≤ 13 → e.state ≠ .clearPending →
        ∃ t, exec (.clearFault .workshop b.val source code) s = .next t ∧
          answered .workshop { echo := 18, result := .done, payload := [] } t ∧
            findEntry t b source code = some { e with state := .clearPending, expiry := none } ∧
            (t.bay b).faults.list.length = (s.bay b).faults.list.length ∧ t.freeCount = s.freeCount ∧
            (t.bay b).reader.clears = (s.bay b).reader.clears ++ [(source, code)] ∧
            (e.cls = .blocking → e.state ≠ .active → (s.bay b).clear.state = .cleared →
              (t.bay b).clear.state = .revoked ∧ (t.bay b).clear.reasons = only .blockingFault)) ∧
      (findEntry s b source code = some e → source = 15 → (s.bay b).power.commanded < (s.bay b).power.closed →
        exec (.clearFault .workshop b.val source code) s =
          .next (answerPort .workshop { echo := 18, result := .inUse, payload := [] } s)) ∧
      (findEntry s b source code = some e →
        source = 14 ∨ (source = 15 ∧ (s.bay b).power.closed ≤ (s.bay b).power.commanded) →
        ∃ t, exec (.clearFault .workshop b.val source code) s = .next t ∧
          answered .workshop { echo := 18, result := .done, payload := [] } t ∧
            (t.bay b).faults.list =
              (s.bay b).faults.list.filter (fun x => !(x.source == source && x.code == code)) ∧
            t.freeCount + (t.bay b).faults.list.length = s.freeCount + (s.bay b).faults.list.length ∧
            (∀ x : Bay, (t.bay x).clear = (s.bay x).clear))

/-- On a Workshop port that takes it. For a PRESENT bay not in release whose reader is UNREAD, COMPLETE or FAILED: the
pass is wanted, the cursor and the failed visits are 0, identity is wanted where it was or where the bay has none, the
reader is QUEUED or READING, the fault list stays, a COMPLETE reader of a CLEARED bay revokes it with FAULTS_NOT_READ,
and the answer is DONE. A bay that is not PRESENT or is in release is answered WRONG_STATE, one QUEUED, READING or
SUSPENDED IN_USE. (Rests on R146, R161.) -/
def Obligations.RereadFaultsAsksAFullPass : Prop :=
  ∀ (b : Bay) (s : State), takes .workshop s →
    ((s.bay b).table.occ ≠ .present ∨ inRelease s b = true →
      exec (.rereadFaults .workshop b.val) s =
        .next (answerPort .workshop { echo := 19, result := .wrongState, payload := [] } s)) ∧
      ((s.bay b).table.occ = .present → inRelease s b = false → passAsked s b = true →
        exec (.rereadFaults .workshop b.val) s =
          .next (answerPort .workshop { echo := 19, result := .inUse, payload := [] } s)) ∧
      ((s.bay b).table.occ = .present → inRelease s b = false → passAsked s b = false →
        ∃ t, exec (.rereadFaults .workshop b.val) s = .next t ∧
          answered .workshop { echo := 19, result := .done, payload := [] } t ∧
            (t.bay b).reader.passWanted = true ∧ (t.bay b).reader.cursor = 0 ∧
            (t.bay b).reader.failedVisits = 0 ∧
            (t.bay b).reader.identityWanted =
              ((s.bay b).reader.identityWanted || (s.bay b).table.identity.isNone) ∧
            ((t.bay b).reader.state = .queued ∨ (t.bay b).reader.state = .reading) ∧
            ((s.bay b).reader.state = .complete → (s.bay b).clear.state = .cleared →
              (t.bay b).clear.state = .revoked ∧ (t.bay b).clear.reasons = only .faultsNotRead) ∧
            ∀ x : Bay, (t.bay x).table = (s.bay x).table ∧ (t.bay x).faults = (s.bay x).faults)

/-- Out of reset, with the line quiet and at least one eligible entry: first every poll whose bay left class A while it
was promoted, and is not in class A now, loses the promotion and counts from the end of its last POLL by its present
class again (that this is done before the choice is the model's reading of R41, log entry 9). Where no entry is
eligible any more that is all. Else the entry put on the line is one of the eligible entries, every one that stands
earlier in the order of bays and sorts goes after it by class and age, and none that stands later goes before it. It
leaves the pending list, its request frame takes 40 microseconds a byte, it is at its first attempt, and nothing else
of the part changes. (Rests on R26, R40, R41, R43.) -/
def Obligations.ArbiterTakesTheFirstOfTheLowestClassAndOldestAge : Prop :=
  ∀ (s : State), s.inReset = false → s.line = none → candidates s ≠ [] →
    ∃ t j, exec .arbiterChoice s = .next t ∧
      j = { s with bays := j.bays } ∧
        (∀ b : Bay, j.bay b =
          { s.bay b with
            loop := { (s.bay b).loop with
              poll :=
                match (s.bay b).loop.poll with
                | .held lastEnd due true => if classA s b = true then .held lastEnd due true else .classed lastEnd
                | p => p } }) ∧
        (candidates j = [] → t = j) ∧
        (candidates j ≠ [] →
          ∃ i : Fin (candidates j).length,
            (∀ k : Fin (candidates j).length,
              (k < i → (candidates j)[i].before (candidates j)[k] = true) ∧
                (i < k → (candidates j)[k].before (candidates j)[i] = false)) ∧
              t = { unlist (candidates j)[i].bay (candidates j)[i].sort j with
                line := some
                  { bay := (candidates j)[i].bay
                    entry := { (candidates j)[i].entry with rejoinAt := none }
                    attempt := 1
                    sentEnd :=
                      s.time + (requestFrame (candidates j)[i].bay (candidates j)[i].entry.req).length * 40
                    quietUntil := none } })

/-- Out of reset. A reachable bay's poll falls due 1 s after its last POLL ended in class A, 4 s in class B and 10 s in
class C, and a LOST bay's probe at its due time: POLL_DUE or PROBE_DUE brings the time to that moment, from which the
entry is eligible with it as its age, and changes nothing else. (Rests on R37, R40.) -/
def Obligations.PollsAndProbesFallDueByTheirPeriods : Prop :=
  ∀ (b : Bay) (m : Nat) (s : State), s.inReset = false →
    ((s.bay b).loop.poll = .classed m → reachable s b = true →
      ∃ t, exec (.pollDue b) s = .next t ∧
        t = { s with
            time := max s.time
              (m + (if classA s b then 1000000 else if occupied s b then 4000000 else 10000000)) } ∧
          (eligible t b .poll).map Entry.age =
            some (m + (if classA s b then 1000000 else if occupied s b then 4000000 else 10000000))) ∧
      ((s.bay b).loop.poll = .probe m → (s.bay b).table.occ = .lost →
        ∃ t, exec (.probeDue b) s = .next t ∧
          t = { s with time := max s.time m } ∧ (eligible t b .poll).map Entry.age = some m)

/-- Out of reset, with the POLL of a bay that is neither LOST nor OUT_OF_SERVICE on the line and no quiet time: bytes that
are its good reply, ended within 8 ms of its frame, end it. The line is free, the time is the reply's end at 40
microseconds a byte after the frame or later (a turnaround of 0, the model's choice, log entry 8), the bay's last-
polled plug and latch, last cabin temperature and closed count are the reply's, its failure count is 0, and its next
poll counts from now. (Rests on R4, R26, R30, R36, R40, R60, R73, R191.) -/
def Obligations.GoodPollIsStoredByItsOwners : Prop :=
  ∀ (l : OnLine) (bytes : List Byte) (r : PollReply) (s : State), s.inReset = false → s.line = some l →
    l.quietUntil = none → l.entry.req = .poll → reachable s l.bay = true →
    parseReply l.bay .poll bytes = some (.ok (.poll r)) →
    max s.time (l.sentEnd + bytes.length * 40) ≤ l.sentEnd + 8000 →
    ∃ t, exec (.replyTaken bytes) s = .next t ∧
      t.line = none ∧ t.time = max s.time (l.sentEnd + bytes.length * 40) ∧
        (t.bay l.bay).table.plug = some r.plug ∧ (t.bay l.bay).table.latch = some r.latch ∧
        (t.bay l.bay).heat.cabin = r.cabin ∧ (t.bay l.bay).power.closed = r.closed ∧
        (t.bay l.bay).loop.failures = 0 ∧ (t.bay l.bay).loop.poll = .classed t.time

/-- Out of reset. A BUSY to a lamp or reader transaction, or to a STAGE with none waiting behind it, within 10 s of its
first BUSY frees the line, keeps the entry with its class and age to rejoin 50 ms later and clears the failures;
nothing else changes. So does a BUSY to a LATCH with none waiting, but that a LATCH(open) no longer wanted is not sent
again; a STAGE or LATCH with one waiting behind it takes that one's request and class and keeps its age, and an
increase so taken frees its slot. A STAGE that ends DONE, or REFUSED as a reduction, starts the stuck watch and waits
for a fresh poll. An increase that ends restarts both spacings and frees its slot: DONE clears the refused mark;
REFUSED sets it, posts EQUIPMENT where it was clear, and returns the target to the closed count, from which the
reduction is asked where that exceeds the grant and no STAGE waits; FAILED keeps the target. A reduction that ends
FAILED is asked again at once. A reduction takes the place of a STAGE that waits, or waits out a BUSY, and keeps its
age and BUSY times. With no increase outstanding, the first bay of the demand list with fewer contactors closed than
granted, no STAGE open or pending, a good poll since its last STAGE, no lamp-step hold and both spacings run, if it
can be reached, is commanded one stage more than it reports closed, by STAGE(closed + 1) in class 2; nothing else
changes. The model's choices and readings here: a turnaround of 0 (log entry 8), the reduction asked where a refused
increase leaves more closed than granted, and the target kept while a STAGE waits (log entry 12), the mark of a fresh
poll (log entry 26), the moment of an increase (log entry 30), a BUSY with a request waiting or a LATCH(open) no
longer wanted (log entry 32), the first BUSY kept over a failed attempt (log entry 41). (Rests on R26, R28, R36, R44,
R60, R61, R62, R64, R66, R105.) -/
def Obligations.BusyAndStageOutcomesAreTakenAndIncreasesAsked : Prop :=
  ∀ (l : OnLine) (bytes : List Byte) (target n : Nat) (b : Bay) (e : Entry) (s : State),
    (replies l bytes .busy s →
      sortOf l.entry.req = .lamp ∨ sortOf l.entry.req = .reader ∨
        (sortOf l.entry.req = .stage ∧ (laneOf s l.bay .stage).queued = none) →
      (∀ f ∈ l.entry.firstBusy, heardAt l bytes s < f + 10000000) →
      exec (.replyTaken bytes) s =
        .next (updLane l.bay (sortOf l.entry.req)
          (fun x => { x with
            opened := some
              { l.entry with
                rejoinAt := some (heardAt l bytes s + 50000)
                firstBusy := some (l.entry.firstBusy.getD (heardAt l bytes s)) } })
          (replyEnded l bytes s))) ∧
      (replies l bytes .busy s → sortOf l.entry.req = .latch → (laneOf s l.bay .latch).queued = none →
        (∀ f ∈ l.entry.firstBusy, heardAt l bytes s < f + 10000000) →
        exec (.replyTaken bytes) s =
          .next (updLane l.bay .latch
            (fun x => { x with
              opened :=
                if l.entry.req = .latch true ∧ l.entry.wanted = false then none
                else some
                  { l.entry with
                    rejoinAt := some (heardAt l bytes s + 50000)
                    firstBusy := some (l.entry.firstBusy.getD (heardAt l bytes s)) } })
            (replyEnded l bytes s))) ∧
      (replies l bytes .busy s → sortOf l.entry.req = .stage ∨ sortOf l.entry.req = .latch →
        (laneOf s l.bay (sortOf l.entry.req)).queued = some e →
        (∀ f ∈ l.entry.firstBusy, heardAt l bytes s < f + 10000000) →
        exec (.replyTaken bytes) s =
          .next (updLane l.bay (sortOf l.entry.req)
            (fun _ =>
              { opened := some
                  { l.entry with
                    req := e.req
                    cls := classOf e.req
                    wanted := true
                    rejoinAt := some (heardAt l bytes s + 50000)
                    firstBusy := some (l.entry.firstBusy.getD (heardAt l bytes s)) }
                queued := none })
            (updSupply
              (fun p => { p with
                increase :=
                  if isIncrease (some l.entry) = true ∧ p.increase = some l.bay then none else p.increase })
              (replyEnded l bytes s)))) ∧
      (l.entry.req = .stage target false →
        replies l bytes (.ok .nothing) s ∨ replies l bytes .refused s →
        exec (.replyTaken bytes) s =
          .next (updPower l.bay (fun p => { p with watch := some 0, polledSince := false })
            (replyEnded l bytes s))) ∧
      (l.entry.req = .stage target true → replies l bytes (.ok .nothing) s →
        exec (.replyTaken bytes) s =
          .next (updSupply
            (fun p => { p with
              lastIncrease := some (heardAt l bytes s)
              increase := if p.increase = some l.bay then none else p.increase })
            (updPower l.bay
              (fun p => { p with
                lastIncrease := some (heardAt l bytes s), refused := false, watch := some 0,
                polledSince := false })
              (replyEnded l bytes s)))) ∧
      (l.entry.req = .stage target true → replies l bytes .refused s → (laneOf s l.bay .stage).queued = none →
        ((s.bay l.bay).power.closed ≤ (s.bay l.bay).power.grant →
          exec (.replyTaken bytes) s =
            .next (onlyIf (!(s.bay l.bay).power.refused) (post .equipment l.bay)
              (updSupply
                (fun p => { p with
                  lastIncrease := some (heardAt l bytes s)
                  increase := if p.increase = some l.bay then none else p.increase })
                (updPower l.bay
                  (fun p => { p with
                    lastIncrease := some (heardAt l bytes s), refused := true, watch := some 0,
                    polledSince := false, commanded := p.closed })
                  (replyEnded l bytes s))))) ∧
          ((s.bay l.bay).power.grant < (s.bay l.bay).power.closed → reachable s l.bay = true →
            (laneOf s l.bay .stage).opened = none →
            ∃ t, exec (.replyTaken bytes) s = .next t ∧
              (t.bay l.bay).power =
                  { (s.bay l.bay).power with
                    lastIncrease := some t.time, refused := true, watch := none, polledSince := false,
                    commanded := (s.bay l.bay).power.grant } ∧
                laneOf t l.bay .stage =
                  { opened := none
                    queued := some (newEntry (.stage (s.bay l.bay).power.grant false) t.time) } ∧
                (t.bay l.bay).lamp.latestStage = some t.time ∧
                ∀ x : Bay, x ≠ l.bay → t.bay x = s.bay x)) ∧
      (lastAttempt l s → l.entry.req = .stage target true →
        ∃ t, exec .replyTimeout s = .next t ∧
          t.supply =
              { s.supply with
                lastIncrease := some t.time
                increase := if s.supply.increase = some l.bay then none else s.supply.increase } ∧
            (t.bay l.bay).power =
              { (s.bay l.bay).power with lastIncrease := some t.time, polledSince := false } ∧
            ∀ x : Bay, x ≠ l.bay → t.bay x = s.bay x) ∧
      (lastAttempt l s → l.entry.req = .stage target false → laneOf s l.bay .stage = .empty →
        ∃ t, exec .replyTimeout s = .next t ∧
          laneOf t l.bay .stage =
              { opened := none
                queued := some (newEntry (.stage (s.bay l.bay).power.commanded false) t.time) } ∧
            (t.bay l.bay).power = { (s.bay l.bay).power with watch := none, polledSince := false } ∧
            (t.bay l.bay).lamp.latestStage = some t.time ∧ t.supply = s.supply ∧
            ∀ x : Bay, x ≠ l.bay → t.bay x = s.bay x) ∧
      (reachable s b = true →
        ((laneOf s b .stage).queued = some e →
          laneOf (askReduction b n s) b .stage =
            { opened := (laneOf s b .stage).opened
              queued := some { e with req := .stage n false, cls := 1, wanted := true } }) ∧
          ((laneOf s b .stage).queued = none → (laneOf s b .stage).opened = some e → s.line = none →
            laneOf (askReduction b n s) b .stage =
              { opened := some { e with req := .stage n false, cls := 1, wanted := true }, queued := none })) ∧
      (s.inReset = false → s.supply.increase = none → increaseBay s = some b → reachable s b = true →
        exec .stageIncrease s =
          .next (updLane b .stage
            (fun _ =>
              { opened := none
                queued := some
                  { req := .stage ((s.bay b).power.closed + 1) true, cls := 2, age := s.time, wanted := true,
                    rejoinAt := none, firstBusy := none } })
            (updLamp b (fun x => { x with latestStage := some s.time })
              (updPower b (fun p => { p with commanded := p.closed + 1, watch := none })
                (updSupply (fun p => { p with increase := some b }) s)))))

/-- Out of reset, with a transaction on the line. A first attempt that times out 8 ms after its frame, or hears malformed
bytes in that time, keeps the line with 2 ms of quiet and changes nothing else; bytes that end later are that timeout;
the end of the quiet sends the request again. A second failure frees the line and adds 1 to the failures of a bay that
is neither LOST nor OUT_OF_SERVICE and has fewer than 2, and to no other; of any other bay it adds nothing. A good
POLL ends as follows. A sweep poll makes the bay VACANT or, with ARRIVAL and its reading asked, ARRIVING, discovered,
with no NODE_BACK; a failed one leaves it LOST, discovered, with NODE_LOST and its probe in 10 s. A probe answer posts
NODE_BACK: with plug OUT the bay is VACANT, after a coach as an unobserved departure that keeps the departure record;
with plug IN it is ARRIVING as R16 says of each occupancy before loss, its reading asked. A plug reading that agrees
sets the count to 0, a contrary one below the mark adds 1, and at the mark as it stands now the bay arrives or
departs. A HEATING bay at its target is HOLDING with HEAT_READY, below it is projected anew; the hold thermostat sets
the demand of R82's table. More contactors closed than commanded, with no STAGE in flight, no watch and no stuck mark,
are asked to open. A turnaround of 0 is the model's choice (log entry 8). (Rests on R3, R5, R15, R16, R26, R27, R36,
R37, R65, R81, R82, R191.) -/
def Obligations.FailedAttemptsAreCountedAndPollsAreTaken : Prop :=
  ∀ (l : OnLine) (bytes : List Byte) (m : Nat) (r : PollReply) (x : Int) (d : Departure) (f : HeatProfile)
    (s : State),
    (awaitsReply l s → l.attempt = 1 →
      exec .replyTimeout s =
          .next { s with
            time := max s.time (l.sentEnd + 8000)
            line := some { l with quietUntil := some (max s.time (l.sentEnd + 8000) + 2000) } } ∧
        (parseReply l.bay l.entry.req bytes = none → heardAt l bytes s ≤ l.sentEnd + 8000 →
          exec (.malformedReply bytes) s =
            .next { s with
              time := heardAt l bytes s
              line := some { l with quietUntil := some (heardAt l bytes s + 2000) } })) ∧
      (awaitsReply l s → l.sentEnd + 8000 < heardAt l bytes s →
        exec (.replyTaken bytes) s = exec .replyTimeout s ∧
          exec (.malformedReply bytes) s = exec .replyTimeout s) ∧
      (s.inReset = false → s.line = some l → l.quietUntil = some m →
        exec .retryQuietEnd s =
          .next { s with
            time := max s.time m
            line := some
              { l with
                attempt := 2
                quietUntil := none
                sentEnd := max s.time m + (requestFrame l.bay l.entry.req).length * 40 } }) ∧
      (lastAttempt l s →
        (∃ t, exec .replyTimeout s = .next t ∧
          t.line = none ∧ t.time = max s.time (l.sentEnd + 8000) ∧
            (t.bay l.bay).loop.failures = (s.bay l.bay).loop.failures + 1 ∧
            ∀ b : Bay, b ≠ l.bay → (t.bay b).loop.failures = (s.bay b).loop.failures) ∧
          (parseReply l.bay l.entry.req bytes = none → heardAt l bytes s ≤ l.sentEnd + 8000 →
            ∃ t, exec (.malformedReply bytes) s = .next t ∧
              t.line = none ∧ t.time = heardAt l bytes s ∧
                (t.bay l.bay).loop.failures = (s.bay l.bay).loop.failures + 1 ∧
                ∀ b : Bay, b ≠ l.bay → (t.bay b).loop.failures = (s.bay b).loop.failures)) ∧
      (awaitsReply l s → l.attempt = 2 → reachable s l.bay = false →
        (∃ t, exec .replyTimeout s = .next t ∧
          t.line = none ∧ t.time = max s.time (l.sentEnd + 8000) ∧
            (∀ b : Bay, (t.bay b).loop.failures = (s.bay b).loop.failures) ∧
            (l.entry.req = .poll → (s.bay l.bay).table.occ = .lost → (s.bay l.bay).table.discovered = false →
              (t.bay l.bay).table = { (s.bay l.bay).table with discovered := true } ∧ announced .nodeLost l.bay t ∧
                (t.bay l.bay).loop.poll = .probe (t.time + 10000000))) ∧
          (parseReply l.bay l.entry.req bytes = none → heardAt l bytes s ≤ l.sentEnd + 8000 →
            ∃ t, exec (.malformedReply bytes) s = .next t ∧
              t.line = none ∧ t.time = heardAt l bytes s ∧
                ∀ b : Bay, (t.bay b).loop.failures = (s.bay b).loop.failures)) ∧
      (replies l bytes (.ok (.poll r)) s → l.entry.req = .poll →
        ((s.bay l.bay).table.occ = .lost → (s.bay l.bay).table.discovered = false →
          ∃ t, exec (.replyTaken bytes) s = .next t ∧
            (∀ p : Port, (t.port p).baySets[bayEventKind .nodeBack] = (s.port p).baySets[bayEventKind .nodeBack]) ∧
              (t.bay l.bay).loop.poll = .classed t.time ∧
              (r.plug = .out →
                (t.bay l.bay).table =
                  { (s.bay l.bay).table with
                    occ := .vacant, beforeLoss := none, discovered := true, plugCount := 0, plug := some .out,
                    latch := some r.latch }) ∧
              (r.plug = .in_ →
                (t.bay l.bay).table =
                    { (s.bay l.bay).table with
                      occ := .arriving, beforeLoss := none, discovered := true, recovery := false, plugCount := 0,
                      plug := some .in_, latch := some r.latch, identity := none,
                      lampPlan := (s.bay l.bay).table.planOverride } ∧
                  announced .arrival l.bay t ∧ (t.bay l.bay).reader.identityWanted = true ∧
                  (t.bay l.bay).reader.passWanted = true)) ∧
          ((s.bay l.bay).table.occ = .lost → (s.bay l.bay).table.discovered = true →
            ∃ t, exec (.replyTaken bytes) s = .next t ∧
              announced .nodeBack l.bay t ∧ (t.bay l.bay).loop.poll = .classed t.time ∧
                (r.plug = .out →
                  (s.bay l.bay).table.beforeLoss ≠ some .arriving → (s.bay l.bay).table.beforeLoss ≠ some .present →
                  (t.bay l.bay).table =
                    { (s.bay l.bay).table with
                      occ := .vacant, beforeLoss := none, plugCount := 0, plug := some .out,
                      latch := some r.latch }) ∧
                (r.plug = .out →
                  (s.bay l.bay).table.beforeLoss = some .arriving ∨ (s.bay l.bay).table.beforeLoss = some .present →
                  (t.bay l.bay).table =
                      { (s.bay l.bay).table with
                        occ := .vacant, beforeLoss := none, recovery := false, plugCount := 0, plug := some .out,
                        latch := some r.latch, lastDeparture := some .unobserved, identity := none,
                        lampPlan := none } ∧
                    announced .departed l.bay t ∧ (t.bay l.bay).faults.list = [] ∧ t.departures = s.departures) ∧
                (r.plug = .in_ →
                  (s.bay l.bay).table.beforeLoss = some .arriving ∨ (s.bay l.bay).table.beforeLoss = some .present →
                  (t.bay l.bay).table =
                      { (s.bay l.bay).table with
                        occ := .arriving, beforeLoss := none, plugCount := 0, plug := some .in_,
                        latch := some r.latch
                        recovery := decide ((s.bay l.bay).table.beforeLoss = some .present) } ∧
                    (t.bay l.bay).reader.identityWanted = true ∧ (t.bay l.bay).reader.passWanted = true ∧
                    (∀ p : Port,
                      (t.port p).baySets[bayEventKind .arrival] = (s.port p).baySets[bayEventKind .arrival])) ∧
                (r.plug = .in_ →
                  (s.bay l.bay).table.beforeLoss ≠ some .arriving → (s.bay l.bay).table.beforeLoss ≠ some .present →
                  (t.bay l.bay).table =
                      { (s.bay l.bay).table with
                        occ := .arriving, beforeLoss := none, recovery := false, plugCount := 0, plug := some .in_,
                        latch := some r.latch, identity := none,
                        lampPlan := (s.bay l.bay).table.planOverride } ∧
                    announced .arrival l.bay t ∧ (t.bay l.bay).reader.identityWanted = true ∧
                    (t.bay l.bay).reader.passWanted = true)) ∧
          (((s.bay l.bay).table.occ = .vacant ∧ r.plug = .out) ∨ (occupied s l.bay = true ∧ r.plug = .in_) →
            ∃ t, exec (.replyTaken bytes) s = .next t ∧
              (t.bay l.bay).table =
                { (s.bay l.bay).table with plugCount := 0, plug := some r.plug, latch := some r.latch }) ∧
          (((s.bay l.bay).table.occ = .vacant ∧ r.plug = .in_) ∨ (occupied s l.bay = true ∧ r.plug = .out) →
            ((s.bay l.bay).table.plugCount + 1 <
                (if (s.bay l.bay).table.occ = .present ∧ (s.bay l.bay).clear.state = .released then 2 else 3) →
              ∃ t, exec (.replyTaken bytes) s = .next t ∧
                (t.bay l.bay).table =
                  { (s.bay l.bay).table with
                    plugCount := (s.bay l.bay).table.plugCount + 1, plug := some r.plug, latch := some r.latch }) ∧
              ((if (s.bay l.bay).table.occ = .present ∧ (s.bay l.bay).clear.state = .released then 2 else 3) ≤
                  (s.bay l.bay).table.plugCount + 1 →
                ∃ t, exec (.replyTaken bytes) s = .next t ∧
                  (t.bay l.bay).table.plugCount = 0 ∧
                    (t.bay l.bay).table.occ = (if (s.bay l.bay).table.occ = .vacant then .arriving else .vacant) ∧
                    ((s.bay l.bay).table.occ = .vacant → announced .arrival l.bay t) ∧
                    (occupied s l.bay = true →
                      announced .departed l.bay t ∧
                        (t.bay l.bay).table.lastDeparture =
                          some
                            (if (s.bay l.bay).table.occ = .present ∧ (s.bay l.bay).clear.state = .released then
                              .clean
                            else .unreleased)))) ∧
          (occupied s l.bay = true → r.plug = .in_ → r.cabin = some x → departureOf s l.bay = some d →
            ((s.bay l.bay).heat.state = .heating → d.target ≤ x → ∃ t, exec (.replyTaken bytes) s = .next t ∧
              (t.bay l.bay).heat =
                  { (s.bay l.bay).heat with
                    state := .holding, demand := 0, cabin := some x, projection := none, late := false,
                    starved := false } ∧
                announced .heatReady l.bay t) ∧
              ((s.bay l.bay).heat.state = .heating → x < d.target → ∃ t, exec (.replyTaken bytes) s = .next t ∧
                (t.bay l.bay).heat =
                    { (s.bay l.bay).heat with
                      cabin := some x
                      projection := projectionOf t l.bay
                      late := isLate (projectionOf t l.bay) (some d) } ∧
                  (isLate (projectionOf t l.bay) (some d) = true → (s.bay l.bay).heat.late = false →
                    announced .heatLate l.bay t)) ∧
              ((s.bay l.bay).heat.state = .holding → (s.bay l.bay).heat.profile = some f →
                ∃ t, exec (.replyTaken bytes) s = .next t ∧
                  (t.bay l.bay).heat.cabin = some x ∧
                    (t.bay l.bay).heat.demand =
                      (if d.target ≤ x then 0
                      else if d.target - f.hysteresis ≤ x then (s.bay l.bay).heat.demand
                      else if d.target - 3 * f.hysteresis ≤ x then 1
                      else f.stages) ∧
                    (d.target - 3 * f.hysteresis ≤ x → (t.bay l.bay).heat.state = .holding) ∧
                    (x < d.target - 3 * f.hysteresis →
                      (t.bay l.bay).heat.state = .heating ∧ announced .heatStarted l.bay t ∧
                        (t.bay l.bay).heat.projection = projectionOf t l.bay))) ∧
          ((s.bay l.bay).heat.state = .off → reachable s l.bay = true →
            ((s.bay l.bay).table.occ = .vacant ∧ r.plug = .out) ∨ (occupied s l.bay = true ∧ r.plug = .in_) →
            (s.bay l.bay).power.commanded < r.closed → laneOf s l.bay .stage = .empty →
            (s.bay l.bay).power.watch = none → (s.bay l.bay).power.stuck = false →
            ∃ t, exec (.replyTaken bytes) s = .next t ∧
              laneOf t l.bay .stage =
                  { opened := none
                    queued := some (newEntry (.stage (s.bay l.bay).power.commanded false) t.time) } ∧
                (t.bay l.bay).power = { (s.bay l.bay).power with closed := r.closed, polledSince := true } ∧
                (t.bay l.bay).lamp.latestStage = some t.time))

/-- Out of reset, with the second attempt of a bay's transaction failing on the line while the bay is neither LOST nor
OUT_OF_SERVICE and has 2 failures: the bay is LOST with the state it left, or PRESENT where it was recovering, as its
occupancy before loss; recovery mark and plug count are cleared, NODE_LOST is posted, its failures are 0, its pending
list empty and its probe due in 10 s; its commanded target is 0, its increase is no longer outstanding; a CLEARED,
RELEASING or RELEASED clearance is no longer so; identity, lamp plan number, departure record, last-polled fields,
fault list and holds are kept. That NODE_LOSS is a command of its own, on a second attempt with two failures counted
and with no time passing, is the model's choice (log entry 5). (Rests on R13, R14, R36, R37, R67, R169.) -/
def Obligations.ThirdFailureLosesTheNode : Prop :=
  ∀ (b : Bay) (l : OnLine) (s : State), s.inReset = false → s.line = some l → l.bay = b → l.attempt = 2 →
    l.quietUntil = none → reachable s b = true → (s.bay b).loop.failures = 2 →
    ∃ t, exec (.nodeLoss b) s = .next t ∧
      t.line = none ∧ t.time = s.time ∧
        (t.bay b).table.occ = .lost ∧
        (t.bay b).table.beforeLoss =
          some (if (s.bay b).table.occ = .arriving ∧ (s.bay b).table.recovery = true then .present
            else (s.bay b).table.occ) ∧
        (t.bay b).table.recovery = false ∧ (t.bay b).table.plugCount = 0 ∧ announced .nodeLost b t ∧
        (t.bay b).loop.failures = 0 ∧ (t.bay b).loop.entries = [] ∧
        (t.bay b).loop.poll = .probe (s.time + 10000000) ∧ (t.bay b).power.commanded = 0 ∧
        t.supply.increase ≠ some b ∧ (t.bay b).clear.state ≠ .cleared ∧ inRelease t b = false ∧
        (t.bay b).table.identity = (s.bay b).table.identity ∧
        (t.bay b).table.lampPlan = (s.bay b).table.lampPlan ∧ departureOf t b = departureOf s b ∧
        (t.bay b).table.plug = (s.bay b).table.plug ∧ (t.bay b).table.latch = (s.bay b).table.latch ∧
        (t.bay b).faults = (s.bay b).faults ∧ (t.bay b).clear.holds = (s.bay b).clear.holds

/-- Out of reset, for a bay's entry that is off the line after a BUSY. The end of its 50 ms makes it eligible again, with
its class and age, and changes nothing else. When 10 s have passed since its first BUSY it leaves the pending list,
and no node's failure count changes. (Rests on R28, R36.) -/
def Obligations.BusyTimersRejoinOrEndTheTransaction : Prop :=
  ∀ (b : Bay) (sort : LoopSort) (e : Entry) (m : Nat) (s : State), s.inReset = false →
    (laneOf s b sort).opened = some e →
    (e.rejoinAt = some m → ∃ t, exec (.busyWaitEnd b sort) s = .next t ∧
      t.time = max s.time m ∧ eligible t b sort = some { e with rejoinAt := none } ∧
        t = updLane b sort (fun x => { x with opened := some { e with rejoinAt := none } })
          { s with time := max s.time m }) ∧
      (e.firstBusy = some m → ∃ t, exec (.busyPersistTimeout b sort) s = .next t ∧
        t.time = max s.time (m + 10000000) ∧ (laneOf t b sort).opened = none ∧
          ∀ x : Bay, (t.bay x).loop.failures = (s.bay x).loop.failures)

/-- Out of reset, for a VACANT bay with two plug-IN polls counted: the bay is ARRIVING with plug count 0 and no occupancy
before loss, ARRIVAL is posted, its identity and copied profile are absent, its lamp plan number is the override if
there is one, its departure record is kept, an identity read and a pass from record 0 are wanted, its fault list
stays, and, unless its clearance is in release, it waits in the reader queue or is being visited. That ARRIVAL stands
for the third poll, with no time passing, is the model's choice (log entry 5). (Rests on R5, R6, R135.) -/
def Obligations.ArrivalAsksTheReaderForIdentityAndAFullRead : Prop :=
  ∀ (b : Bay) (s : State), s.inReset = false → (s.bay b).table.occ = .vacant →
    (s.bay b).table.plugCount = 2 →
    ∃ t, exec (.arrival b) s = .next t ∧
      (t.bay b).table =
          { (s.bay b).table with
            occ := .arriving, beforeLoss := none, recovery := false, plugCount := 0, plug := some .in_,
            identity := none, lampPlan := (s.bay b).table.planOverride } ∧
        (t.bay b).heat = { (s.bay b).heat with profile := none } ∧ announced .arrival b t ∧
        (t.bay b).reader.identityWanted = true ∧ (t.bay b).reader.passWanted = true ∧
        (t.bay b).reader.cursor = 0 ∧ (t.bay b).faults = (s.bay b).faults ∧
        (t.bay b).clear = (s.bay b).clear ∧ t.time = s.time ∧
        (inRelease s b = false → b ∈ t.readerQueue ∨ visiting t b = true) ∧
        ∀ x : Bay, x ≠ b → (t.bay x).table = (s.bay x).table ∧ (t.bay x).clear = (s.bay x).clear

/-- Out of reset. CLEAN_DEPARTURE of a PRESENT, RELEASED bay with one plug-OUT poll counted, and UNRELEASED_DEPARTURE of
an ARRIVING or unreleased PRESENT bay with two: the bay is VACANT with plug count 0 and the kind of departure stored,
DEPARTED is posted, the fault list is empty with its entries free again and INCOMPLETE clear, the quota kept, the
reader context and the clearance record at reset, HOLD posted where a hold stood, the lamp record without check or
result, identity, lamp plan number and copied profile absent, the override kept, demand 0. A clean departure removes
the departure record and its entry; an unreleased one keeps the record. That the two commands stand for the last poll
of the count is the model's choice (log entry 5). (Rests on R10, R11, R12, R24, R170.) -/
def Obligations.DepartureCleansTheBay : Prop :=
  ∀ (b : Bay) (s : State), s.inReset = false →
    ((s.bay b).table.occ = .present → (s.bay b).clear.state = .released → 1 ≤ (s.bay b).table.plugCount →
      ∃ t, exec (.cleanDeparture b) s = .next t ∧
        (t.bay b).table =
            { (s.bay b).table with
              occ := .vacant, beforeLoss := none, recovery := false, plugCount := 0, plug := some .out,
              lastDeparture := some .clean, identity := none, lampPlan := none, departure := none } ∧
          ((departureOf s b).isSome = true → ∀ e ∈ t.departures, e.bay ≠ b) ∧ announced .departed b t ∧
          (t.bay b).faults.list = [] ∧ (t.bay b).faults.incomplete = false ∧
          (t.bay b).faults.quota = (s.bay b).faults.quota ∧
          t.freeCount = s.freeCount + (s.bay b).faults.list.length ∧ (t.bay b).reader = .reset ∧
          (t.bay b).clear = .reset ∧ ((s.bay b).clear.holds ≠ [] → announced .hold b t) ∧
          (t.bay b).lamp.check = .none ∧ (t.bay b).lamp.result = .none ∧ (t.bay b).heat.profile = none ∧
          (t.bay b).heat.demand = 0) ∧
      (unreleasedCoach s b = true → 2 ≤ (s.bay b).table.plugCount →
        ∃ t, exec (.unreleasedDeparture b) s = .next t ∧
          (t.bay b).table =
              { (s.bay b).table with
                occ := .vacant, beforeLoss := none, recovery := false, plugCount := 0, plug := some .out,
                lastDeparture := some .unreleased, identity := none, lampPlan := none } ∧
            t.departures = s.departures ∧ announced .departed b t ∧ (t.bay b).faults.list = [] ∧
            (t.bay b).faults.incomplete = false ∧ (t.bay b).faults.quota = (s.bay b).faults.quota ∧
            t.freeCount = s.freeCount + (s.bay b).faults.list.length ∧ (t.bay b).reader = .reset ∧
            (t.bay b).clear = .reset ∧ ((s.bay b).clear.holds ≠ [] → announced .hold b t) ∧
            (t.bay b).lamp.check = .none ∧ (t.bay b).lamp.result = .none ∧ (t.bay b).heat.profile = none ∧
            (t.bay b).heat.demand = 0)

/-- Out of reset, of a visit whose transaction gets its good reply. WAKE starts 3 s of settling. REFUSED, but to SLEEP,
fails the visit: SLEEP is pending, nothing counted yet (log entry 16). IDENT clears the identity mark: an ARRIVING bay
is PRESENT with IDENTIFIED, a valid identity stored, its profile copied, an automatic check started where it has a
plan, no result and no check, COACH_MISMATCH posted on a mismatch; an invalid one leaves it absent. A recovering bay
with its old fleet number is PRESENT with identity, plan and list kept; any other has departed unobserved: DEPARTED
and ARRIVAL, an empty list, a full read. SNAPSHOT stores generation and count, keeps the cursor only within one
generation and count, completes at the count with FAULTS_COMPLETE, else fetches while the budget lasts. FETCH offers a
record of the generation and moves the cursor, unless there is NO_ROOM, which suspends the visit; a record of another
is not offered and SNAPSHOT asked again. A CLEAR answer leaves the pending clears, and the entry goes or is ACTIVE
with FAULT_NEW. SLEEP ends the visit, its bay suspended where no room stands. The Pool merges a record that stands
(occurrences up to 255, states by R119), makes one where quota and pool allow, answers NO_ROOM to a coach where only
the pool is full, and at a full list displaces an entry neither BLOCKING nor CLEAR_PENDING nor above the record's
class, or refuses and sets INCOMPLETE. A turnaround of 0 is log entry 8's choice. (Rests on R7, R8, R17, R70, R96,
R137, R139, R140, R144, R145, 06_the_fault_pool.md, 6.3 and 6.4, 07_reading_faults_from_coaches.md, 7.5.) -/
def Obligations.ReaderOutcomesAndThePoolIntakeAreTaken : Prop :=
  ∀ (l : OnLine) (bytes : List Byte) (v : Visit) (fleet k count gen source code : Nat) (i : Identity) (o : Offer)
    (e : FaultEntry) (b : Bay) (s : State),
    (visitAsks l v s → replies l bytes (.ok (.reader .nothing)) s →
      (l.entry.req = .wake →
        exec (.replyTaken bytes) s =
          .next { replyEnded l bytes s with
            visit := some { v with phase := .settle, settleUntil := some (heardAt l bytes s + 3000000) } }) ∧
        (l.entry.req = .sleep → v.failed = false → v.suspended = false → s.readerQueue = [] →
          (s.bay l.bay).reader.identityWanted = false → (s.bay l.bay).reader.passWanted = false →
          (s.bay l.bay).reader.clears = [] →
          ∃ t, exec (.replyTaken bytes) s = .next t ∧
            t.visit = none ∧ holdsReservation t .reader = false ∧ t.readerQueue = [] ∧
              (t.bay l.bay).reader = (s.bay l.bay).reader) ∧
        (l.entry.req = .sleep → v.failed = false → v.suspended = true → s.freeCount = 0 → s.readerQueue = [] →
          ∃ t, exec (.replyTaken bytes) s = .next t ∧
            t.visit = none ∧ l.bay ∈ t.suspended ∧ (t.bay l.bay).reader = (s.bay l.bay).reader)) ∧
      (visitAsks l v s → replies l bytes .refused s → sortOf l.entry.req = .reader → l.entry.req ≠ .sleep →
        reachable s l.bay = true →
        ∃ t, exec (.replyTaken bytes) s = .next t ∧
          t.visit = some { v with failed := true, phase := .sleep, settleUntil := none } ∧
            (laneOf t l.bay .reader).queued = some (newEntry .sleep t.time) ∧
            (t.bay l.bay).reader = (s.bay l.bay).reader ∧ t.ports = s.ports ∧
            ∀ x : Bay, x ≠ l.bay → t.bay x = s.bay x) ∧
      (visitAsks l v s → replies l bytes (.ok (.reader (.identity fleet k))) s → l.entry.req = .ident →
        (s.bay l.bay).table.occ = .arriving →
        ∃ t, exec (.replyTaken bytes) s = .next t ∧
          (t.bay l.bay).table.occ = .present ∧ (t.bay l.bay).table.recovery = false ∧
            announced .identified l.bay t ∧ (t.bay l.bay).reader.identityWanted = false ∧
            (t.bay l.bay).reader.failedVisits = 0 ∧ (t.bay l.bay).table.departure = (s.bay l.bay).table.departure ∧
            (mismatch t l.bay = true → announced .coachMismatch l.bay t) ∧
            ((t.bay l.bay).table.lampPlan ≠ none → (s.bay l.bay).lamp.result = .none →
              checkActive s l.bay = false → (t.bay l.bay).lamp.result ≠ .none) ∧
            ((s.bay l.bay).table.recovery = false → 1 ≤ fleet → fleet ≤ 65535 → k ≤ 7 →
              (t.bay l.bay).table.identity = some { fleet := fleet, coachType := k } ∧
                (t.bay l.bay).table.lampPlan = (s.bay l.bay).table.planOverride.orElse (fun _ => some k) ∧
                ∀ c : Fin 8, c.val = k → (t.bay l.bay).heat.profile = some s.profiles[c]) ∧
            ((s.bay l.bay).table.recovery = false → fleet = 0 ∨ 7 < k →
              (t.bay l.bay).table.identity = none ∧
                (t.bay l.bay).table.lampPlan = (s.bay l.bay).table.planOverride ∧
                (t.bay l.bay).heat.profile = (s.bay l.bay).heat.profile) ∧
            ((s.bay l.bay).table.recovery = true → (s.bay l.bay).table.identity = some i → 1 ≤ fleet →
              fleet ≤ 65535 → k ≤ 7 → i.fleet = fleet →
              (t.bay l.bay).table = { (s.bay l.bay).table with occ := .present, recovery := false } ∧
                (t.bay l.bay).heat.profile = (s.bay l.bay).heat.profile ∧
                (t.bay l.bay).faults = (s.bay l.bay).faults ∧
                ∀ p : Port, (t.port p).baySets[bayEventKind .departed] = (s.port p).baySets[bayEventKind .departed]) ∧
            ((s.bay l.bay).table.recovery = true → (s.bay l.bay).table.identity = some i → i.fleet ≠ fleet →
              (t.bay l.bay).table.identity = validIdentity fleet k ∧
                (t.bay l.bay).table.lastDeparture = some .unobserved ∧ announced .departed l.bay t ∧
                announced .arrival l.bay t ∧ (t.bay l.bay).faults.list = [] ∧
                (t.bay l.bay).reader.passWanted = true)) ∧
      (visitAsks l v s → replies l bytes (.ok (.reader (.snapshot count gen))) s → l.entry.req = .snapshot →
        ∃ t, exec (.replyTaken bytes) s = .next t ∧
          (t.bay l.bay).reader.generation = some gen ∧ (t.bay l.bay).reader.recordCount = some count ∧
            (t.bay l.bay).reader.cursor =
              (if (s.bay l.bay).reader.generation = some gen ∧ (s.bay l.bay).reader.cursor ≤ count then
                (s.bay l.bay).reader.cursor
              else 0) ∧
            (t.bay l.bay).reader.failedVisits = 0 ∧ (t.bay l.bay).table = (s.bay l.bay).table ∧
            ((t.bay l.bay).reader.cursor = count →
              (t.bay l.bay).reader.passWanted = false ∧ (t.bay l.bay).reader.state = .complete ∧
                announced .faultsComplete l.bay t ∧ t.visit.map Visit.phase = some .sleep) ∧
            ((t.bay l.bay).reader.cursor ≠ count → v.fetches < v.budget → reachable s l.bay = true →
              t.visit = some { v with phase := .fetch, fetches := v.fetches + 1, settleUntil := none } ∧
                (laneOf t l.bay .reader).queued =
                  some (newEntry (.fetch (t.bay l.bay).reader.cursor) t.time)) ∧
            ((t.bay l.bay).reader.cursor ≠ count → v.budget ≤ v.fetches → reachable s l.bay = true →
              t.visit = some { v with phase := .sleep, settleUntil := none } ∧
                (laneOf t l.bay .reader).queued = some (newEntry .sleep t.time))) ∧
      (visitAsks l v s → replies l bytes (.ok (.reader (.record o gen))) s →
        l.entry.req = .fetch (s.bay l.bay).reader.cursor →
        ((s.bay l.bay).reader.generation ≠ some gen → reachable s l.bay = true →
          ∃ t, exec (.replyTaken bytes) s = .next t ∧
            t.visit = some { v with phase := .snapshot, settleUntil := none } ∧
              (laneOf t l.bay .reader).queued = some (newEntry .snapshot t.time) ∧
              (t.bay l.bay).reader = { (s.bay l.bay).reader with failedVisits := 0 } ∧
              (t.bay l.bay).faults = (s.bay l.bay).faults) ∧
          ((s.bay l.bay).reader.generation = some gen → (offer l.bay o s).2 = .noRoom → reachable s l.bay = true →
            ∃ t, exec (.replyTaken bytes) s = .next t ∧
              t.visit = some { v with phase := .sleep, settleUntil := none, suspended := true } ∧
                (laneOf t l.bay .reader).queued = some (newEntry .sleep t.time) ∧
                (t.bay l.bay).reader = { (s.bay l.bay).reader with failedVisits := 0, state := .suspended } ∧
                (t.bay l.bay).faults = (s.bay l.bay).faults ∧ t.freeCount = s.freeCount) ∧
          ((s.bay l.bay).reader.generation = some gen → (offer l.bay o s).2 ≠ .noRoom → o.source ≤ 13 →
            ∃ t, exec (.replyTaken bytes) s = .next t ∧
              (t.bay l.bay).reader.cursor = (s.bay l.bay).reader.cursor + 1 ∧
                ((findEntry t l.bay o.source o.code).isSome = true ∨ (t.bay l.bay).faults.incomplete = true) ∧
                (some ((s.bay l.bay).reader.cursor + 1) = (s.bay l.bay).reader.recordCount →
                  (t.bay l.bay).reader.state = .complete ∧ announced .faultsComplete l.bay t) ∧
                (some ((s.bay l.bay).reader.cursor + 1) ≠ (s.bay l.bay).reader.recordCount →
                  (t.bay l.bay).faults = ((offer l.bay o s).1.bay l.bay).faults))) ∧
      (visitAsks l v s → replies l bytes (.ok (.reader (.clear true))) s → l.entry.req = .clear source code →
        ∃ t, exec (.replyTaken bytes) s = .next t ∧
          (t.bay l.bay).reader.clears = (s.bay l.bay).reader.clears.filter (· != (source, code)) ∧
            (findEntry s l.bay source code = some e → e.state = .clearPending →
              findEntry t l.bay source code = none ∧
                t.freeCount + (t.bay l.bay).faults.list.length =
                  s.freeCount + (s.bay l.bay).faults.list.length)) ∧
      (visitAsks l v s → replies l bytes (.ok (.reader (.clear false))) s → l.entry.req = .clear source code →
        ∃ t, exec (.replyTaken bytes) s = .next t ∧
          (t.bay l.bay).reader.clears = (s.bay l.bay).reader.clears.filter (· != (source, code)) ∧
            (findEntry s l.bay source code = some e → e.state = .clearPending →
              findEntry t l.bay source code = some { e with state := .active } ∧ announced .faultNew l.bay t)) ∧
      (findEntry s b o.source o.code = some e →
        (offer b o s).2 = .merged ∧ (offer b o s).1.freeCount = s.freeCount ∧
          ((offer b o s).1.bay b).faults.list.length = (s.bay b).faults.list.length ∧
          (o.source ≤ 13 →
            findEntry (offer b o s).1 b o.source o.code =
              some
                { e with
                  occurrences := min o.occurrences 255
                  cls := o.cls
                  seen := true
                  lastSeen := minuteIfSet s
                  firstSeen := e.firstSeen.orElse fun _ => minuteIfSet s
                  state :=
                    if e.state = .clearPending then .clearPending
                    else if o.active = false then .stored
                    else if e.state = .deferred then .deferred
                    else .active
                  expiry := if e.state = .deferred ∧ o.active = true then e.expiry else none }) ∧
          (14 ≤ o.source →
            findEntry (offer b o s).1 b o.source o.code =
              some
                { e with
                  occurrences := min (e.occurrences + 1) 255
                  cls := o.cls
                  lastSeen := minuteIfSet s
                  firstSeen := e.firstSeen.orElse fun _ => minuteIfSet s })) ∧
      (findEntry s b o.source o.code = none → (s.bay b).faults.list.length < (s.bay b).faults.quota →
        (0 < s.freeCount →
          (offer b o s).2 = .new ∧ (offer b o s).1.freeCount = s.freeCount - 1 ∧
            announced .faultNew b (offer b o s).1 ∧
            ((offer b o s).1.bay b).faults.list =
              (s.bay b).faults.list ++
                [{ source := o.source
                   code := o.code
                   cls := o.cls
                   state := if o.source ≤ 13 ∧ o.active = false then .stored else .active
                   occurrences := if o.source ≤ 13 then min o.occurrences 255 else 1
                   firstSeen := minuteIfSet s
                   lastSeen := minuteIfSet s
                   expiry := none
                   seen := decide (o.source ≤ 13) }]) ∧
          (s.freeCount = 0 → o.source ≤ 13 → offer b o s = (s, .noRoom)) ∧
          (s.freeCount = 0 → 14 ≤ o.source →
            (offer b o s).2 = .refused ∧
              ((offer b o s).1.bay b).faults = { (s.bay b).faults with incomplete := true, refusal := true })) ∧
      (findEntry s b o.source o.code = none → (s.bay b).faults.quota ≤ (s.bay b).faults.list.length →
        (∀ old ∈ displacement (s.bay b).faults.list o.cls,
          (offer b o s).2 = .displaced ∧ old ∈ (s.bay b).faults.list ∧ old.cls ≠ .blocking ∧
            old.state ≠ .clearPending ∧ (old.cls = .advisory → o.cls ≠ .info) ∧
            (old.cls = .advisory → ∀ x ∈ (s.bay b).faults.list, x.cls = .info → x.state = .clearPending) ∧
            (old.state ≠ .stored → ∀ x ∈ (s.bay b).faults.list, x.cls = old.cls → x.state ≠ .stored) ∧
            ((offer b o s).1.bay b).faults.list.length = (s.bay b).faults.list.length ∧
            (offer b o s).1.freeCount = s.freeCount ∧ announced .faultNew b (offer b o s).1) ∧
          ((∀ x ∈ (s.bay b).faults.list,
              x.cls = .blocking ∨ x.state = .clearPending ∨ (x.cls = .advisory ∧ o.cls = .info)) →
            (offer b o s).2 = .refused ∧
              ((offer b o s).1.bay b).faults = { (s.bay b).faults with incomplete := true, refusal := true }))

/-- Out of reset, for a bay whose stuck watch has counted one poll and which reports more contactors closed than
commanded: the stuck mark is set, the watch ends and EQUIPMENT is posted; an ARRIVING or PRESENT bay has a BAY entry
of code 1 in its list, or INCOMPLETE set where the list could not take it; in any other occupancy the fault list
stays; a CLEARED clearance is REVOKED; no occupancy record changes. That STUCK_CONTACTOR stands for the second poll,
with no time passing, is the model's choice (log entry 5). (Rests on R66, R123, R161.) -/
def Obligations.StuckContactorIsMarkedAndRecorded : Prop :=
  ∀ (b : Bay) (s : State), s.inReset = false → (s.bay b).power.watch = some 1 →
    (s.bay b).power.commanded < (s.bay b).power.closed →
    ∃ t, exec (.stuckContactor b) s = .next t ∧
      (t.bay b).power = { (s.bay b).power with stuck := true, watch := none } ∧ announced .equipment b t ∧
        (occupied s b = true → (findEntry t b 15 1).isSome = true ∨ (t.bay b).faults.incomplete = true) ∧
        (occupied s b = false → (t.bay b).faults = (s.bay b).faults) ∧
        ((s.bay b).clear.state = .cleared → (t.bay b).clear.state = .revoked) ∧ t.time = s.time ∧
        (∀ x : Bay, (t.bay x).table = (s.bay x).table) ∧ ∀ x : Bay, x ≠ b → t.bay x = s.bay x

/-- Out of reset. With a free slot and a head whose plan has steps, the head leaves the queue for the lowest free slot:
where 8 units fit in ER its check is RUNNING with its reservation granted and its lamp-step hold set, else it is
WAITING_POWER and its slot waits. A waiting slot whose 8 units fit, with a step at its index, is granted at the end of
the list: the check is RUNNING, the slot no longer waits and is in that step, the hold and the lit mark are set, and a
reachable bay has its LAMP_SAMPLE pending. (Rests on R54, R100, R101, R103.) -/
def Obligations.LampSlotIsTakenAndItsCheckRuns : Prop :=
  ∀ (b : Bay) (rest : List Bay) (i : Fin 4) (c : Slot) (st : LampStep) (s : State), s.inReset = false →
    (s.lampQueue = b :: rest → freeSlotIn s = some i → planOf s (checkPlan s b) ≠ [] →
      ∃ t, exec .lampSlotTaken s = .next t ∧
        t.lampQueue = rest ∧ (t.slots[i]).map Slot.bay = some b ∧ (t.bay b).lamp.slot = some i ∧
          (reservedAmount s + 8 ≤ effectiveReserve s →
            (t.bay b).lamp.check = .running ∧
              t.supply.reservations = s.supply.reservations ++ [{ holder := .slot i, bay := b }] ∧
              (t.bay b).power.stepHold = true) ∧
          (effectiveReserve s < reservedAmount s + 8 →
            (t.bay b).lamp.check = .waitingPower ∧ waits t (.slot i) = true ∧
              t.supply.reservations = s.supply.reservations) ∧
          ∀ x : Bay, (t.bay x).table = (s.bay x).table ∧ (t.bay x).clear = (s.bay x).clear) ∧
      (waits s (.slot i) = true → reservedAmount s + 8 ≤ effectiveReserve s → s.slots[i] = some c →
        (planOf s c.plan)[c.stepIndex]? = some st →
        ∃ t, exec (.lampCheckRunning i) s = .next t ∧
          (t.bay c.bay).lamp.check = .running ∧ waits t (.slot i) = false ∧
            t.supply.reservations = s.supply.reservations ++ [{ holder := .slot i, bay := c.bay }] ∧
            (t.slots[i]).map Slot.phase = some .sampling ∧ (t.slots[i]).map Slot.step = some (some st) ∧
            (t.bay c.bay).power.stepHold = true ∧ (t.bay c.bay).lamp.lit = true ∧
            (reachable s c.bay = true →
              (laneOf t c.bay .lamp).queued = some (newEntry (.lampSample st.circuit st.settle) s.time)) ∧
            ∀ x : Bay, (t.bay x).table = (s.bay x).table ∧ (t.bay x).clear = (s.bay x).clear)

/-- Out of reset. When a slot in a step has its next sample due, its LAMP_SAMPLE is pending with its age then and the
moment it was asked is kept; where the bay cannot be reached the next is due 200 ms later. When a bay with the lit
mark and no slot has its LAMP_OFF due again, it is pending, and where the bay cannot be reached it is due again 10 s
later. (Rests on R42, R104, R113.) -/
def Obligations.LampTimersAskTheNextSampleAndTheNextLampOff : Prop :=
  ∀ (b : Bay) (i : Fin 4) (c : Slot) (st : LampStep) (m : Nat) (s : State), s.inReset = false →
    (s.slots[i] = some c → c.phase = .sampling → c.step = some st → c.nextAt = some m →
      ∃ t, exec (.lampSampleInterval i) s = .next t ∧
        t.time = max s.time m ∧
          t.slots = s.slots.set i
            (some { c with
              askedAt := t.time
              nextAt := if reachable s c.bay then none else some (t.time + 200000) }) ∧
          (t.bay c.bay).lamp = { (s.bay c.bay).lamp with lit := true } ∧
          (reachable s c.bay = true →
            (laneOf t c.bay .lamp).queued = some (newEntry (.lampSample st.circuit st.settle) t.time)) ∧
          ∀ x : Bay, x ≠ c.bay → t.bay x = s.bay x) ∧
      ((s.bay b).lamp.lit = true → (s.bay b).lamp.slot = none → (s.bay b).lamp.offRetryAt = some m →
        ∃ t, exec (.lampOffRetry b) s = .next t ∧
          t.time = max s.time m ∧
            (reachable s b = true →
              (t.bay b).lamp = { (s.bay b).lamp with offRetryAt := none } ∧
                (laneOf t b .lamp).queued = some (newEntry .lampOff t.time)) ∧
            (reachable s b = false →
              (t.bay b).lamp = { (s.bay b).lamp with offRetryAt := some (t.time + 10000000) } ∧
                (t.bay b).loop = (s.bay b).loop) ∧
            ∀ x : Bay, x ≠ b → t.bay x = s.bay x)

/-- Out of reset. With no visit and no reader reservation, and 6 units that fit in ER, the head leaves the reader queue
and is visited in its wake phase with the present record budget, the reservation joins the end of the list naming it,
the reader waits no longer, the bay is READING where identity or a pass is wanted, and a reachable bay has WAKE
pending. The end of a visit's settle time lets the next good poll judge the wake, and changes nothing else. (Rests on
R54, R136, R137, R144.) -/
def Obligations.VisitBeginsWithTheHeadOfTheQueue : Prop :=
  ∀ (b : Bay) (rest : List Bay) (v : Visit) (m : Nat) (s : State), s.inReset = false →
    (s.readerQueue = b :: rest → s.visit = none → holdsReservation s .reader = false →
      reservedAmount s + 6 ≤ effectiveReserve s →
      ∃ t, exec .visitBegin s = .next t ∧
        t.readerQueue = rest ∧
          t.visit = some
            { bay := b, phase := .wake, budget := s.settings.recordBudget, fetches := 0, settleUntil := none,
              failed := false, suspended := false } ∧
          t.supply.reservations = s.supply.reservations ++ [{ holder := .reader, bay := b }] ∧
          waits t .reader = false ∧
          (t.bay b).reader =
            { (s.bay b).reader with
              state :=
                if (s.bay b).reader.identityWanted || (s.bay b).reader.passWanted then .reading
                else (s.bay b).reader.state } ∧
          (reachable s b = true → (laneOf t b .reader).queued = some (newEntry .wake s.time)) ∧
          (t.bay b).table = (s.bay b).table ∧ (t.bay b).faults = (s.bay b).faults ∧
          (t.bay b).clear = (s.bay b).clear ∧ t.ports = s.ports ∧ ∀ x : Bay, x ≠ b → t.bay x = s.bay x) ∧
      (s.visit = some v → v.phase = .settle → v.settleUntil = some m →
        exec .wakeSettleEnd s =
          .next { s with time := max s.time m, visit := some { v with settleUntil := none } })

/-- Out of reset. When a visit that failed ends, with its SLEEP on the line and time for its OK reply, as the third in a
row of its bay, the count is 0, nothing is wanted, no clear is pending, the reader is FAILED where a read was wanted,
and an ARRIVING bay whose identity was wanted is PRESENT with IDENTIFIED posted. When the pool has room, every
suspended bay joins the reader queue or is visited, and the suspended list is empty; fault lists and occupancy records
stay. That FAILED_VISITS_LIMIT stands for the OK reply of that SLEEP, and READER_RESUME comes while the free count is
above 0, is log entry 5; that a failure is counted as its visit ends is log entry 16: the model's choices. (Rests on
R8, R138, R140, R144, R145.) -/
def Obligations.ReaderGivesUpAfterThreeVisitsAndResumesOnRoom : Prop :=
  ∀ (v : Visit) (l : OnLine) (s : State), s.inReset = false →
    (s.visit = some v → v.failed = true → v.phase = .sleep → (s.bay v.bay).reader.failedVisits = 2 →
      s.line = some l → l.bay = v.bay → l.entry.req = .sleep → l.entry.wanted = true → l.quietUntil = none →
      max s.time (l.sentEnd + 240) ≤ l.sentEnd + 8000 →
      ∃ t, exec .failedVisitsLimit s = .next t ∧
        (t.bay v.bay).reader.failedVisits = 0 ∧ (t.bay v.bay).reader.identityWanted = false ∧
          (t.bay v.bay).reader.passWanted = false ∧ (t.bay v.bay).reader.clears = [] ∧
          ((s.bay v.bay).reader.identityWanted = true ∨ (s.bay v.bay).reader.passWanted = true →
            (t.bay v.bay).reader.state = .failed) ∧
          ((s.bay v.bay).reader.identityWanted = true → (s.bay v.bay).table.occ = .arriving →
            (t.bay v.bay).table.occ = .present ∧ (t.bay v.bay).table.identity = none ∧
              announced .identified v.bay t)) ∧
      (0 < s.freeCount → ∃ t, exec .readerResume s = .next t ∧
        t.suspended = [] ∧ (∀ b ∈ s.suspended, b ∈ t.readerQueue ∨ visiting t b = true) ∧
          t.freeCount = s.freeCount ∧
          ∀ x : Bay, (t.bay x).table = (s.bay x).table ∧ (t.bay x).faults = (s.bay x).faults)

/-- Out of reset. A release whose stop limit of 30 s runs out in STOPPING_HEAT is REVOKED with EQUIPMENT among its
reasons, its stuck mark set, EQUIPMENT posted, and a BAY entry of code 1 in its list or INCOMPLETE set; one whose
latch limit of 30 s runs out in UNLATCHING is REVOKED with EQUIPMENT, EQUIPMENT posted; one whose window runs out in
RELEASED is LAPSED with RELEASE_LAPSED. In each of them the substep, all three timers and the waive and open asked
marks are gone, CLEARANCE is posted, and where the latch may be open and the bay can be reached the relatch mark is
set and LATCH(close) pending. A refused relatch that is due is asked again, its mark lost where the bay cannot be
reached. A CLEARED bay whose validity runs out is LAPSED with VALIDITY, and nothing else changes. A good poll with no
contactor closed in STOPPING_HEAT asks LATCH(open): UNLATCHING, open asked, no relatch. Its OK starts the latch limit,
REFUSED ends the release REVOKED with EQUIPMENT, and FAILED asks it again, or stops the heat again with a fresh limit
where contactors are closed. A good poll with the latch OPEN while the limit runs makes it RELEASED, its window from
now, CLEARANCE posted. LATCH(close) OK ends the relatch; REFUSED is asked again after 10 s, EQUIPMENT posted the first
time. A turnaround of 0 is the model's choice (log entry 8). (Rests on R36, R160, R163, R164, R165, R166, R167, R168.) -/
def Obligations.ReleaseTimersAndLatchOutcomesMoveTheRelease : Prop :=
  ∀ (b : Bay) (m : Nat) (l : OnLine) (bytes : List Byte) (r : PollReply) (s : State), s.inReset = false →
    ((s.bay b).clear.state = .releasing → (s.bay b).clear.substep = some .stoppingHeat →
      (s.bay b).clear.stopFrom = some m →
      ∃ t, exec (.stopLimitExpiry b) s = .next t ∧
        t.time = max s.time (m + 30000000) ∧ (t.bay b).clear.state = .revoked ∧
          (t.bay b).clear.reasons &&& only .equipment = only .equipment ∧ releaseOver (t.bay b).clear ∧
          (t.bay b).power.stuck = true ∧ announced .equipment b t ∧ announced .clearance b t ∧
          ((findEntry t b 15 1).isSome = true ∨ (t.bay b).faults.incomplete = true) ∧
          ((s.bay b).clear.openAsked = true → reachable s b = true →
            (t.bay b).clear.relatch = true ∧ closePending t b = true) ∧
          ∀ x : Bay, (t.bay x).table = (s.bay x).table) ∧
      ((s.bay b).clear.state = .releasing → (s.bay b).clear.substep = some .unlatching →
        (s.bay b).clear.latchFrom = some m →
        ∃ t, exec (.latchLimitExpiry b) s = .next t ∧
          t.time = max s.time (m + 30000000) ∧ (t.bay b).clear.state = .revoked ∧
            (t.bay b).clear.reasons = only .equipment ∧ releaseOver (t.bay b).clear ∧
            announced .equipment b t ∧ announced .clearance b t ∧
            ((s.bay b).clear.openAsked = true → reachable s b = true →
              (t.bay b).clear.relatch = true ∧ closePending t b = true) ∧
            ∀ x : Bay, (t.bay x).table = (s.bay x).table ∧ (t.bay x).faults = (s.bay x).faults) ∧
      ((s.bay b).clear.state = .released → (s.bay b).clear.windowFrom = some m →
        ∃ t, exec (.releaseWindowExpiry b) s = .next t ∧
          t.time = max s.time (m + s.settings.releaseWindow * 1000000) ∧ (t.bay b).clear.state = .lapsed ∧
            (t.bay b).clear.reasons = only .releaseLapsed ∧ releaseOver (t.bay b).clear ∧
            announced .clearance b t ∧
            (reachable s b = true → (t.bay b).clear.relatch = true ∧ closePending t b = true) ∧
            ∀ x : Bay, (t.bay x).table = (s.bay x).table ∧ (t.bay x).faults = (s.bay x).faults) ∧
      ((s.bay b).clear.relatch = true → (s.bay b).clear.relatchAt = some m →
        ∃ t, exec (.relatchRetry b) s = .next t ∧
          t.time = max s.time m ∧ (t.bay b).clear.relatchAt = none ∧
            (t.bay b).clear.relatch = reachable s b ∧ (reachable s b = true → closePending t b = true) ∧
            t.ports = s.ports ∧ ∀ x : Bay, x ≠ b → t.bay x = s.bay x) ∧
      ((s.bay b).clear.state = .cleared → (s.bay b).clear.validityFrom = some m →
        exec (.clearanceValidityExpiry b) s =
          .next (post .clearance b
            (updClear b
              (fun c => { c with state := .lapsed, reasons := only .validity, validityFrom := none })
              { s with time := max s.time (m + s.settings.clearanceValidity * 60000000) }))) ∧
      (replies l bytes (.ok (.poll r)) s → l.entry.req = .poll → (s.bay l.bay).table.occ = .present →
        r.plug = .in_ → (s.bay l.bay).clear.state = .releasing →
        ((s.bay l.bay).clear.substep = some .stoppingHeat → (s.bay l.bay).clear.latchFrom = none → r.closed = 0 →
          ∃ t, exec (.replyTaken bytes) s = .next t ∧
            (t.bay l.bay).clear =
                { (s.bay l.bay).clear with
                  substep := some .unlatching, stopFrom := none, openAsked := true, relatch := false,
                  relatchAt := none } ∧
              openPending t l.bay = true) ∧
          ((s.bay l.bay).clear.substep = some .unlatching → (s.bay l.bay).clear.latchFrom = some m →
            r.latch = .open_ → r.closed = 0 ∨ openPending s l.bay = false →
            ∃ t, exec (.replyTaken bytes) s = .next t ∧
              (t.bay l.bay).clear =
                  { (s.bay l.bay).clear with
                    state := .released, substep := none, latchFrom := none, windowFrom := some t.time } ∧
                announced .clearance l.bay t)) ∧
      (l.entry.req = .latch true → l.entry.wanted = true → (s.bay l.bay).clear.state = .releasing →
        (s.bay l.bay).clear.substep = some .unlatching →
        (replies l bytes (.ok .nothing) s →
          exec (.replyTaken bytes) s =
            .next (updClear l.bay (fun c => { c with latchFrom := some (heardAt l bytes s) })
              (replyEnded l bytes s))) ∧
          (replies l bytes .refused s →
            ∃ t, exec (.replyTaken bytes) s = .next t ∧
              (t.bay l.bay).clear.state = .revoked ∧ (t.bay l.bay).clear.reasons = only .equipment ∧
                releaseOver (t.bay l.bay).clear ∧ announced .equipment l.bay t ∧ announced .clearance l.bay t ∧
                (t.bay l.bay).table = (s.bay l.bay).table) ∧
          (lastAttempt l s → (s.bay l.bay).power.closed = 0 →
            ∃ t, exec .replyTimeout s = .next t ∧
              openPending t l.bay = true ∧ (t.bay l.bay).clear.openAsked = true ∧
                (t.bay l.bay).clear.substep = some .unlatching) ∧
          (lastAttempt l s → 0 < (s.bay l.bay).power.closed →
            ∃ t, exec .replyTimeout s = .next t ∧
              (t.bay l.bay).clear =
                { (s.bay l.bay).clear with
                  substep := some .stoppingHeat, stopFrom := some t.time, latchFrom := none })) ∧
      (l.entry.req = .latch false → (s.bay l.bay).clear.relatch = true →
        (replies l bytes (.ok .nothing) s →
          exec (.replyTaken bytes) s =
            .next (updClear l.bay (fun c => { c with relatch := false, relatchAt := none })
              (replyEnded l bytes s))) ∧
          (replies l bytes .refused s →
            exec (.replyTaken bytes) s =
              .next (onlyIf (!(s.bay l.bay).clear.relatchRefused) (post .equipment l.bay)
                (updClear l.bay
                  (fun c => { c with
                    relatchRefused := true, relatchAt := some (heardAt l bytes s + 10000000) })
                  (replyEnded l bytes s)))))

/-- From every state that meets the pool's law, a step leaves a state that meets it: the free count and the lengths of the
32 lists make 512, no list is longer than its quota of 4 to 64 or holds a source and code twice, every entry has a
source up to 15 and 1 to 255 occurrences, and the low flag is set just while 32 or fewer entries are free. (Rests on
R114, R115, R116, R117, R126.) -/
def Obligations.StepKeepsThePoolLaw : Prop :=
  ∀ (s t : State), Inv.pool s → step s = .next t → Inv.pool t

/-- From every state in which the departure list is in strict order by minute and bay and holds just the bays with a
departure record, each at its record's minute, a step leaves such a state. (Rests on R21, R22, R23, R24.) -/
def Obligations.StepKeepsTheDepartureList : Prop :=
  ∀ (s t : State), Inv.departures s → step s = .next t → Inv.departures t

/-- From every state in which the granted reservations do not exceed the effective reserve and no bay is commanded above
its grant or granted above its demand, a step leaves such a state: the part never asks more stages of a bay than it
has granted. (Rests on R52, R54, R56, R58, R60, R61.) -/
def Obligations.StepKeepsTheSupplyBooks : Prop :=
  ∀ (s t : State), Inv.supply s → step s = .next t → Inv.supply t

/-- From every state in which each bay's record agrees with its occupancy, a step leaves such a state: an occupancy before
loss just in LOST, and one of VACANT, ARRIVING, PRESENT; the recovery mark only in ARRIVING; a plug count below the
mark; the lamp plan number as override and identity give it where a coach is held and absent elsewhere; a failure
count up to 2 and 0 where the bay cannot be reached; and, where no coach is held, no identity, no profile, an IDLE
clearance and no hold. (Rests on R1, R12, R13, R16, R20, R36, R157.) -/
def Obligations.StepKeepsTheBayRecords : Prop :=
  ∀ (s t : State), Inv.occupancy s → step s = .next t → Inv.occupancy t

/-- From every state that meets the laws of the bay records and of the clearance records, a step leaves a state that meets
the latter: substep and stop limit, latch limit, window and validity run just in the states they belong to, reasons
stand just in REFUSED, REVOKED and LAPSED, the hold list has up to 4 holds of distinct tags, and a bay that is
CLEARED, RELEASING or RELEASED is PRESENT. (Rests on R152, R154, R159, R160, R163, R164, R167, R169, R170.) -/
def Obligations.StepKeepsTheClearanceRecords : Prop :=
  ∀ (s t : State), Inv.occupancy s → Inv.clearance s → step s = .next t → Inv.clearance t

/-- From every state that meets the laws of the bay and clearance records and in which a LATCH(open) is pending, waiting
out a BUSY, or wanted on the line only for a bay that is RELEASING in UNLATCHING with no contactor reported closed, a
step leaves such a state. (Rests on R164, R165, R166, R170.) -/
def Obligations.StepKeepsTheLatchShutOnClosedContactors : Prop :=
  ∀ (s t : State), Inv.occupancy s → Inv.clearance s → Inv.latch s → step s = .next t → Inv.latch t

/-- From every state in which the lamp queue holds just the bays whose check is QUEUED, each once, a slot and the bay
whose check it holds name each other, and a bay holds a slot just while its check is WAITING_POWER or RUNNING, a step
leaves such a state. (Rests on R98, R99, R100, R101, R111.) -/
def Obligations.StepKeepsTheLampQueueAndSlots : Prop :=
  ∀ (s t : State), Inv.lamps s → step s = .next t → Inv.lamps t
end

