-- ==== Sys2Proof/Laws/State.lean ====
section
/-! SUPPORT. One lemma per field for each plain update of the state, so that no proof unfolds a record update, and what an
update of one bay or one port leaves in it and in the others. -/

namespace Sys2Proof.Machine

/-! ### Bays -/

/-- The record of the bay that an update names, and of every other bay. -/
theorem updBay_bay (b x : Bay) (f : BayRec → BayRec) (s : State) :
    (updBay b f s).bay x = if x = b then f (s.bay b) else s.bay x := by
  unfold updBay State.bay
  by_cases h : x = b
  · subst h; simp
  · rw [if_neg h]
    have h' : b.val ≠ x.val := fun e => h (Fin.ext e.symm)
    exact Vector.getElem_set_ne (Fin.isLt _) (Fin.isLt _) h'

@[simp] theorem updBay_bay_self (b : Bay) (f : BayRec → BayRec) (s : State) :
    (updBay b f s).bay b = f (s.bay b) := by simp [updBay_bay]

theorem updBay_bay_ne {b x : Bay} (h : x ≠ b) (f : BayRec → BayRec) (s : State) :
    (updBay b f s).bay x = s.bay x := by simp [updBay_bay, h]

section
variable (b : Bay) (f : BayRec → BayRec) (s : State)
@[simp] theorem updBay_time : (updBay b f s).time = s.time := rfl
@[simp] theorem updBay_lastSecond : (updBay b f s).lastSecond = s.lastSecond := rfl
@[simp] theorem updBay_inReset : (updBay b f s).inReset = s.inReset := rfl
@[simp] theorem updBay_shedLine : (updBay b f s).shedLine = s.shedLine := rfl
@[simp] theorem updBay_clock : (updBay b f s).clock = s.clock := rfl
@[simp] theorem updBay_supply : (updBay b f s).supply = s.supply := rfl
@[simp] theorem updBay_settings : (updBay b f s).settings = s.settings := rfl
@[simp] theorem updBay_outside : (updBay b f s).outside = s.outside := rfl
@[simp] theorem updBay_profiles : (updBay b f s).profiles = s.profiles := rfl
@[simp] theorem updBay_lampPlans : (updBay b f s).lampPlans = s.lampPlans := rfl
@[simp] theorem updBay_lampQueue : (updBay b f s).lampQueue = s.lampQueue := rfl
@[simp] theorem updBay_slots : (updBay b f s).slots = s.slots := rfl
@[simp] theorem updBay_freeCount : (updBay b f s).freeCount = s.freeCount := rfl
@[simp] theorem updBay_lowFlag : (updBay b f s).lowFlag = s.lowFlag := rfl
@[simp] theorem updBay_readerQueue : (updBay b f s).readerQueue = s.readerQueue := rfl
@[simp] theorem updBay_suspended : (updBay b f s).suspended = s.suspended := rfl
@[simp] theorem updBay_visit : (updBay b f s).visit = s.visit := rfl
@[simp] theorem updBay_departures : (updBay b f s).departures = s.departures := rfl
@[simp] theorem updBay_departuresRevision : (updBay b f s).departuresRevision = s.departuresRevision := rfl
@[simp] theorem updBay_line : (updBay b f s).line = s.line := rfl
@[simp] theorem updBay_ports : (updBay b f s).ports = s.ports := rfl
@[simp] theorem updBay_pending : (updBay b f s).pending = s.pending := rfl
end

theorem updTable_bay (b x : Bay) (f : TableRec → TableRec) (s : State) :
    (updTable b f s).bay x = if x = b then { s.bay b with table := f (s.bay b).table } else s.bay x :=
  updBay_bay b x _ s

@[simp] theorem updTable_bay_self (b : Bay) (f : TableRec → TableRec) (s : State) :
    (updTable b f s).bay b = { s.bay b with table := f (s.bay b).table } := updBay_bay_self b _ s

theorem updTable_bay_ne {b x : Bay} (h : x ≠ b) (f : TableRec → TableRec) (s : State) :
    (updTable b f s).bay x = s.bay x := updBay_bay_ne h _ s

@[simp] theorem updTable_heat (b x : Bay) (f : TableRec → TableRec) (s : State) :
    ((updTable b f s).bay x).heat = (s.bay x).heat := by rw [updTable_bay]; split <;> simp_all
@[simp] theorem updTable_power (b x : Bay) (f : TableRec → TableRec) (s : State) :
    ((updTable b f s).bay x).power = (s.bay x).power := by rw [updTable_bay]; split <;> simp_all
@[simp] theorem updTable_lamp (b x : Bay) (f : TableRec → TableRec) (s : State) :
    ((updTable b f s).bay x).lamp = (s.bay x).lamp := by rw [updTable_bay]; split <;> simp_all
@[simp] theorem updTable_faults (b x : Bay) (f : TableRec → TableRec) (s : State) :
    ((updTable b f s).bay x).faults = (s.bay x).faults := by rw [updTable_bay]; split <;> simp_all
@[simp] theorem updTable_reader (b x : Bay) (f : TableRec → TableRec) (s : State) :
    ((updTable b f s).bay x).reader = (s.bay x).reader := by rw [updTable_bay]; split <;> simp_all
@[simp] theorem updTable_clear (b x : Bay) (f : TableRec → TableRec) (s : State) :
    ((updTable b f s).bay x).clear = (s.bay x).clear := by rw [updTable_bay]; split <;> simp_all
@[simp] theorem updTable_loop (b x : Bay) (f : TableRec → TableRec) (s : State) :
    ((updTable b f s).bay x).loop = (s.bay x).loop := by rw [updTable_bay]; split <;> simp_all

section
variable (b : Bay) (f : TableRec → TableRec) (s : State)
@[simp] theorem updTable_time : (updTable b f s).time = s.time := rfl
@[simp] theorem updTable_lastSecond : (updTable b f s).lastSecond = s.lastSecond := rfl
@[simp] theorem updTable_inReset : (updTable b f s).inReset = s.inReset := rfl
@[simp] theorem updTable_shedLine : (updTable b f s).shedLine = s.shedLine := rfl
@[simp] theorem updTable_clock : (updTable b f s).clock = s.clock := rfl
@[simp] theorem updTable_supply : (updTable b f s).supply = s.supply := rfl
@[simp] theorem updTable_settings : (updTable b f s).settings = s.settings := rfl
@[simp] theorem updTable_outside : (updTable b f s).outside = s.outside := rfl
@[simp] theorem updTable_profiles : (updTable b f s).profiles = s.profiles := rfl
@[simp] theorem updTable_lampPlans : (updTable b f s).lampPlans = s.lampPlans := rfl
@[simp] theorem updTable_lampQueue : (updTable b f s).lampQueue = s.lampQueue := rfl
@[simp] theorem updTable_slots : (updTable b f s).slots = s.slots := rfl
@[simp] theorem updTable_freeCount : (updTable b f s).freeCount = s.freeCount := rfl
@[simp] theorem updTable_lowFlag : (updTable b f s).lowFlag = s.lowFlag := rfl
@[simp] theorem updTable_readerQueue : (updTable b f s).readerQueue = s.readerQueue := rfl
@[simp] theorem updTable_suspended : (updTable b f s).suspended = s.suspended := rfl
@[simp] theorem updTable_visit : (updTable b f s).visit = s.visit := rfl
@[simp] theorem updTable_departures : (updTable b f s).departures = s.departures := rfl
@[simp] theorem updTable_departuresRevision : (updTable b f s).departuresRevision = s.departuresRevision := rfl
@[simp] theorem updTable_line : (updTable b f s).line = s.line := rfl
@[simp] theorem updTable_ports : (updTable b f s).ports = s.ports := rfl
@[simp] theorem updTable_pending : (updTable b f s).pending = s.pending := rfl
end

theorem updHeat_bay (b x : Bay) (f : HeatRec → HeatRec) (s : State) :
    (updHeat b f s).bay x = if x = b then { s.bay b with heat := f (s.bay b).heat } else s.bay x :=
  updBay_bay b x _ s

@[simp] theorem updHeat_bay_self (b : Bay) (f : HeatRec → HeatRec) (s : State) :
    (updHeat b f s).bay b = { s.bay b with heat := f (s.bay b).heat } := updBay_bay_self b _ s

theorem updHeat_bay_ne {b x : Bay} (h : x ≠ b) (f : HeatRec → HeatRec) (s : State) :
    (updHeat b f s).bay x = s.bay x := updBay_bay_ne h _ s

@[simp] theorem updHeat_table (b x : Bay) (f : HeatRec → HeatRec) (s : State) :
    ((updHeat b f s).bay x).table = (s.bay x).table := by rw [updHeat_bay]; split <;> simp_all
@[simp] theorem updHeat_power (b x : Bay) (f : HeatRec → HeatRec) (s : State) :
    ((updHeat b f s).bay x).power = (s.bay x).power := by rw [updHeat_bay]; split <;> simp_all
@[simp] theorem updHeat_lamp (b x : Bay) (f : HeatRec → HeatRec) (s : State) :
    ((updHeat b f s).bay x).lamp = (s.bay x).lamp := by rw [updHeat_bay]; split <;> simp_all
@[simp] theorem updHeat_faults (b x : Bay) (f : HeatRec → HeatRec) (s : State) :
    ((updHeat b f s).bay x).faults = (s.bay x).faults := by rw [updHeat_bay]; split <;> simp_all
@[simp] theorem updHeat_reader (b x : Bay) (f : HeatRec → HeatRec) (s : State) :
    ((updHeat b f s).bay x).reader = (s.bay x).reader := by rw [updHeat_bay]; split <;> simp_all
@[simp] theorem updHeat_clear (b x : Bay) (f : HeatRec → HeatRec) (s : State) :
    ((updHeat b f s).bay x).clear = (s.bay x).clear := by rw [updHeat_bay]; split <;> simp_all
@[simp] theorem updHeat_loop (b x : Bay) (f : HeatRec → HeatRec) (s : State) :
    ((updHeat b f s).bay x).loop = (s.bay x).loop := by rw [updHeat_bay]; split <;> simp_all

section
variable (b : Bay) (f : HeatRec → HeatRec) (s : State)
@[simp] theorem updHeat_time : (updHeat b f s).time = s.time := rfl
@[simp] theorem updHeat_lastSecond : (updHeat b f s).lastSecond = s.lastSecond := rfl
@[simp] theorem updHeat_inReset : (updHeat b f s).inReset = s.inReset := rfl
@[simp] theorem updHeat_shedLine : (updHeat b f s).shedLine = s.shedLine := rfl
@[simp] theorem updHeat_clock : (updHeat b f s).clock = s.clock := rfl
@[simp] theorem updHeat_supply : (updHeat b f s).supply = s.supply := rfl
@[simp] theorem updHeat_settings : (updHeat b f s).settings = s.settings := rfl
@[simp] theorem updHeat_outside : (updHeat b f s).outside = s.outside := rfl
@[simp] theorem updHeat_profiles : (updHeat b f s).profiles = s.profiles := rfl
@[simp] theorem updHeat_lampPlans : (updHeat b f s).lampPlans = s.lampPlans := rfl
@[simp] theorem updHeat_lampQueue : (updHeat b f s).lampQueue = s.lampQueue := rfl
@[simp] theorem updHeat_slots : (updHeat b f s).slots = s.slots := rfl
@[simp] theorem updHeat_freeCount : (updHeat b f s).freeCount = s.freeCount := rfl
@[simp] theorem updHeat_lowFlag : (updHeat b f s).lowFlag = s.lowFlag := rfl
@[simp] theorem updHeat_readerQueue : (updHeat b f s).readerQueue = s.readerQueue := rfl
@[simp] theorem updHeat_suspended : (updHeat b f s).suspended = s.suspended := rfl
@[simp] theorem updHeat_visit : (updHeat b f s).visit = s.visit := rfl
@[simp] theorem updHeat_departures : (updHeat b f s).departures = s.departures := rfl
@[simp] theorem updHeat_departuresRevision : (updHeat b f s).departuresRevision = s.departuresRevision := rfl
@[simp] theorem updHeat_line : (updHeat b f s).line = s.line := rfl
@[simp] theorem updHeat_ports : (updHeat b f s).ports = s.ports := rfl
@[simp] theorem updHeat_pending : (updHeat b f s).pending = s.pending := rfl
end

theorem updPower_bay (b x : Bay) (f : PowerRec → PowerRec) (s : State) :
    (updPower b f s).bay x = if x = b then { s.bay b with power := f (s.bay b).power } else s.bay x :=
  updBay_bay b x _ s

@[simp] theorem updPower_bay_self (b : Bay) (f : PowerRec → PowerRec) (s : State) :
    (updPower b f s).bay b = { s.bay b with power := f (s.bay b).power } := updBay_bay_self b _ s

theorem updPower_bay_ne {b x : Bay} (h : x ≠ b) (f : PowerRec → PowerRec) (s : State) :
    (updPower b f s).bay x = s.bay x := updBay_bay_ne h _ s

@[simp] theorem updPower_table (b x : Bay) (f : PowerRec → PowerRec) (s : State) :
    ((updPower b f s).bay x).table = (s.bay x).table := by rw [updPower_bay]; split <;> simp_all
@[simp] theorem updPower_heat (b x : Bay) (f : PowerRec → PowerRec) (s : State) :
    ((updPower b f s).bay x).heat = (s.bay x).heat := by rw [updPower_bay]; split <;> simp_all
@[simp] theorem updPower_lamp (b x : Bay) (f : PowerRec → PowerRec) (s : State) :
    ((updPower b f s).bay x).lamp = (s.bay x).lamp := by rw [updPower_bay]; split <;> simp_all
@[simp] theorem updPower_faults (b x : Bay) (f : PowerRec → PowerRec) (s : State) :
    ((updPower b f s).bay x).faults = (s.bay x).faults := by rw [updPower_bay]; split <;> simp_all
@[simp] theorem updPower_reader (b x : Bay) (f : PowerRec → PowerRec) (s : State) :
    ((updPower b f s).bay x).reader = (s.bay x).reader := by rw [updPower_bay]; split <;> simp_all
@[simp] theorem updPower_clear (b x : Bay) (f : PowerRec → PowerRec) (s : State) :
    ((updPower b f s).bay x).clear = (s.bay x).clear := by rw [updPower_bay]; split <;> simp_all
@[simp] theorem updPower_loop (b x : Bay) (f : PowerRec → PowerRec) (s : State) :
    ((updPower b f s).bay x).loop = (s.bay x).loop := by rw [updPower_bay]; split <;> simp_all

section
variable (b : Bay) (f : PowerRec → PowerRec) (s : State)
@[simp] theorem updPower_time : (updPower b f s).time = s.time := rfl
@[simp] theorem updPower_lastSecond : (updPower b f s).lastSecond = s.lastSecond := rfl
@[simp] theorem updPower_inReset : (updPower b f s).inReset = s.inReset := rfl
@[simp] theorem updPower_shedLine : (updPower b f s).shedLine = s.shedLine := rfl
@[simp] theorem updPower_clock : (updPower b f s).clock = s.clock := rfl
@[simp] theorem updPower_supply : (updPower b f s).supply = s.supply := rfl
@[simp] theorem updPower_settings : (updPower b f s).settings = s.settings := rfl
@[simp] theorem updPower_outside : (updPower b f s).outside = s.outside := rfl
@[simp] theorem updPower_profiles : (updPower b f s).profiles = s.profiles := rfl
@[simp] theorem updPower_lampPlans : (updPower b f s).lampPlans = s.lampPlans := rfl
@[simp] theorem updPower_lampQueue : (updPower b f s).lampQueue = s.lampQueue := rfl
@[simp] theorem updPower_slots : (updPower b f s).slots = s.slots := rfl
@[simp] theorem updPower_freeCount : (updPower b f s).freeCount = s.freeCount := rfl
@[simp] theorem updPower_lowFlag : (updPower b f s).lowFlag = s.lowFlag := rfl
@[simp] theorem updPower_readerQueue : (updPower b f s).readerQueue = s.readerQueue := rfl
@[simp] theorem updPower_suspended : (updPower b f s).suspended = s.suspended := rfl
@[simp] theorem updPower_visit : (updPower b f s).visit = s.visit := rfl
@[simp] theorem updPower_departures : (updPower b f s).departures = s.departures := rfl
@[simp] theorem updPower_departuresRevision : (updPower b f s).departuresRevision = s.departuresRevision := rfl
@[simp] theorem updPower_line : (updPower b f s).line = s.line := rfl
@[simp] theorem updPower_ports : (updPower b f s).ports = s.ports := rfl
@[simp] theorem updPower_pending : (updPower b f s).pending = s.pending := rfl
end

theorem updLamp_bay (b x : Bay) (f : LampRec → LampRec) (s : State) :
    (updLamp b f s).bay x = if x = b then { s.bay b with lamp := f (s.bay b).lamp } else s.bay x :=
  updBay_bay b x _ s

@[simp] theorem updLamp_bay_self (b : Bay) (f : LampRec → LampRec) (s : State) :
    (updLamp b f s).bay b = { s.bay b with lamp := f (s.bay b).lamp } := updBay_bay_self b _ s

theorem updLamp_bay_ne {b x : Bay} (h : x ≠ b) (f : LampRec → LampRec) (s : State) :
    (updLamp b f s).bay x = s.bay x := updBay_bay_ne h _ s

@[simp] theorem updLamp_table (b x : Bay) (f : LampRec → LampRec) (s : State) :
    ((updLamp b f s).bay x).table = (s.bay x).table := by rw [updLamp_bay]; split <;> simp_all
@[simp] theorem updLamp_heat (b x : Bay) (f : LampRec → LampRec) (s : State) :
    ((updLamp b f s).bay x).heat = (s.bay x).heat := by rw [updLamp_bay]; split <;> simp_all
@[simp] theorem updLamp_power (b x : Bay) (f : LampRec → LampRec) (s : State) :
    ((updLamp b f s).bay x).power = (s.bay x).power := by rw [updLamp_bay]; split <;> simp_all
@[simp] theorem updLamp_faults (b x : Bay) (f : LampRec → LampRec) (s : State) :
    ((updLamp b f s).bay x).faults = (s.bay x).faults := by rw [updLamp_bay]; split <;> simp_all
@[simp] theorem updLamp_reader (b x : Bay) (f : LampRec → LampRec) (s : State) :
    ((updLamp b f s).bay x).reader = (s.bay x).reader := by rw [updLamp_bay]; split <;> simp_all
@[simp] theorem updLamp_clear (b x : Bay) (f : LampRec → LampRec) (s : State) :
    ((updLamp b f s).bay x).clear = (s.bay x).clear := by rw [updLamp_bay]; split <;> simp_all
@[simp] theorem updLamp_loop (b x : Bay) (f : LampRec → LampRec) (s : State) :
    ((updLamp b f s).bay x).loop = (s.bay x).loop := by rw [updLamp_bay]; split <;> simp_all

section
variable (b : Bay) (f : LampRec → LampRec) (s : State)
@[simp] theorem updLamp_time : (updLamp b f s).time = s.time := rfl
@[simp] theorem updLamp_lastSecond : (updLamp b f s).lastSecond = s.lastSecond := rfl
@[simp] theorem updLamp_inReset : (updLamp b f s).inReset = s.inReset := rfl
@[simp] theorem updLamp_shedLine : (updLamp b f s).shedLine = s.shedLine := rfl
@[simp] theorem updLamp_clock : (updLamp b f s).clock = s.clock := rfl
@[simp] theorem updLamp_supply : (updLamp b f s).supply = s.supply := rfl
@[simp] theorem updLamp_settings : (updLamp b f s).settings = s.settings := rfl
@[simp] theorem updLamp_outside : (updLamp b f s).outside = s.outside := rfl
@[simp] theorem updLamp_profiles : (updLamp b f s).profiles = s.profiles := rfl
@[simp] theorem updLamp_lampPlans : (updLamp b f s).lampPlans = s.lampPlans := rfl
@[simp] theorem updLamp_lampQueue : (updLamp b f s).lampQueue = s.lampQueue := rfl
@[simp] theorem updLamp_slots : (updLamp b f s).slots = s.slots := rfl
@[simp] theorem updLamp_freeCount : (updLamp b f s).freeCount = s.freeCount := rfl
@[simp] theorem updLamp_lowFlag : (updLamp b f s).lowFlag = s.lowFlag := rfl
@[simp] theorem updLamp_readerQueue : (updLamp b f s).readerQueue = s.readerQueue := rfl
@[simp] theorem updLamp_suspended : (updLamp b f s).suspended = s.suspended := rfl
@[simp] theorem updLamp_visit : (updLamp b f s).visit = s.visit := rfl
@[simp] theorem updLamp_departures : (updLamp b f s).departures = s.departures := rfl
@[simp] theorem updLamp_departuresRevision : (updLamp b f s).departuresRevision = s.departuresRevision := rfl
@[simp] theorem updLamp_line : (updLamp b f s).line = s.line := rfl
@[simp] theorem updLamp_ports : (updLamp b f s).ports = s.ports := rfl
@[simp] theorem updLamp_pending : (updLamp b f s).pending = s.pending := rfl
end

theorem updFaults_bay (b x : Bay) (f : FaultRec → FaultRec) (s : State) :
    (updFaults b f s).bay x = if x = b then { s.bay b with faults := f (s.bay b).faults } else s.bay x :=
  updBay_bay b x _ s

@[simp] theorem updFaults_bay_self (b : Bay) (f : FaultRec → FaultRec) (s : State) :
    (updFaults b f s).bay b = { s.bay b with faults := f (s.bay b).faults } := updBay_bay_self b _ s

theorem updFaults_bay_ne {b x : Bay} (h : x ≠ b) (f : FaultRec → FaultRec) (s : State) :
    (updFaults b f s).bay x = s.bay x := updBay_bay_ne h _ s

@[simp] theorem updFaults_table (b x : Bay) (f : FaultRec → FaultRec) (s : State) :
    ((updFaults b f s).bay x).table = (s.bay x).table := by rw [updFaults_bay]; split <;> simp_all
@[simp] theorem updFaults_heat (b x : Bay) (f : FaultRec → FaultRec) (s : State) :
    ((updFaults b f s).bay x).heat = (s.bay x).heat := by rw [updFaults_bay]; split <;> simp_all
@[simp] theorem updFaults_power (b x : Bay) (f : FaultRec → FaultRec) (s : State) :
    ((updFaults b f s).bay x).power = (s.bay x).power := by rw [updFaults_bay]; split <;> simp_all
@[simp] theorem updFaults_lamp (b x : Bay) (f : FaultRec → FaultRec) (s : State) :
    ((updFaults b f s).bay x).lamp = (s.bay x).lamp := by rw [updFaults_bay]; split <;> simp_all
@[simp] theorem updFaults_reader (b x : Bay) (f : FaultRec → FaultRec) (s : State) :
    ((updFaults b f s).bay x).reader = (s.bay x).reader := by rw [updFaults_bay]; split <;> simp_all
@[simp] theorem updFaults_clear (b x : Bay) (f : FaultRec → FaultRec) (s : State) :
    ((updFaults b f s).bay x).clear = (s.bay x).clear := by rw [updFaults_bay]; split <;> simp_all
@[simp] theorem updFaults_loop (b x : Bay) (f : FaultRec → FaultRec) (s : State) :
    ((updFaults b f s).bay x).loop = (s.bay x).loop := by rw [updFaults_bay]; split <;> simp_all

section
variable (b : Bay) (f : FaultRec → FaultRec) (s : State)
@[simp] theorem updFaults_time : (updFaults b f s).time = s.time := rfl
@[simp] theorem updFaults_lastSecond : (updFaults b f s).lastSecond = s.lastSecond := rfl
@[simp] theorem updFaults_inReset : (updFaults b f s).inReset = s.inReset := rfl
@[simp] theorem updFaults_shedLine : (updFaults b f s).shedLine = s.shedLine := rfl
@[simp] theorem updFaults_clock : (updFaults b f s).clock = s.clock := rfl
@[simp] theorem updFaults_supply : (updFaults b f s).supply = s.supply := rfl
@[simp] theorem updFaults_settings : (updFaults b f s).settings = s.settings := rfl
@[simp] theorem updFaults_outside : (updFaults b f s).outside = s.outside := rfl
@[simp] theorem updFaults_profiles : (updFaults b f s).profiles = s.profiles := rfl
@[simp] theorem updFaults_lampPlans : (updFaults b f s).lampPlans = s.lampPlans := rfl
@[simp] theorem updFaults_lampQueue : (updFaults b f s).lampQueue = s.lampQueue := rfl
@[simp] theorem updFaults_slots : (updFaults b f s).slots = s.slots := rfl
@[simp] theorem updFaults_freeCount : (updFaults b f s).freeCount = s.freeCount := rfl
@[simp] theorem updFaults_lowFlag : (updFaults b f s).lowFlag = s.lowFlag := rfl
@[simp] theorem updFaults_readerQueue : (updFaults b f s).readerQueue = s.readerQueue := rfl
@[simp] theorem updFaults_suspended : (updFaults b f s).suspended = s.suspended := rfl
@[simp] theorem updFaults_visit : (updFaults b f s).visit = s.visit := rfl
@[simp] theorem updFaults_departures : (updFaults b f s).departures = s.departures := rfl
@[simp] theorem updFaults_departuresRevision : (updFaults b f s).departuresRevision = s.departuresRevision := rfl
@[simp] theorem updFaults_line : (updFaults b f s).line = s.line := rfl
@[simp] theorem updFaults_ports : (updFaults b f s).ports = s.ports := rfl
@[simp] theorem updFaults_pending : (updFaults b f s).pending = s.pending := rfl
end

theorem updReader_bay (b x : Bay) (f : ReaderRec → ReaderRec) (s : State) :
    (updReader b f s).bay x = if x = b then { s.bay b with reader := f (s.bay b).reader } else s.bay x :=
  updBay_bay b x _ s

@[simp] theorem updReader_bay_self (b : Bay) (f : ReaderRec → ReaderRec) (s : State) :
    (updReader b f s).bay b = { s.bay b with reader := f (s.bay b).reader } := updBay_bay_self b _ s

theorem updReader_bay_ne {b x : Bay} (h : x ≠ b) (f : ReaderRec → ReaderRec) (s : State) :
    (updReader b f s).bay x = s.bay x := updBay_bay_ne h _ s

@[simp] theorem updReader_table (b x : Bay) (f : ReaderRec → ReaderRec) (s : State) :
    ((updReader b f s).bay x).table = (s.bay x).table := by rw [updReader_bay]; split <;> simp_all
@[simp] theorem updReader_heat (b x : Bay) (f : ReaderRec → ReaderRec) (s : State) :
    ((updReader b f s).bay x).heat = (s.bay x).heat := by rw [updReader_bay]; split <;> simp_all
@[simp] theorem updReader_power (b x : Bay) (f : ReaderRec → ReaderRec) (s : State) :
    ((updReader b f s).bay x).power = (s.bay x).power := by rw [updReader_bay]; split <;> simp_all
@[simp] theorem updReader_lamp (b x : Bay) (f : ReaderRec → ReaderRec) (s : State) :
    ((updReader b f s).bay x).lamp = (s.bay x).lamp := by rw [updReader_bay]; split <;> simp_all
@[simp] theorem updReader_faults (b x : Bay) (f : ReaderRec → ReaderRec) (s : State) :
    ((updReader b f s).bay x).faults = (s.bay x).faults := by rw [updReader_bay]; split <;> simp_all
@[simp] theorem updReader_clear (b x : Bay) (f : ReaderRec → ReaderRec) (s : State) :
    ((updReader b f s).bay x).clear = (s.bay x).clear := by rw [updReader_bay]; split <;> simp_all
@[simp] theorem updReader_loop (b x : Bay) (f : ReaderRec → ReaderRec) (s : State) :
    ((updReader b f s).bay x).loop = (s.bay x).loop := by rw [updReader_bay]; split <;> simp_all

section
variable (b : Bay) (f : ReaderRec → ReaderRec) (s : State)
@[simp] theorem updReader_time : (updReader b f s).time = s.time := rfl
@[simp] theorem updReader_lastSecond : (updReader b f s).lastSecond = s.lastSecond := rfl
@[simp] theorem updReader_inReset : (updReader b f s).inReset = s.inReset := rfl
@[simp] theorem updReader_shedLine : (updReader b f s).shedLine = s.shedLine := rfl
@[simp] theorem updReader_clock : (updReader b f s).clock = s.clock := rfl
@[simp] theorem updReader_supply : (updReader b f s).supply = s.supply := rfl
@[simp] theorem updReader_settings : (updReader b f s).settings = s.settings := rfl
@[simp] theorem updReader_outside : (updReader b f s).outside = s.outside := rfl
@[simp] theorem updReader_profiles : (updReader b f s).profiles = s.profiles := rfl
@[simp] theorem updReader_lampPlans : (updReader b f s).lampPlans = s.lampPlans := rfl
@[simp] theorem updReader_lampQueue : (updReader b f s).lampQueue = s.lampQueue := rfl
@[simp] theorem updReader_slots : (updReader b f s).slots = s.slots := rfl
@[simp] theorem updReader_freeCount : (updReader b f s).freeCount = s.freeCount := rfl
@[simp] theorem updReader_lowFlag : (updReader b f s).lowFlag = s.lowFlag := rfl
@[simp] theorem updReader_readerQueue : (updReader b f s).readerQueue = s.readerQueue := rfl
@[simp] theorem updReader_suspended : (updReader b f s).suspended = s.suspended := rfl
@[simp] theorem updReader_visit : (updReader b f s).visit = s.visit := rfl
@[simp] theorem updReader_departures : (updReader b f s).departures = s.departures := rfl
@[simp] theorem updReader_departuresRevision : (updReader b f s).departuresRevision = s.departuresRevision := rfl
@[simp] theorem updReader_line : (updReader b f s).line = s.line := rfl
@[simp] theorem updReader_ports : (updReader b f s).ports = s.ports := rfl
@[simp] theorem updReader_pending : (updReader b f s).pending = s.pending := rfl
end

theorem updClear_bay (b x : Bay) (f : ClearRec → ClearRec) (s : State) :
    (updClear b f s).bay x = if x = b then { s.bay b with clear := f (s.bay b).clear } else s.bay x :=
  updBay_bay b x _ s

@[simp] theorem updClear_bay_self (b : Bay) (f : ClearRec → ClearRec) (s : State) :
    (updClear b f s).bay b = { s.bay b with clear := f (s.bay b).clear } := updBay_bay_self b _ s

theorem updClear_bay_ne {b x : Bay} (h : x ≠ b) (f : ClearRec → ClearRec) (s : State) :
    (updClear b f s).bay x = s.bay x := updBay_bay_ne h _ s

@[simp] theorem updClear_table (b x : Bay) (f : ClearRec → ClearRec) (s : State) :
    ((updClear b f s).bay x).table = (s.bay x).table := by rw [updClear_bay]; split <;> simp_all
@[simp] theorem updClear_heat (b x : Bay) (f : ClearRec → ClearRec) (s : State) :
    ((updClear b f s).bay x).heat = (s.bay x).heat := by rw [updClear_bay]; split <;> simp_all
@[simp] theorem updClear_power (b x : Bay) (f : ClearRec → ClearRec) (s : State) :
    ((updClear b f s).bay x).power = (s.bay x).power := by rw [updClear_bay]; split <;> simp_all
@[simp] theorem updClear_lamp (b x : Bay) (f : ClearRec → ClearRec) (s : State) :
    ((updClear b f s).bay x).lamp = (s.bay x).lamp := by rw [updClear_bay]; split <;> simp_all
@[simp] theorem updClear_faults (b x : Bay) (f : ClearRec → ClearRec) (s : State) :
    ((updClear b f s).bay x).faults = (s.bay x).faults := by rw [updClear_bay]; split <;> simp_all
@[simp] theorem updClear_reader (b x : Bay) (f : ClearRec → ClearRec) (s : State) :
    ((updClear b f s).bay x).reader = (s.bay x).reader := by rw [updClear_bay]; split <;> simp_all
@[simp] theorem updClear_loop (b x : Bay) (f : ClearRec → ClearRec) (s : State) :
    ((updClear b f s).bay x).loop = (s.bay x).loop := by rw [updClear_bay]; split <;> simp_all

section
variable (b : Bay) (f : ClearRec → ClearRec) (s : State)
@[simp] theorem updClear_time : (updClear b f s).time = s.time := rfl
@[simp] theorem updClear_lastSecond : (updClear b f s).lastSecond = s.lastSecond := rfl
@[simp] theorem updClear_inReset : (updClear b f s).inReset = s.inReset := rfl
@[simp] theorem updClear_shedLine : (updClear b f s).shedLine = s.shedLine := rfl
@[simp] theorem updClear_clock : (updClear b f s).clock = s.clock := rfl
@[simp] theorem updClear_supply : (updClear b f s).supply = s.supply := rfl
@[simp] theorem updClear_settings : (updClear b f s).settings = s.settings := rfl
@[simp] theorem updClear_outside : (updClear b f s).outside = s.outside := rfl
@[simp] theorem updClear_profiles : (updClear b f s).profiles = s.profiles := rfl
@[simp] theorem updClear_lampPlans : (updClear b f s).lampPlans = s.lampPlans := rfl
@[simp] theorem updClear_lampQueue : (updClear b f s).lampQueue = s.lampQueue := rfl
@[simp] theorem updClear_slots : (updClear b f s).slots = s.slots := rfl
@[simp] theorem updClear_freeCount : (updClear b f s).freeCount = s.freeCount := rfl
@[simp] theorem updClear_lowFlag : (updClear b f s).lowFlag = s.lowFlag := rfl
@[simp] theorem updClear_readerQueue : (updClear b f s).readerQueue = s.readerQueue := rfl
@[simp] theorem updClear_suspended : (updClear b f s).suspended = s.suspended := rfl
@[simp] theorem updClear_visit : (updClear b f s).visit = s.visit := rfl
@[simp] theorem updClear_departures : (updClear b f s).departures = s.departures := rfl
@[simp] theorem updClear_departuresRevision : (updClear b f s).departuresRevision = s.departuresRevision := rfl
@[simp] theorem updClear_line : (updClear b f s).line = s.line := rfl
@[simp] theorem updClear_ports : (updClear b f s).ports = s.ports := rfl
@[simp] theorem updClear_pending : (updClear b f s).pending = s.pending := rfl
end

theorem updLoop_bay (b x : Bay) (f : LoopRec → LoopRec) (s : State) :
    (updLoop b f s).bay x = if x = b then { s.bay b with loop := f (s.bay b).loop } else s.bay x :=
  updBay_bay b x _ s

@[simp] theorem updLoop_bay_self (b : Bay) (f : LoopRec → LoopRec) (s : State) :
    (updLoop b f s).bay b = { s.bay b with loop := f (s.bay b).loop } := updBay_bay_self b _ s

theorem updLoop_bay_ne {b x : Bay} (h : x ≠ b) (f : LoopRec → LoopRec) (s : State) :
    (updLoop b f s).bay x = s.bay x := updBay_bay_ne h _ s

@[simp] theorem updLoop_table (b x : Bay) (f : LoopRec → LoopRec) (s : State) :
    ((updLoop b f s).bay x).table = (s.bay x).table := by rw [updLoop_bay]; split <;> simp_all
@[simp] theorem updLoop_heat (b x : Bay) (f : LoopRec → LoopRec) (s : State) :
    ((updLoop b f s).bay x).heat = (s.bay x).heat := by rw [updLoop_bay]; split <;> simp_all
@[simp] theorem updLoop_power (b x : Bay) (f : LoopRec → LoopRec) (s : State) :
    ((updLoop b f s).bay x).power = (s.bay x).power := by rw [updLoop_bay]; split <;> simp_all
@[simp] theorem updLoop_lamp (b x : Bay) (f : LoopRec → LoopRec) (s : State) :
    ((updLoop b f s).bay x).lamp = (s.bay x).lamp := by rw [updLoop_bay]; split <;> simp_all
@[simp] theorem updLoop_faults (b x : Bay) (f : LoopRec → LoopRec) (s : State) :
    ((updLoop b f s).bay x).faults = (s.bay x).faults := by rw [updLoop_bay]; split <;> simp_all
@[simp] theorem updLoop_reader (b x : Bay) (f : LoopRec → LoopRec) (s : State) :
    ((updLoop b f s).bay x).reader = (s.bay x).reader := by rw [updLoop_bay]; split <;> simp_all
@[simp] theorem updLoop_clear (b x : Bay) (f : LoopRec → LoopRec) (s : State) :
    ((updLoop b f s).bay x).clear = (s.bay x).clear := by rw [updLoop_bay]; split <;> simp_all

section
variable (b : Bay) (f : LoopRec → LoopRec) (s : State)
@[simp] theorem updLoop_time : (updLoop b f s).time = s.time := rfl
@[simp] theorem updLoop_lastSecond : (updLoop b f s).lastSecond = s.lastSecond := rfl
@[simp] theorem updLoop_inReset : (updLoop b f s).inReset = s.inReset := rfl
@[simp] theorem updLoop_shedLine : (updLoop b f s).shedLine = s.shedLine := rfl
@[simp] theorem updLoop_clock : (updLoop b f s).clock = s.clock := rfl
@[simp] theorem updLoop_supply : (updLoop b f s).supply = s.supply := rfl
@[simp] theorem updLoop_settings : (updLoop b f s).settings = s.settings := rfl
@[simp] theorem updLoop_outside : (updLoop b f s).outside = s.outside := rfl
@[simp] theorem updLoop_profiles : (updLoop b f s).profiles = s.profiles := rfl
@[simp] theorem updLoop_lampPlans : (updLoop b f s).lampPlans = s.lampPlans := rfl
@[simp] theorem updLoop_lampQueue : (updLoop b f s).lampQueue = s.lampQueue := rfl
@[simp] theorem updLoop_slots : (updLoop b f s).slots = s.slots := rfl
@[simp] theorem updLoop_freeCount : (updLoop b f s).freeCount = s.freeCount := rfl
@[simp] theorem updLoop_lowFlag : (updLoop b f s).lowFlag = s.lowFlag := rfl
@[simp] theorem updLoop_readerQueue : (updLoop b f s).readerQueue = s.readerQueue := rfl
@[simp] theorem updLoop_suspended : (updLoop b f s).suspended = s.suspended := rfl
@[simp] theorem updLoop_visit : (updLoop b f s).visit = s.visit := rfl
@[simp] theorem updLoop_departures : (updLoop b f s).departures = s.departures := rfl
@[simp] theorem updLoop_departuresRevision : (updLoop b f s).departuresRevision = s.departuresRevision := rfl
@[simp] theorem updLoop_line : (updLoop b f s).line = s.line := rfl
@[simp] theorem updLoop_ports : (updLoop b f s).ports = s.ports := rfl
@[simp] theorem updLoop_pending : (updLoop b f s).pending = s.pending := rfl
end

/-! ### Ports and events -/

theorem portIndex_inj {p q : Port} (h : portIndex p = portIndex q) : p = q := by
  cases p <;> cases q <;> simp_all [portIndex]

/-- The record of the port that an update names, and of every other port. -/
theorem updPort_port (p q : Port) (f : PortRec → PortRec) (s : State) :
    (updPort p f s).port q = if q = p then f (s.port p) else s.port q := by
  unfold updPort State.port
  by_cases h : q = p
  · subst h; simp
  · rw [if_neg h]
    have h' : (portIndex p).val ≠ (portIndex q).val := fun e => h (portIndex_inj (Fin.ext e)).symm
    exact Vector.getElem_set_ne (Fin.isLt _) (Fin.isLt _) h'

@[simp] theorem updPort_port_self (p : Port) (f : PortRec → PortRec) (s : State) :
    (updPort p f s).port p = f (s.port p) := by simp [updPort_port]

theorem updPort_port_ne {p q : Port} (h : q ≠ p) (f : PortRec → PortRec) (s : State) :
    (updPort p f s).port q = s.port q := by simp [updPort_port, h]

@[simp] theorem updPort_bay (p : Port) (f : PortRec → PortRec) (s : State) (x : Bay) :
    (updPort p f s).bay x = s.bay x := rfl

/-- An update of all ports changes each alike. -/
@[simp] theorem updPorts_port (f : PortRec → PortRec) (s : State) (p : Port) :
    (updPorts f s).port p = f (s.port p) := by cases p <;> rfl

@[simp] theorem updPorts_bay (f : PortRec → PortRec) (s : State) (x : Bay) : (updPorts f s).bay x = s.bay x := rfl

/-- An event with a bay joins the bay set of its kind on every port. -/
@[simp] theorem post_port (e : BayEvent) (b : Bay) (s : State) (p : Port) :
    (post e b s).port p = (s.port p).postBay (bayEventKind e) b := by
  simp [post]

@[simp] theorem post_bay (e : BayEvent) (b : Bay) (s : State) (x : Bay) : (post e b s).bay x = s.bay x := rfl

@[simp] theorem postPoolLow_port (s : State) (p : Port) :
    (postPoolLow s).port p = { s.port p with poolLow := (s.port p).poolLow.post } := by
  simp [postPoolLow]

@[simp] theorem postPoolLow_bay (s : State) (x : Bay) : (postPoolLow s).bay x = s.bay x := rfl

@[simp] theorem postSupply_port (s : State) (p : Port) :
    (postSupply s).port p = { s.port p with supply := (s.port p).supply.post } := by
  simp [postSupply]

@[simp] theorem postSupply_bay (s : State) (x : Bay) : (postSupply s).bay x = s.bay x := rfl

section
variable (p : Port) (f : PortRec → PortRec) (s : State)
@[simp] theorem updPort_time : (updPort p f s).time = s.time := rfl
@[simp] theorem updPort_lastSecond : (updPort p f s).lastSecond = s.lastSecond := rfl
@[simp] theorem updPort_inReset : (updPort p f s).inReset = s.inReset := rfl
@[simp] theorem updPort_shedLine : (updPort p f s).shedLine = s.shedLine := rfl
@[simp] theorem updPort_clock : (updPort p f s).clock = s.clock := rfl
@[simp] theorem updPort_supply : (updPort p f s).supply = s.supply := rfl
@[simp] theorem updPort_settings : (updPort p f s).settings = s.settings := rfl
@[simp] theorem updPort_outside : (updPort p f s).outside = s.outside := rfl
@[simp] theorem updPort_profiles : (updPort p f s).profiles = s.profiles := rfl
@[simp] theorem updPort_lampPlans : (updPort p f s).lampPlans = s.lampPlans := rfl
@[simp] theorem updPort_lampQueue : (updPort p f s).lampQueue = s.lampQueue := rfl
@[simp] theorem updPort_slots : (updPort p f s).slots = s.slots := rfl
@[simp] theorem updPort_freeCount : (updPort p f s).freeCount = s.freeCount := rfl
@[simp] theorem updPort_lowFlag : (updPort p f s).lowFlag = s.lowFlag := rfl
@[simp] theorem updPort_readerQueue : (updPort p f s).readerQueue = s.readerQueue := rfl
@[simp] theorem updPort_suspended : (updPort p f s).suspended = s.suspended := rfl
@[simp] theorem updPort_visit : (updPort p f s).visit = s.visit := rfl
@[simp] theorem updPort_departures : (updPort p f s).departures = s.departures := rfl
@[simp] theorem updPort_departuresRevision : (updPort p f s).departuresRevision = s.departuresRevision := rfl
@[simp] theorem updPort_line : (updPort p f s).line = s.line := rfl
@[simp] theorem updPort_bays : (updPort p f s).bays = s.bays := rfl
@[simp] theorem updPort_pending : (updPort p f s).pending = s.pending := rfl
end

section
variable (f : PortRec → PortRec) (s : State)
@[simp] theorem updPorts_time : (updPorts f s).time = s.time := rfl
@[simp] theorem updPorts_lastSecond : (updPorts f s).lastSecond = s.lastSecond := rfl
@[simp] theorem updPorts_inReset : (updPorts f s).inReset = s.inReset := rfl
@[simp] theorem updPorts_shedLine : (updPorts f s).shedLine = s.shedLine := rfl
@[simp] theorem updPorts_clock : (updPorts f s).clock = s.clock := rfl
@[simp] theorem updPorts_supply : (updPorts f s).supply = s.supply := rfl
@[simp] theorem updPorts_settings : (updPorts f s).settings = s.settings := rfl
@[simp] theorem updPorts_outside : (updPorts f s).outside = s.outside := rfl
@[simp] theorem updPorts_profiles : (updPorts f s).profiles = s.profiles := rfl
@[simp] theorem updPorts_lampPlans : (updPorts f s).lampPlans = s.lampPlans := rfl
@[simp] theorem updPorts_lampQueue : (updPorts f s).lampQueue = s.lampQueue := rfl
@[simp] theorem updPorts_slots : (updPorts f s).slots = s.slots := rfl
@[simp] theorem updPorts_freeCount : (updPorts f s).freeCount = s.freeCount := rfl
@[simp] theorem updPorts_lowFlag : (updPorts f s).lowFlag = s.lowFlag := rfl
@[simp] theorem updPorts_readerQueue : (updPorts f s).readerQueue = s.readerQueue := rfl
@[simp] theorem updPorts_suspended : (updPorts f s).suspended = s.suspended := rfl
@[simp] theorem updPorts_visit : (updPorts f s).visit = s.visit := rfl
@[simp] theorem updPorts_departures : (updPorts f s).departures = s.departures := rfl
@[simp] theorem updPorts_departuresRevision : (updPorts f s).departuresRevision = s.departuresRevision := rfl
@[simp] theorem updPorts_line : (updPorts f s).line = s.line := rfl
@[simp] theorem updPorts_bays : (updPorts f s).bays = s.bays := rfl
@[simp] theorem updPorts_pending : (updPorts f s).pending = s.pending := rfl
end

section
variable (e : BayEvent) (b : Bay) (s : State)
@[simp] theorem post_time : (post e b s).time = s.time := rfl
@[simp] theorem post_lastSecond : (post e b s).lastSecond = s.lastSecond := rfl
@[simp] theorem post_inReset : (post e b s).inReset = s.inReset := rfl
@[simp] theorem post_shedLine : (post e b s).shedLine = s.shedLine := rfl
@[simp] theorem post_clock : (post e b s).clock = s.clock := rfl
@[simp] theorem post_supply : (post e b s).supply = s.supply := rfl
@[simp] theorem post_settings : (post e b s).settings = s.settings := rfl
@[simp] theorem post_outside : (post e b s).outside = s.outside := rfl
@[simp] theorem post_profiles : (post e b s).profiles = s.profiles := rfl
@[simp] theorem post_lampPlans : (post e b s).lampPlans = s.lampPlans := rfl
@[simp] theorem post_lampQueue : (post e b s).lampQueue = s.lampQueue := rfl
@[simp] theorem post_slots : (post e b s).slots = s.slots := rfl
@[simp] theorem post_freeCount : (post e b s).freeCount = s.freeCount := rfl
@[simp] theorem post_lowFlag : (post e b s).lowFlag = s.lowFlag := rfl
@[simp] theorem post_readerQueue : (post e b s).readerQueue = s.readerQueue := rfl
@[simp] theorem post_suspended : (post e b s).suspended = s.suspended := rfl
@[simp] theorem post_visit : (post e b s).visit = s.visit := rfl
@[simp] theorem post_departures : (post e b s).departures = s.departures := rfl
@[simp] theorem post_departuresRevision : (post e b s).departuresRevision = s.departuresRevision := rfl
@[simp] theorem post_line : (post e b s).line = s.line := rfl
@[simp] theorem post_bays : (post e b s).bays = s.bays := rfl
@[simp] theorem post_pending : (post e b s).pending = s.pending := rfl
end

section
variable (s : State)
@[simp] theorem postPoolLow_time : (postPoolLow s).time = s.time := rfl
@[simp] theorem postPoolLow_lastSecond : (postPoolLow s).lastSecond = s.lastSecond := rfl
@[simp] theorem postPoolLow_inReset : (postPoolLow s).inReset = s.inReset := rfl
@[simp] theorem postPoolLow_shedLine : (postPoolLow s).shedLine = s.shedLine := rfl
@[simp] theorem postPoolLow_clock : (postPoolLow s).clock = s.clock := rfl
@[simp] theorem postPoolLow_supply : (postPoolLow s).supply = s.supply := rfl
@[simp] theorem postPoolLow_settings : (postPoolLow s).settings = s.settings := rfl
@[simp] theorem postPoolLow_outside : (postPoolLow s).outside = s.outside := rfl
@[simp] theorem postPoolLow_profiles : (postPoolLow s).profiles = s.profiles := rfl
@[simp] theorem postPoolLow_lampPlans : (postPoolLow s).lampPlans = s.lampPlans := rfl
@[simp] theorem postPoolLow_lampQueue : (postPoolLow s).lampQueue = s.lampQueue := rfl
@[simp] theorem postPoolLow_slots : (postPoolLow s).slots = s.slots := rfl
@[simp] theorem postPoolLow_freeCount : (postPoolLow s).freeCount = s.freeCount := rfl
@[simp] theorem postPoolLow_lowFlag : (postPoolLow s).lowFlag = s.lowFlag := rfl
@[simp] theorem postPoolLow_readerQueue : (postPoolLow s).readerQueue = s.readerQueue := rfl
@[simp] theorem postPoolLow_suspended : (postPoolLow s).suspended = s.suspended := rfl
@[simp] theorem postPoolLow_visit : (postPoolLow s).visit = s.visit := rfl
@[simp] theorem postPoolLow_departures : (postPoolLow s).departures = s.departures := rfl
@[simp] theorem postPoolLow_departuresRevision : (postPoolLow s).departuresRevision = s.departuresRevision := rfl
@[simp] theorem postPoolLow_line : (postPoolLow s).line = s.line := rfl
@[simp] theorem postPoolLow_bays : (postPoolLow s).bays = s.bays := rfl
@[simp] theorem postPoolLow_pending : (postPoolLow s).pending = s.pending := rfl
end

section
variable (s : State)
@[simp] theorem postSupply_time : (postSupply s).time = s.time := rfl
@[simp] theorem postSupply_lastSecond : (postSupply s).lastSecond = s.lastSecond := rfl
@[simp] theorem postSupply_inReset : (postSupply s).inReset = s.inReset := rfl
@[simp] theorem postSupply_shedLine : (postSupply s).shedLine = s.shedLine := rfl
@[simp] theorem postSupply_clock : (postSupply s).clock = s.clock := rfl
@[simp] theorem postSupply_supply : (postSupply s).supply = s.supply := rfl
@[simp] theorem postSupply_settings : (postSupply s).settings = s.settings := rfl
@[simp] theorem postSupply_outside : (postSupply s).outside = s.outside := rfl
@[simp] theorem postSupply_profiles : (postSupply s).profiles = s.profiles := rfl
@[simp] theorem postSupply_lampPlans : (postSupply s).lampPlans = s.lampPlans := rfl
@[simp] theorem postSupply_lampQueue : (postSupply s).lampQueue = s.lampQueue := rfl
@[simp] theorem postSupply_slots : (postSupply s).slots = s.slots := rfl
@[simp] theorem postSupply_freeCount : (postSupply s).freeCount = s.freeCount := rfl
@[simp] theorem postSupply_lowFlag : (postSupply s).lowFlag = s.lowFlag := rfl
@[simp] theorem postSupply_readerQueue : (postSupply s).readerQueue = s.readerQueue := rfl
@[simp] theorem postSupply_suspended : (postSupply s).suspended = s.suspended := rfl
@[simp] theorem postSupply_visit : (postSupply s).visit = s.visit := rfl
@[simp] theorem postSupply_departures : (postSupply s).departures = s.departures := rfl
@[simp] theorem postSupply_departuresRevision : (postSupply s).departuresRevision = s.departuresRevision := rfl
@[simp] theorem postSupply_line : (postSupply s).line = s.line := rfl
@[simp] theorem postSupply_bays : (postSupply s).bays = s.bays := rfl
@[simp] theorem postSupply_pending : (postSupply s).pending = s.pending := rfl
end

/-! ### Depot-wide records and the time -/

section
variable (m : Moment) (s : State)
@[simp] theorem timeTo_lastSecond : (timeTo m s).lastSecond = s.lastSecond := rfl
@[simp] theorem timeTo_inReset : (timeTo m s).inReset = s.inReset := rfl
@[simp] theorem timeTo_shedLine : (timeTo m s).shedLine = s.shedLine := rfl
@[simp] theorem timeTo_clock : (timeTo m s).clock = s.clock := rfl
@[simp] theorem timeTo_supply : (timeTo m s).supply = s.supply := rfl
@[simp] theorem timeTo_settings : (timeTo m s).settings = s.settings := rfl
@[simp] theorem timeTo_outside : (timeTo m s).outside = s.outside := rfl
@[simp] theorem timeTo_profiles : (timeTo m s).profiles = s.profiles := rfl
@[simp] theorem timeTo_lampPlans : (timeTo m s).lampPlans = s.lampPlans := rfl
@[simp] theorem timeTo_lampQueue : (timeTo m s).lampQueue = s.lampQueue := rfl
@[simp] theorem timeTo_slots : (timeTo m s).slots = s.slots := rfl
@[simp] theorem timeTo_freeCount : (timeTo m s).freeCount = s.freeCount := rfl
@[simp] theorem timeTo_lowFlag : (timeTo m s).lowFlag = s.lowFlag := rfl
@[simp] theorem timeTo_readerQueue : (timeTo m s).readerQueue = s.readerQueue := rfl
@[simp] theorem timeTo_suspended : (timeTo m s).suspended = s.suspended := rfl
@[simp] theorem timeTo_visit : (timeTo m s).visit = s.visit := rfl
@[simp] theorem timeTo_departures : (timeTo m s).departures = s.departures := rfl
@[simp] theorem timeTo_departuresRevision : (timeTo m s).departuresRevision = s.departuresRevision := rfl
@[simp] theorem timeTo_line : (timeTo m s).line = s.line := rfl
@[simp] theorem timeTo_ports : (timeTo m s).ports = s.ports := rfl
@[simp] theorem timeTo_bays : (timeTo m s).bays = s.bays := rfl
@[simp] theorem timeTo_pending : (timeTo m s).pending = s.pending := rfl
end

section
variable (f : SupplyRec → SupplyRec) (s : State)
@[simp] theorem updSupply_time : (updSupply f s).time = s.time := rfl
@[simp] theorem updSupply_lastSecond : (updSupply f s).lastSecond = s.lastSecond := rfl
@[simp] theorem updSupply_inReset : (updSupply f s).inReset = s.inReset := rfl
@[simp] theorem updSupply_shedLine : (updSupply f s).shedLine = s.shedLine := rfl
@[simp] theorem updSupply_clock : (updSupply f s).clock = s.clock := rfl
@[simp] theorem updSupply_settings : (updSupply f s).settings = s.settings := rfl
@[simp] theorem updSupply_outside : (updSupply f s).outside = s.outside := rfl
@[simp] theorem updSupply_profiles : (updSupply f s).profiles = s.profiles := rfl
@[simp] theorem updSupply_lampPlans : (updSupply f s).lampPlans = s.lampPlans := rfl
@[simp] theorem updSupply_lampQueue : (updSupply f s).lampQueue = s.lampQueue := rfl
@[simp] theorem updSupply_slots : (updSupply f s).slots = s.slots := rfl
@[simp] theorem updSupply_freeCount : (updSupply f s).freeCount = s.freeCount := rfl
@[simp] theorem updSupply_lowFlag : (updSupply f s).lowFlag = s.lowFlag := rfl
@[simp] theorem updSupply_readerQueue : (updSupply f s).readerQueue = s.readerQueue := rfl
@[simp] theorem updSupply_suspended : (updSupply f s).suspended = s.suspended := rfl
@[simp] theorem updSupply_visit : (updSupply f s).visit = s.visit := rfl
@[simp] theorem updSupply_departures : (updSupply f s).departures = s.departures := rfl
@[simp] theorem updSupply_departuresRevision : (updSupply f s).departuresRevision = s.departuresRevision := rfl
@[simp] theorem updSupply_line : (updSupply f s).line = s.line := rfl
@[simp] theorem updSupply_ports : (updSupply f s).ports = s.ports := rfl
@[simp] theorem updSupply_bays : (updSupply f s).bays = s.bays := rfl
@[simp] theorem updSupply_pending : (updSupply f s).pending = s.pending := rfl
end

section
variable (i : Fin 4) (f : Slot → Slot) (s : State)
@[simp] theorem updSlot_time : (updSlot i f s).time = s.time := rfl
@[simp] theorem updSlot_lastSecond : (updSlot i f s).lastSecond = s.lastSecond := rfl
@[simp] theorem updSlot_inReset : (updSlot i f s).inReset = s.inReset := rfl
@[simp] theorem updSlot_shedLine : (updSlot i f s).shedLine = s.shedLine := rfl
@[simp] theorem updSlot_clock : (updSlot i f s).clock = s.clock := rfl
@[simp] theorem updSlot_supply : (updSlot i f s).supply = s.supply := rfl
@[simp] theorem updSlot_settings : (updSlot i f s).settings = s.settings := rfl
@[simp] theorem updSlot_outside : (updSlot i f s).outside = s.outside := rfl
@[simp] theorem updSlot_profiles : (updSlot i f s).profiles = s.profiles := rfl
@[simp] theorem updSlot_lampPlans : (updSlot i f s).lampPlans = s.lampPlans := rfl
@[simp] theorem updSlot_lampQueue : (updSlot i f s).lampQueue = s.lampQueue := rfl
@[simp] theorem updSlot_freeCount : (updSlot i f s).freeCount = s.freeCount := rfl
@[simp] theorem updSlot_lowFlag : (updSlot i f s).lowFlag = s.lowFlag := rfl
@[simp] theorem updSlot_readerQueue : (updSlot i f s).readerQueue = s.readerQueue := rfl
@[simp] theorem updSlot_suspended : (updSlot i f s).suspended = s.suspended := rfl
@[simp] theorem updSlot_visit : (updSlot i f s).visit = s.visit := rfl
@[simp] theorem updSlot_departures : (updSlot i f s).departures = s.departures := rfl
@[simp] theorem updSlot_departuresRevision : (updSlot i f s).departuresRevision = s.departuresRevision := rfl
@[simp] theorem updSlot_line : (updSlot i f s).line = s.line := rfl
@[simp] theorem updSlot_ports : (updSlot i f s).ports = s.ports := rfl
@[simp] theorem updSlot_bays : (updSlot i f s).bays = s.bays := rfl
@[simp] theorem updSlot_pending : (updSlot i f s).pending = s.pending := rfl
end

section
variable (f : Visit → Visit) (s : State)
@[simp] theorem updVisit_time : (updVisit f s).time = s.time := rfl
@[simp] theorem updVisit_lastSecond : (updVisit f s).lastSecond = s.lastSecond := rfl
@[simp] theorem updVisit_inReset : (updVisit f s).inReset = s.inReset := rfl
@[simp] theorem updVisit_shedLine : (updVisit f s).shedLine = s.shedLine := rfl
@[simp] theorem updVisit_clock : (updVisit f s).clock = s.clock := rfl
@[simp] theorem updVisit_supply : (updVisit f s).supply = s.supply := rfl
@[simp] theorem updVisit_settings : (updVisit f s).settings = s.settings := rfl
@[simp] theorem updVisit_outside : (updVisit f s).outside = s.outside := rfl
@[simp] theorem updVisit_profiles : (updVisit f s).profiles = s.profiles := rfl
@[simp] theorem updVisit_lampPlans : (updVisit f s).lampPlans = s.lampPlans := rfl
@[simp] theorem updVisit_lampQueue : (updVisit f s).lampQueue = s.lampQueue := rfl
@[simp] theorem updVisit_slots : (updVisit f s).slots = s.slots := rfl
@[simp] theorem updVisit_freeCount : (updVisit f s).freeCount = s.freeCount := rfl
@[simp] theorem updVisit_lowFlag : (updVisit f s).lowFlag = s.lowFlag := rfl
@[simp] theorem updVisit_readerQueue : (updVisit f s).readerQueue = s.readerQueue := rfl
@[simp] theorem updVisit_suspended : (updVisit f s).suspended = s.suspended := rfl
@[simp] theorem updVisit_departures : (updVisit f s).departures = s.departures := rfl
@[simp] theorem updVisit_departuresRevision : (updVisit f s).departuresRevision = s.departuresRevision := rfl
@[simp] theorem updVisit_line : (updVisit f s).line = s.line := rfl
@[simp] theorem updVisit_ports : (updVisit f s).ports = s.ports := rfl
@[simp] theorem updVisit_bays : (updVisit f s).bays = s.bays := rfl
@[simp] theorem updVisit_pending : (updVisit f s).pending = s.pending := rfl
end

@[simp] theorem timeTo_time (m : Moment) (s : State) : (timeTo m s).time = max s.time m := rfl
@[simp] theorem timeTo_bay (m : Moment) (s : State) (x : Bay) : (timeTo m s).bay x = s.bay x := rfl
@[simp] theorem updSupply_supply (f : SupplyRec → SupplyRec) (s : State) : (updSupply f s).supply = f s.supply := rfl
@[simp] theorem updSupply_bay (f : SupplyRec → SupplyRec) (s : State) (x : Bay) : (updSupply f s).bay x = s.bay x := rfl
@[simp] theorem updSlot_slots (i : Fin 4) (f : Slot → Slot) (s : State) :
    (updSlot i f s).slots = s.slots.set i (s.slots[i].map f) := rfl
@[simp] theorem updSlot_bay (i : Fin 4) (f : Slot → Slot) (s : State) (x : Bay) : (updSlot i f s).bay x = s.bay x := rfl
@[simp] theorem updVisit_visit (f : Visit → Visit) (s : State) : (updVisit f s).visit = s.visit.map f := rfl
@[simp] theorem updVisit_bay (f : Visit → Visit) (s : State) (x : Bay) : (updVisit f s).bay x = s.bay x := rfl

/-! ### Going over the bays -/

@[simp] theorem onlyIf_true (f : State → State) (s : State) : onlyIf true f s = f s := rfl
@[simp] theorem onlyIf_false (f : State → State) (s : State) : onlyIf false f s = s := rfl

/-- What holds at the start and is kept for each bay holds after the last. -/
theorem forBays_keeps {P : State → Prop} {f : Bay → State → State} (h : ∀ b s, P s → P (f b s)) (bs : List Bay)
    (s : State) (hs : P s) : P (forBays bs f s) := by
  unfold forBays
  induction bs generalizing s with
  | nil => exact hs
  | cons b bs ih => exact ih _ (h b s hs)

theorem forAllBays_keeps {P : State → Prop} {f : Bay → State → State} (h : ∀ b s, P s → P (f b s)) (s : State)
    (hs : P s) : P (forAllBays f s) := forBays_keeps h allBays s hs

theorem mem_allBays (b : Bay) : b ∈ allBays := by simp [allBays]

end Sys2Proof.Machine
end

