-- ==== Sys2Proof/Laws/Views.lean ====
section
/-! SUPPORT. Parts of the state, one for each owner, and the ways of going over bays that keep one. The frame of an
operation is said in these terms: the parts it leaves as they are. -/

namespace Sys2Proof.Machine

/-- Of the state: the reset condition, the SHED line and the waiting commands. -/
def State.pinsView (s : State) : Bool × Bool × List Instr :=
  (s.inReset, s.shedLine, s.pending)

/-- Of the state: the time and the moment of the last second. -/
def State.timesView (s : State) : Moment × Moment :=
  (s.time, s.lastSecond)

/-- Of the state: the clock, the depot settings, the outside temperature and the profiles. -/
def State.depotView (s : State) : ClockRec × Settings × Int × Vector HeatProfile 8 :=
  (s.clock, s.settings, s.outside, s.profiles)

/-- Of the state: the lamp plans. -/
def State.plansView (s : State) : Vector (List LampStep) 8 :=
  s.lampPlans

/-- Of the state: the departure list and its revision. -/
def State.bookingsView (s : State) : List DepartureEntry × Nat :=
  (s.departures, s.departuresRevision)

/-- Of the state: the Bay Table's part of every bay. -/
def State.tablesView (s : State) : Bay → TableRec :=
  fun b => (s.bay b).table

/-- Of the state: the Fault Pool and every list. -/
def State.poolView (s : State) : Nat × Bool × (Bay → FaultRec) :=
  (s.freeCount, s.lowFlag, fun b => (s.bay b).faults)

/-- Of the state: every clearance record. -/
def State.clearsView (s : State) : Bay → ClearRec :=
  fun b => (s.bay b).clear

/-- Of the state: the Lamp Check Engine's queue, slots and records. -/
def State.engineView (s : State) : List Bay × Vector (Option Slot) 4 × (Bay → LampRec) :=
  (s.lampQueue, s.slots, fun b => (s.bay b).lamp)

/-- Of the state: the Fault Reader's lists, visit and contexts. -/
def State.readersView (s : State) : List Bay × List Bay × Option Visit × (Bay → ReaderRec) :=
  (s.readerQueue, s.suspended, s.visit, fun b => (s.bay b).reader)

/-- Of the state: every heat record. -/
def State.heatsView (s : State) : Bay → HeatRec :=
  fun b => (s.bay b).heat

/-- Of the state: the allocator's part of every bay. -/
def State.powersView (s : State) : Bay → PowerRec :=
  fun b => (s.bay b).power

/-- Of the state: the allocator's depot-wide record. -/
def State.booksView (s : State) : SupplyRec :=
  s.supply

/-- Of the state: the line and the pending list. -/
def State.loopsView (s : State) : Option OnLine × (Bay → LoopRec) :=
  (s.line, fun b => (s.bay b).loop)

/-- Of the state: the ports and their event records. -/
def State.eventsView (s : State) : Vector PortRec 3 :=
  s.ports

/-- Nothing from outside the blocks has changed: lines and queue, times, clock and settings, plans. -/
abbrev Frozen (s t : State) : Prop :=
  t.pinsView = s.pinsView ∧ t.timesView = s.timesView ∧ t.depotView = s.depotView ∧ t.plansView = s.plansView

/-- The Bay Table's records and the departure list are as they were. -/
abbrev SameRecords (s t : State) : Prop :=
  t.bookingsView = s.bookingsView ∧ t.tablesView = s.tablesView

/-- The Fault Pool and the clearance records are as they were. -/
abbrev SameFaults (s t : State) : Prop :=
  t.poolView = s.poolView ∧ t.clearsView = s.clearsView

/-- The allocator's books are as they were. -/
abbrev SameSupply (s t : State) : Prop :=
  t.powersView = s.powersView ∧ t.booksView = s.booksView

/-! What keeps a part for each bay keeps it over a list of bays. -/

@[simp] theorem forBays_pins (bs : List Bay) (f : Bay → State → State) (h : ∀ b s, (f b s).pinsView = s.pinsView)
    (s : State) :
    (forBays bs f s).pinsView = s.pinsView := by
  unfold forBays
  induction bs generalizing s with
  | nil => rfl
  | cons b bs ih => exact (ih _).trans (h b s)

@[simp] theorem forBays_times (bs : List Bay) (f : Bay → State → State) (h : ∀ b s, (f b s).timesView = s.timesView)
    (s : State) :
    (forBays bs f s).timesView = s.timesView := by
  unfold forBays
  induction bs generalizing s with
  | nil => rfl
  | cons b bs ih => exact (ih _).trans (h b s)

@[simp] theorem forBays_depot (bs : List Bay) (f : Bay → State → State) (h : ∀ b s, (f b s).depotView = s.depotView)
    (s : State) :
    (forBays bs f s).depotView = s.depotView := by
  unfold forBays
  induction bs generalizing s with
  | nil => rfl
  | cons b bs ih => exact (ih _).trans (h b s)

@[simp] theorem forBays_plans (bs : List Bay) (f : Bay → State → State) (h : ∀ b s, (f b s).plansView = s.plansView)
    (s : State) :
    (forBays bs f s).plansView = s.plansView := by
  unfold forBays
  induction bs generalizing s with
  | nil => rfl
  | cons b bs ih => exact (ih _).trans (h b s)

@[simp] theorem forBays_bookings (bs : List Bay) (f : Bay → State → State) (h : ∀ b s, (f b s).bookingsView = s.bookingsView)
    (s : State) :
    (forBays bs f s).bookingsView = s.bookingsView := by
  unfold forBays
  induction bs generalizing s with
  | nil => rfl
  | cons b bs ih => exact (ih _).trans (h b s)

@[simp] theorem forBays_tables (bs : List Bay) (f : Bay → State → State) (h : ∀ b s, (f b s).tablesView = s.tablesView)
    (s : State) :
    (forBays bs f s).tablesView = s.tablesView := by
  unfold forBays
  induction bs generalizing s with
  | nil => rfl
  | cons b bs ih => exact (ih _).trans (h b s)

@[simp] theorem forBays_pool (bs : List Bay) (f : Bay → State → State) (h : ∀ b s, (f b s).poolView = s.poolView)
    (s : State) :
    (forBays bs f s).poolView = s.poolView := by
  unfold forBays
  induction bs generalizing s with
  | nil => rfl
  | cons b bs ih => exact (ih _).trans (h b s)

@[simp] theorem forBays_clears (bs : List Bay) (f : Bay → State → State) (h : ∀ b s, (f b s).clearsView = s.clearsView)
    (s : State) :
    (forBays bs f s).clearsView = s.clearsView := by
  unfold forBays
  induction bs generalizing s with
  | nil => rfl
  | cons b bs ih => exact (ih _).trans (h b s)

@[simp] theorem forBays_engine (bs : List Bay) (f : Bay → State → State) (h : ∀ b s, (f b s).engineView = s.engineView)
    (s : State) :
    (forBays bs f s).engineView = s.engineView := by
  unfold forBays
  induction bs generalizing s with
  | nil => rfl
  | cons b bs ih => exact (ih _).trans (h b s)

@[simp] theorem forBays_readers (bs : List Bay) (f : Bay → State → State) (h : ∀ b s, (f b s).readersView = s.readersView)
    (s : State) :
    (forBays bs f s).readersView = s.readersView := by
  unfold forBays
  induction bs generalizing s with
  | nil => rfl
  | cons b bs ih => exact (ih _).trans (h b s)

@[simp] theorem forBays_heats (bs : List Bay) (f : Bay → State → State) (h : ∀ b s, (f b s).heatsView = s.heatsView)
    (s : State) :
    (forBays bs f s).heatsView = s.heatsView := by
  unfold forBays
  induction bs generalizing s with
  | nil => rfl
  | cons b bs ih => exact (ih _).trans (h b s)

@[simp] theorem forBays_powers (bs : List Bay) (f : Bay → State → State) (h : ∀ b s, (f b s).powersView = s.powersView)
    (s : State) :
    (forBays bs f s).powersView = s.powersView := by
  unfold forBays
  induction bs generalizing s with
  | nil => rfl
  | cons b bs ih => exact (ih _).trans (h b s)

@[simp] theorem forBays_books (bs : List Bay) (f : Bay → State → State) (h : ∀ b s, (f b s).booksView = s.booksView)
    (s : State) :
    (forBays bs f s).booksView = s.booksView := by
  unfold forBays
  induction bs generalizing s with
  | nil => rfl
  | cons b bs ih => exact (ih _).trans (h b s)

@[simp] theorem forBays_loops (bs : List Bay) (f : Bay → State → State) (h : ∀ b s, (f b s).loopsView = s.loopsView)
    (s : State) :
    (forBays bs f s).loopsView = s.loopsView := by
  unfold forBays
  induction bs generalizing s with
  | nil => rfl
  | cons b bs ih => exact (ih _).trans (h b s)

@[simp] theorem forBays_events (bs : List Bay) (f : Bay → State → State) (h : ∀ b s, (f b s).eventsView = s.eventsView)
    (s : State) :
    (forBays bs f s).eventsView = s.eventsView := by
  unfold forBays
  induction bs generalizing s with
  | nil => rfl
  | cons b bs ih => exact (ih _).trans (h b s)

/-! What keeps a part for each bay keeps it over all. -/

@[simp] theorem forAllBays_pins (f : Bay → State → State) (h : ∀ b s, (f b s).pinsView = s.pinsView)
    (s : State) :
    (forAllBays f s).pinsView = s.pinsView := forBays_pins allBays f h s

@[simp] theorem forAllBays_times (f : Bay → State → State) (h : ∀ b s, (f b s).timesView = s.timesView)
    (s : State) :
    (forAllBays f s).timesView = s.timesView := forBays_times allBays f h s

@[simp] theorem forAllBays_depot (f : Bay → State → State) (h : ∀ b s, (f b s).depotView = s.depotView)
    (s : State) :
    (forAllBays f s).depotView = s.depotView := forBays_depot allBays f h s

@[simp] theorem forAllBays_plans (f : Bay → State → State) (h : ∀ b s, (f b s).plansView = s.plansView)
    (s : State) :
    (forAllBays f s).plansView = s.plansView := forBays_plans allBays f h s

@[simp] theorem forAllBays_bookings (f : Bay → State → State) (h : ∀ b s, (f b s).bookingsView = s.bookingsView)
    (s : State) :
    (forAllBays f s).bookingsView = s.bookingsView := forBays_bookings allBays f h s

@[simp] theorem forAllBays_tables (f : Bay → State → State) (h : ∀ b s, (f b s).tablesView = s.tablesView)
    (s : State) :
    (forAllBays f s).tablesView = s.tablesView := forBays_tables allBays f h s

@[simp] theorem forAllBays_pool (f : Bay → State → State) (h : ∀ b s, (f b s).poolView = s.poolView)
    (s : State) :
    (forAllBays f s).poolView = s.poolView := forBays_pool allBays f h s

@[simp] theorem forAllBays_clears (f : Bay → State → State) (h : ∀ b s, (f b s).clearsView = s.clearsView)
    (s : State) :
    (forAllBays f s).clearsView = s.clearsView := forBays_clears allBays f h s

@[simp] theorem forAllBays_engine (f : Bay → State → State) (h : ∀ b s, (f b s).engineView = s.engineView)
    (s : State) :
    (forAllBays f s).engineView = s.engineView := forBays_engine allBays f h s

@[simp] theorem forAllBays_readers (f : Bay → State → State) (h : ∀ b s, (f b s).readersView = s.readersView)
    (s : State) :
    (forAllBays f s).readersView = s.readersView := forBays_readers allBays f h s

@[simp] theorem forAllBays_heats (f : Bay → State → State) (h : ∀ b s, (f b s).heatsView = s.heatsView)
    (s : State) :
    (forAllBays f s).heatsView = s.heatsView := forBays_heats allBays f h s

@[simp] theorem forAllBays_powers (f : Bay → State → State) (h : ∀ b s, (f b s).powersView = s.powersView)
    (s : State) :
    (forAllBays f s).powersView = s.powersView := forBays_powers allBays f h s

@[simp] theorem forAllBays_books (f : Bay → State → State) (h : ∀ b s, (f b s).booksView = s.booksView)
    (s : State) :
    (forAllBays f s).booksView = s.booksView := forBays_books allBays f h s

@[simp] theorem forAllBays_loops (f : Bay → State → State) (h : ∀ b s, (f b s).loopsView = s.loopsView)
    (s : State) :
    (forAllBays f s).loopsView = s.loopsView := forBays_loops allBays f h s

@[simp] theorem forAllBays_events (f : Bay → State → State) (h : ∀ b s, (f b s).eventsView = s.eventsView)
    (s : State) :
    (forAllBays f s).eventsView = s.eventsView := forBays_events allBays f h s

/-! What keeps a part keeps it where it is done and where it is not. -/

@[simp] theorem onlyIf_pins (c : Bool) (f : State → State) (h : ∀ s, (f s).pinsView = s.pinsView)
    (s : State) :
    (onlyIf c f s).pinsView = s.pinsView := by
  unfold onlyIf; split
  · exact h s
  · rfl

@[simp] theorem onlyIf_times (c : Bool) (f : State → State) (h : ∀ s, (f s).timesView = s.timesView)
    (s : State) :
    (onlyIf c f s).timesView = s.timesView := by
  unfold onlyIf; split
  · exact h s
  · rfl

@[simp] theorem onlyIf_depot (c : Bool) (f : State → State) (h : ∀ s, (f s).depotView = s.depotView)
    (s : State) :
    (onlyIf c f s).depotView = s.depotView := by
  unfold onlyIf; split
  · exact h s
  · rfl

@[simp] theorem onlyIf_plans (c : Bool) (f : State → State) (h : ∀ s, (f s).plansView = s.plansView)
    (s : State) :
    (onlyIf c f s).plansView = s.plansView := by
  unfold onlyIf; split
  · exact h s
  · rfl

@[simp] theorem onlyIf_bookings (c : Bool) (f : State → State) (h : ∀ s, (f s).bookingsView = s.bookingsView)
    (s : State) :
    (onlyIf c f s).bookingsView = s.bookingsView := by
  unfold onlyIf; split
  · exact h s
  · rfl

@[simp] theorem onlyIf_tables (c : Bool) (f : State → State) (h : ∀ s, (f s).tablesView = s.tablesView)
    (s : State) :
    (onlyIf c f s).tablesView = s.tablesView := by
  unfold onlyIf; split
  · exact h s
  · rfl

@[simp] theorem onlyIf_pool (c : Bool) (f : State → State) (h : ∀ s, (f s).poolView = s.poolView)
    (s : State) :
    (onlyIf c f s).poolView = s.poolView := by
  unfold onlyIf; split
  · exact h s
  · rfl

@[simp] theorem onlyIf_clears (c : Bool) (f : State → State) (h : ∀ s, (f s).clearsView = s.clearsView)
    (s : State) :
    (onlyIf c f s).clearsView = s.clearsView := by
  unfold onlyIf; split
  · exact h s
  · rfl

@[simp] theorem onlyIf_engine (c : Bool) (f : State → State) (h : ∀ s, (f s).engineView = s.engineView)
    (s : State) :
    (onlyIf c f s).engineView = s.engineView := by
  unfold onlyIf; split
  · exact h s
  · rfl

@[simp] theorem onlyIf_readers (c : Bool) (f : State → State) (h : ∀ s, (f s).readersView = s.readersView)
    (s : State) :
    (onlyIf c f s).readersView = s.readersView := by
  unfold onlyIf; split
  · exact h s
  · rfl

@[simp] theorem onlyIf_heats (c : Bool) (f : State → State) (h : ∀ s, (f s).heatsView = s.heatsView)
    (s : State) :
    (onlyIf c f s).heatsView = s.heatsView := by
  unfold onlyIf; split
  · exact h s
  · rfl

@[simp] theorem onlyIf_powers (c : Bool) (f : State → State) (h : ∀ s, (f s).powersView = s.powersView)
    (s : State) :
    (onlyIf c f s).powersView = s.powersView := by
  unfold onlyIf; split
  · exact h s
  · rfl

@[simp] theorem onlyIf_books (c : Bool) (f : State → State) (h : ∀ s, (f s).booksView = s.booksView)
    (s : State) :
    (onlyIf c f s).booksView = s.booksView := by
  unfold onlyIf; split
  · exact h s
  · rfl

@[simp] theorem onlyIf_loops (c : Bool) (f : State → State) (h : ∀ s, (f s).loopsView = s.loopsView)
    (s : State) :
    (onlyIf c f s).loopsView = s.loopsView := by
  unfold onlyIf; split
  · exact h s
  · rfl

@[simp] theorem onlyIf_events (c : Bool) (f : State → State) (h : ∀ s, (f s).eventsView = s.eventsView)
    (s : State) :
    (onlyIf c f s).eventsView = s.eventsView := by
  unfold onlyIf; split
  · exact h s
  · rfl

/-! What keeps a part for each element keeps it over a list. -/

@[simp] theorem foldl_pins {α : Type} (l : List α) (f : State → α → State) (h : ∀ s a, (f s a).pinsView = s.pinsView)
    (s : State) :
    (l.foldl f s).pinsView = s.pinsView := by
  induction l generalizing s with
  | nil => rfl
  | cons a l ih => exact (ih _).trans (h s a)

@[simp] theorem foldl_times {α : Type} (l : List α) (f : State → α → State) (h : ∀ s a, (f s a).timesView = s.timesView)
    (s : State) :
    (l.foldl f s).timesView = s.timesView := by
  induction l generalizing s with
  | nil => rfl
  | cons a l ih => exact (ih _).trans (h s a)

@[simp] theorem foldl_depot {α : Type} (l : List α) (f : State → α → State) (h : ∀ s a, (f s a).depotView = s.depotView)
    (s : State) :
    (l.foldl f s).depotView = s.depotView := by
  induction l generalizing s with
  | nil => rfl
  | cons a l ih => exact (ih _).trans (h s a)

@[simp] theorem foldl_plans {α : Type} (l : List α) (f : State → α → State) (h : ∀ s a, (f s a).plansView = s.plansView)
    (s : State) :
    (l.foldl f s).plansView = s.plansView := by
  induction l generalizing s with
  | nil => rfl
  | cons a l ih => exact (ih _).trans (h s a)

@[simp] theorem foldl_bookings {α : Type} (l : List α) (f : State → α → State) (h : ∀ s a, (f s a).bookingsView = s.bookingsView)
    (s : State) :
    (l.foldl f s).bookingsView = s.bookingsView := by
  induction l generalizing s with
  | nil => rfl
  | cons a l ih => exact (ih _).trans (h s a)

@[simp] theorem foldl_tables {α : Type} (l : List α) (f : State → α → State) (h : ∀ s a, (f s a).tablesView = s.tablesView)
    (s : State) :
    (l.foldl f s).tablesView = s.tablesView := by
  induction l generalizing s with
  | nil => rfl
  | cons a l ih => exact (ih _).trans (h s a)

@[simp] theorem foldl_pool {α : Type} (l : List α) (f : State → α → State) (h : ∀ s a, (f s a).poolView = s.poolView)
    (s : State) :
    (l.foldl f s).poolView = s.poolView := by
  induction l generalizing s with
  | nil => rfl
  | cons a l ih => exact (ih _).trans (h s a)

@[simp] theorem foldl_clears {α : Type} (l : List α) (f : State → α → State) (h : ∀ s a, (f s a).clearsView = s.clearsView)
    (s : State) :
    (l.foldl f s).clearsView = s.clearsView := by
  induction l generalizing s with
  | nil => rfl
  | cons a l ih => exact (ih _).trans (h s a)

@[simp] theorem foldl_engine {α : Type} (l : List α) (f : State → α → State) (h : ∀ s a, (f s a).engineView = s.engineView)
    (s : State) :
    (l.foldl f s).engineView = s.engineView := by
  induction l generalizing s with
  | nil => rfl
  | cons a l ih => exact (ih _).trans (h s a)

@[simp] theorem foldl_readers {α : Type} (l : List α) (f : State → α → State) (h : ∀ s a, (f s a).readersView = s.readersView)
    (s : State) :
    (l.foldl f s).readersView = s.readersView := by
  induction l generalizing s with
  | nil => rfl
  | cons a l ih => exact (ih _).trans (h s a)

@[simp] theorem foldl_heats {α : Type} (l : List α) (f : State → α → State) (h : ∀ s a, (f s a).heatsView = s.heatsView)
    (s : State) :
    (l.foldl f s).heatsView = s.heatsView := by
  induction l generalizing s with
  | nil => rfl
  | cons a l ih => exact (ih _).trans (h s a)

@[simp] theorem foldl_powers {α : Type} (l : List α) (f : State → α → State) (h : ∀ s a, (f s a).powersView = s.powersView)
    (s : State) :
    (l.foldl f s).powersView = s.powersView := by
  induction l generalizing s with
  | nil => rfl
  | cons a l ih => exact (ih _).trans (h s a)

@[simp] theorem foldl_books {α : Type} (l : List α) (f : State → α → State) (h : ∀ s a, (f s a).booksView = s.booksView)
    (s : State) :
    (l.foldl f s).booksView = s.booksView := by
  induction l generalizing s with
  | nil => rfl
  | cons a l ih => exact (ih _).trans (h s a)

@[simp] theorem foldl_loops {α : Type} (l : List α) (f : State → α → State) (h : ∀ s a, (f s a).loopsView = s.loopsView)
    (s : State) :
    (l.foldl f s).loopsView = s.loopsView := by
  induction l generalizing s with
  | nil => rfl
  | cons a l ih => exact (ih _).trans (h s a)

@[simp] theorem foldl_events {α : Type} (l : List α) (f : State → α → State) (h : ∀ s a, (f s a).eventsView = s.eventsView)
    (s : State) :
    (l.foldl f s).eventsView = s.eventsView := by
  induction l generalizing s with
  | nil => rfl
  | cons a l ih => exact (ih _).trans (h s a)

/-! What keeps a part keeps it for an optional value. -/

@[simp] theorem applyPart_pins {α : Type} (part : Option α) (f : α → State → State) (h : ∀ v s, (f v s).pinsView = s.pinsView)
    (s : State) :
    (applyPart part f s).pinsView = s.pinsView := by
  unfold applyPart; split
  · exact h _ s
  · rfl

@[simp] theorem applyPart_times {α : Type} (part : Option α) (f : α → State → State) (h : ∀ v s, (f v s).timesView = s.timesView)
    (s : State) :
    (applyPart part f s).timesView = s.timesView := by
  unfold applyPart; split
  · exact h _ s
  · rfl

@[simp] theorem applyPart_depot {α : Type} (part : Option α) (f : α → State → State) (h : ∀ v s, (f v s).depotView = s.depotView)
    (s : State) :
    (applyPart part f s).depotView = s.depotView := by
  unfold applyPart; split
  · exact h _ s
  · rfl

@[simp] theorem applyPart_plans {α : Type} (part : Option α) (f : α → State → State) (h : ∀ v s, (f v s).plansView = s.plansView)
    (s : State) :
    (applyPart part f s).plansView = s.plansView := by
  unfold applyPart; split
  · exact h _ s
  · rfl

@[simp] theorem applyPart_bookings {α : Type} (part : Option α) (f : α → State → State) (h : ∀ v s, (f v s).bookingsView = s.bookingsView)
    (s : State) :
    (applyPart part f s).bookingsView = s.bookingsView := by
  unfold applyPart; split
  · exact h _ s
  · rfl

@[simp] theorem applyPart_tables {α : Type} (part : Option α) (f : α → State → State) (h : ∀ v s, (f v s).tablesView = s.tablesView)
    (s : State) :
    (applyPart part f s).tablesView = s.tablesView := by
  unfold applyPart; split
  · exact h _ s
  · rfl

@[simp] theorem applyPart_pool {α : Type} (part : Option α) (f : α → State → State) (h : ∀ v s, (f v s).poolView = s.poolView)
    (s : State) :
    (applyPart part f s).poolView = s.poolView := by
  unfold applyPart; split
  · exact h _ s
  · rfl

@[simp] theorem applyPart_clears {α : Type} (part : Option α) (f : α → State → State) (h : ∀ v s, (f v s).clearsView = s.clearsView)
    (s : State) :
    (applyPart part f s).clearsView = s.clearsView := by
  unfold applyPart; split
  · exact h _ s
  · rfl

@[simp] theorem applyPart_engine {α : Type} (part : Option α) (f : α → State → State) (h : ∀ v s, (f v s).engineView = s.engineView)
    (s : State) :
    (applyPart part f s).engineView = s.engineView := by
  unfold applyPart; split
  · exact h _ s
  · rfl

@[simp] theorem applyPart_readers {α : Type} (part : Option α) (f : α → State → State) (h : ∀ v s, (f v s).readersView = s.readersView)
    (s : State) :
    (applyPart part f s).readersView = s.readersView := by
  unfold applyPart; split
  · exact h _ s
  · rfl

@[simp] theorem applyPart_heats {α : Type} (part : Option α) (f : α → State → State) (h : ∀ v s, (f v s).heatsView = s.heatsView)
    (s : State) :
    (applyPart part f s).heatsView = s.heatsView := by
  unfold applyPart; split
  · exact h _ s
  · rfl

@[simp] theorem applyPart_powers {α : Type} (part : Option α) (f : α → State → State) (h : ∀ v s, (f v s).powersView = s.powersView)
    (s : State) :
    (applyPart part f s).powersView = s.powersView := by
  unfold applyPart; split
  · exact h _ s
  · rfl

@[simp] theorem applyPart_books {α : Type} (part : Option α) (f : α → State → State) (h : ∀ v s, (f v s).booksView = s.booksView)
    (s : State) :
    (applyPart part f s).booksView = s.booksView := by
  unfold applyPart; split
  · exact h _ s
  · rfl

@[simp] theorem applyPart_loops {α : Type} (part : Option α) (f : α → State → State) (h : ∀ v s, (f v s).loopsView = s.loopsView)
    (s : State) :
    (applyPart part f s).loopsView = s.loopsView := by
  unfold applyPart; split
  · exact h _ s
  · rfl

@[simp] theorem applyPart_events {α : Type} (part : Option α) (f : α → State → State) (h : ∀ v s, (f v s).eventsView = s.eventsView)
    (s : State) :
    (applyPart part f s).eventsView = s.eventsView := by
  unfold applyPart; split
  · exact h _ s
  · rfl

/-! What a kept part says of one bay. -/

theorem table_of_view {s t : State} (h : t.tablesView = s.tablesView) (b : Bay) : (t.bay b).table = (s.bay b).table :=
  congrFun h b

theorem clear_of_view {s t : State} (h : t.clearsView = s.clearsView) (b : Bay) : (t.bay b).clear = (s.bay b).clear :=
  congrFun h b

theorem heat_of_view {s t : State} (h : t.heatsView = s.heatsView) (b : Bay) : (t.bay b).heat = (s.bay b).heat :=
  congrFun h b

theorem power_of_view {s t : State} (h : t.powersView = s.powersView) (b : Bay) : (t.bay b).power = (s.bay b).power :=
  congrFun h b

theorem faults_of_view {s t : State} (h : t.poolView = s.poolView) (b : Bay) : (t.bay b).faults = (s.bay b).faults :=
  congrFun (congrArg (fun x => x.2.2) h) b

theorem lamp_of_view {s t : State} (h : t.engineView = s.engineView) (b : Bay) : (t.bay b).lamp = (s.bay b).lamp :=
  congrFun (congrArg (fun x => x.2.2) h) b

theorem reader_of_view {s t : State} (h : t.readersView = s.readersView) (b : Bay) :
    (t.bay b).reader = (s.bay b).reader := congrFun (congrArg (fun x => x.2.2.2) h) b

theorem loop_of_view {s t : State} (h : t.loopsView = s.loopsView) (b : Bay) : (t.bay b).loop = (s.bay b).loop :=
  congrFun (congrArg (fun x => x.2) h) b

theorem port_of_view {s t : State} (h : t.eventsView = s.eventsView) (p : Port) : t.port p = s.port p :=
  congrArg (fun x => x[portIndex p]) h

end Sys2Proof.Machine
end

