-- ==== Sys2Proof/Laws/KeepsSupply.lean ====
section
/-! SUPPORT. The frame of each operation, what it leaves as it was: the plain updates, the
pending list, the allocator, the Planner and the reservations. -/

namespace Sys2Proof.Machine

/-! ### Machine/Ops.lean -/

@[simp] theorem updTable_keeps (b : Bay) (f : TableRec → TableRec) (s : State) :
    Frozen s (updTable b f s) ∧ (updTable b f s).bookingsView = s.bookingsView ∧
      SameFaults s (updTable b f s) ∧ (updTable b f s).engineView = s.engineView ∧
      (updTable b f s).readersView = s.readersView ∧ (updTable b f s).heatsView = s.heatsView ∧
      SameSupply s (updTable b f s) ∧ (updTable b f s).loopsView = s.loopsView ∧
      (updTable b f s).eventsView = s.eventsView := by
  and_intros <;>
    first
    | rfl
    | (funext x; simp [State.clearsView, State.heatsView, State.powersView])
    | simp [State.poolView, State.engineView, State.readersView, State.loopsView]

@[simp] theorem updHeat_keeps (b : Bay) (f : HeatRec → HeatRec) (s : State) :
    Frozen s (updHeat b f s) ∧ SameRecords s (updHeat b f s) ∧ SameFaults s (updHeat b f s) ∧
      (updHeat b f s).engineView = s.engineView ∧ (updHeat b f s).readersView = s.readersView ∧
      SameSupply s (updHeat b f s) ∧ (updHeat b f s).loopsView = s.loopsView ∧
      (updHeat b f s).eventsView = s.eventsView := by
  and_intros <;>
    first
    | rfl
    | (funext x; simp [State.tablesView, State.clearsView, State.powersView])
    | simp [State.poolView, State.engineView, State.readersView, State.loopsView]

@[simp] theorem updPower_keeps (b : Bay) (f : PowerRec → PowerRec) (s : State) :
    Frozen s (updPower b f s) ∧ SameRecords s (updPower b f s) ∧ SameFaults s (updPower b f s) ∧
      (updPower b f s).engineView = s.engineView ∧ (updPower b f s).readersView = s.readersView ∧
      (updPower b f s).heatsView = s.heatsView ∧ (updPower b f s).booksView = s.booksView ∧
      (updPower b f s).loopsView = s.loopsView ∧ (updPower b f s).eventsView = s.eventsView := by
  and_intros <;>
    first
    | rfl
    | (funext x; simp [State.tablesView, State.clearsView, State.heatsView])
    | simp [State.poolView, State.engineView, State.readersView, State.loopsView]

@[simp] theorem updLamp_keeps (b : Bay) (f : LampRec → LampRec) (s : State) :
    Frozen s (updLamp b f s) ∧ SameRecords s (updLamp b f s) ∧ SameFaults s (updLamp b f s) ∧
      (updLamp b f s).readersView = s.readersView ∧ (updLamp b f s).heatsView = s.heatsView ∧
      SameSupply s (updLamp b f s) ∧ (updLamp b f s).loopsView = s.loopsView ∧
      (updLamp b f s).eventsView = s.eventsView := by
  and_intros <;>
    first
    | rfl
    | (funext x; simp [State.tablesView, State.clearsView, State.heatsView, State.powersView])
    | simp [State.poolView, State.readersView, State.loopsView]

@[simp] theorem updFaults_keeps (b : Bay) (f : FaultRec → FaultRec) (s : State) :
    Frozen s (updFaults b f s) ∧ SameRecords s (updFaults b f s) ∧
      (updFaults b f s).clearsView = s.clearsView ∧ (updFaults b f s).engineView = s.engineView ∧
      (updFaults b f s).readersView = s.readersView ∧ (updFaults b f s).heatsView = s.heatsView ∧
      SameSupply s (updFaults b f s) ∧ (updFaults b f s).loopsView = s.loopsView ∧
      (updFaults b f s).eventsView = s.eventsView := by
  and_intros <;>
    first
    | rfl
    | (funext x; simp [State.tablesView, State.clearsView, State.heatsView, State.powersView])
    | simp [State.engineView, State.readersView, State.loopsView]

@[simp] theorem updReader_keeps (b : Bay) (f : ReaderRec → ReaderRec) (s : State) :
    Frozen s (updReader b f s) ∧ SameRecords s (updReader b f s) ∧ SameFaults s (updReader b f s) ∧
      (updReader b f s).engineView = s.engineView ∧ (updReader b f s).heatsView = s.heatsView ∧
      SameSupply s (updReader b f s) ∧ (updReader b f s).loopsView = s.loopsView ∧
      (updReader b f s).eventsView = s.eventsView := by
  and_intros <;>
    first
    | rfl
    | (funext x; simp [State.tablesView, State.clearsView, State.heatsView, State.powersView])
    | simp [State.poolView, State.engineView, State.loopsView]

@[simp] theorem updClear_keeps (b : Bay) (f : ClearRec → ClearRec) (s : State) :
    Frozen s (updClear b f s) ∧ SameRecords s (updClear b f s) ∧ (updClear b f s).poolView = s.poolView ∧
      (updClear b f s).engineView = s.engineView ∧ (updClear b f s).readersView = s.readersView ∧
      (updClear b f s).heatsView = s.heatsView ∧ SameSupply s (updClear b f s) ∧
      (updClear b f s).loopsView = s.loopsView ∧ (updClear b f s).eventsView = s.eventsView := by
  and_intros <;>
    first
    | rfl
    | (funext x; simp [State.tablesView, State.heatsView, State.powersView])
    | simp [State.poolView, State.engineView, State.readersView, State.loopsView]

@[simp] theorem updLoop_keeps (b : Bay) (f : LoopRec → LoopRec) (s : State) :
    Frozen s (updLoop b f s) ∧ SameRecords s (updLoop b f s) ∧ SameFaults s (updLoop b f s) ∧
      (updLoop b f s).engineView = s.engineView ∧ (updLoop b f s).readersView = s.readersView ∧
      (updLoop b f s).heatsView = s.heatsView ∧ SameSupply s (updLoop b f s) ∧
      (updLoop b f s).eventsView = s.eventsView := by
  and_intros <;>
    first
    | rfl
    | (funext x; simp [State.tablesView, State.clearsView, State.heatsView, State.powersView])
    | simp [State.poolView, State.engineView, State.readersView]

@[simp] theorem updSupply_keeps (f : SupplyRec → SupplyRec) (s : State) :
    Frozen s (updSupply f s) ∧ SameRecords s (updSupply f s) ∧ SameFaults s (updSupply f s) ∧
      (updSupply f s).engineView = s.engineView ∧ (updSupply f s).readersView = s.readersView ∧
      (updSupply f s).heatsView = s.heatsView ∧ (updSupply f s).powersView = s.powersView ∧
      (updSupply f s).loopsView = s.loopsView ∧ (updSupply f s).eventsView = s.eventsView := by
  and_intros <;> rfl

@[simp] theorem updSlot_keeps (i : Fin 4) (f : Slot → Slot) (s : State) :
    Frozen s (updSlot i f s) ∧ SameRecords s (updSlot i f s) ∧ SameFaults s (updSlot i f s) ∧
      (updSlot i f s).readersView = s.readersView ∧ (updSlot i f s).heatsView = s.heatsView ∧
      SameSupply s (updSlot i f s) ∧ (updSlot i f s).loopsView = s.loopsView ∧
      (updSlot i f s).eventsView = s.eventsView := by
  and_intros <;> rfl

@[simp] theorem updVisit_keeps (f : Visit → Visit) (s : State) :
    Frozen s (updVisit f s) ∧ SameRecords s (updVisit f s) ∧ SameFaults s (updVisit f s) ∧
      (updVisit f s).engineView = s.engineView ∧ (updVisit f s).heatsView = s.heatsView ∧
      SameSupply s (updVisit f s) ∧ (updVisit f s).loopsView = s.loopsView ∧
      (updVisit f s).eventsView = s.eventsView := by
  and_intros <;> rfl

@[simp] theorem timeTo_keeps (t : Moment) (s : State) :
    (timeTo t s).pinsView = s.pinsView ∧ (timeTo t s).depotView = s.depotView ∧
      (timeTo t s).plansView = s.plansView ∧ SameRecords s (timeTo t s) ∧ SameFaults s (timeTo t s) ∧
      (timeTo t s).engineView = s.engineView ∧ (timeTo t s).readersView = s.readersView ∧
      (timeTo t s).heatsView = s.heatsView ∧ SameSupply s (timeTo t s) ∧
      (timeTo t s).loopsView = s.loopsView ∧ (timeTo t s).eventsView = s.eventsView := by
  and_intros <;> rfl

/-! ### Machine/Flags.lean -/

@[simp] theorem updPort_keeps (p : Port) (f : PortRec → PortRec) (s : State) :
    Frozen s (updPort p f s) ∧ SameRecords s (updPort p f s) ∧ SameFaults s (updPort p f s) ∧
      (updPort p f s).engineView = s.engineView ∧ (updPort p f s).readersView = s.readersView ∧
      (updPort p f s).heatsView = s.heatsView ∧ SameSupply s (updPort p f s) ∧
      (updPort p f s).loopsView = s.loopsView := by
  and_intros <;> rfl

@[simp] theorem updPorts_keeps (f : PortRec → PortRec) (s : State) :
    Frozen s (updPorts f s) ∧ SameRecords s (updPorts f s) ∧ SameFaults s (updPorts f s) ∧
      (updPorts f s).engineView = s.engineView ∧ (updPorts f s).readersView = s.readersView ∧
      (updPorts f s).heatsView = s.heatsView ∧ SameSupply s (updPorts f s) ∧
      (updPorts f s).loopsView = s.loopsView := by
  and_intros <;> rfl

@[simp] theorem post_keeps (e : BayEvent) (b : Bay) (s : State) :
    Frozen s (post e b s) ∧ SameRecords s (post e b s) ∧ SameFaults s (post e b s) ∧
      (post e b s).engineView = s.engineView ∧ (post e b s).readersView = s.readersView ∧
      (post e b s).heatsView = s.heatsView ∧ SameSupply s (post e b s) ∧ (post e b s).loopsView = s.loopsView := by
  and_intros <;> rfl

@[simp] theorem postPoolLow_keeps (s : State) :
    Frozen s (postPoolLow s) ∧ SameRecords s (postPoolLow s) ∧ SameFaults s (postPoolLow s) ∧
      (postPoolLow s).engineView = s.engineView ∧ (postPoolLow s).readersView = s.readersView ∧
      (postPoolLow s).heatsView = s.heatsView ∧ SameSupply s (postPoolLow s) ∧
      (postPoolLow s).loopsView = s.loopsView := by
  and_intros <;> rfl

@[simp] theorem postSupply_keeps (s : State) :
    Frozen s (postSupply s) ∧ SameRecords s (postSupply s) ∧ SameFaults s (postSupply s) ∧
      (postSupply s).engineView = s.engineView ∧ (postSupply s).readersView = s.readersView ∧
      (postSupply s).heatsView = s.heatsView ∧ SameSupply s (postSupply s) ∧
      (postSupply s).loopsView = s.loopsView := by
  and_intros <;> rfl

@[simp] theorem postClearance_keeps (b : Bay) (s : State) :
    Frozen s (postClearance b s) ∧ SameRecords s (postClearance b s) ∧ SameFaults s (postClearance b s) ∧
      (postClearance b s).engineView = s.engineView ∧ (postClearance b s).readersView = s.readersView ∧
      (postClearance b s).heatsView = s.heatsView ∧ SameSupply s (postClearance b s) ∧
      (postClearance b s).loopsView = s.loopsView := by
  simp [postClearance, Frozen, SameRecords, SameFaults, SameSupply]

@[simp] theorem clearanceNews_keeps (b : Bay) (r : Reason) (s : State) :
    Frozen s (clearanceNews b r s) ∧ SameRecords s (clearanceNews b r s) ∧
      (clearanceNews b r s).poolView = s.poolView ∧ (clearanceNews b r s).engineView = s.engineView ∧
      (clearanceNews b r s).readersView = s.readersView ∧ (clearanceNews b r s).heatsView = s.heatsView ∧
      SameSupply s (clearanceNews b r s) ∧ (clearanceNews b r s).loopsView = s.loopsView := by
  unfold clearanceNews; (repeat' split) <;> simp [Frozen, SameRecords, SameSupply]

/-! ### Machine/Loop.lean -/

@[simp] theorem updLane_keeps (b : Bay) (sort : LoopSort) (f : Lane → Lane) (s : State) :
    Frozen s (updLane b sort f s) ∧ SameRecords s (updLane b sort f s) ∧ SameFaults s (updLane b sort f s) ∧
      (updLane b sort f s).engineView = s.engineView ∧ (updLane b sort f s).readersView = s.readersView ∧
      (updLane b sort f s).heatsView = s.heatsView ∧ SameSupply s (updLane b sort f s) ∧
      (updLane b sort f s).eventsView = s.eventsView := by
  simp [updLane, Frozen, SameRecords, SameFaults, SameSupply]

@[simp] theorem disownLine_keeps (b : Bay) (sort : LoopSort) (s : State) :
    Frozen s (disownLine b sort s) ∧ SameRecords s (disownLine b sort s) ∧
      SameFaults s (disownLine b sort s) ∧ (disownLine b sort s).engineView = s.engineView ∧
      (disownLine b sort s).readersView = s.readersView ∧ (disownLine b sort s).heatsView = s.heatsView ∧
      SameSupply s (disownLine b sort s) ∧ (disownLine b sort s).eventsView = s.eventsView := by
  unfold disownLine
  (try dsimp only)
  (repeat' split) <;> (try simp [Frozen, SameRecords, SameFaults, SameSupply]) <;> (try and_intros) <;> rfl

@[simp] theorem withdrawAll_keeps (b : Bay) (sort : LoopSort) (s : State) :
    Frozen s (withdrawAll b sort s) ∧ SameRecords s (withdrawAll b sort s) ∧
      SameFaults s (withdrawAll b sort s) ∧ (withdrawAll b sort s).engineView = s.engineView ∧
      (withdrawAll b sort s).readersView = s.readersView ∧ (withdrawAll b sort s).heatsView = s.heatsView ∧
      SameSupply s (withdrawAll b sort s) ∧ (withdrawAll b sort s).eventsView = s.eventsView := by
  simp [withdrawAll, Frozen, SameRecords, SameFaults, SameSupply]

@[simp] theorem abandon_keeps (b : Bay) (sort : LoopSort) (s : State) :
    Frozen s (abandon b sort s) ∧ SameRecords s (abandon b sort s) ∧ SameFaults s (abandon b sort s) ∧
      (abandon b sort s).engineView = s.engineView ∧ (abandon b sort s).readersView = s.readersView ∧
      (abandon b sort s).heatsView = s.heatsView ∧ SameSupply s (abandon b sort s) ∧
      (abandon b sort s).eventsView = s.eventsView := by
  simp [abandon, Frozen, SameRecords, SameFaults, SameSupply]

@[simp] theorem setPoll_keeps (b : Bay) (p : PollPlan) (s : State) :
    Frozen s (setPoll b p s) ∧ SameRecords s (setPoll b p s) ∧ SameFaults s (setPoll b p s) ∧
      (setPoll b p s).engineView = s.engineView ∧ (setPoll b p s).readersView = s.readersView ∧
      (setPoll b p s).heatsView = s.heatsView ∧ SameSupply s (setPoll b p s) ∧
      (setPoll b p s).eventsView = s.eventsView := by
  simp [setPoll, Frozen, SameRecords, SameFaults, SameSupply]

@[simp] theorem promotionsJudged_keeps (s : State) :
    Frozen s (promotionsJudged s) ∧ SameRecords s (promotionsJudged s) ∧ SameFaults s (promotionsJudged s) ∧
      (promotionsJudged s).engineView = s.engineView ∧ (promotionsJudged s).readersView = s.readersView ∧
      (promotionsJudged s).heatsView = s.heatsView ∧ SameSupply s (promotionsJudged s) ∧
      (promotionsJudged s).eventsView = s.eventsView := by
  simp [promotionsJudged, setPolls, Frozen, SameRecords, SameFaults, SameSupply]

@[simp] theorem pollEnded_keeps (b : Bay) (s : State) :
    Frozen s (pollEnded b s) ∧ SameRecords s (pollEnded b s) ∧ SameFaults s (pollEnded b s) ∧
      (pollEnded b s).engineView = s.engineView ∧ (pollEnded b s).readersView = s.readersView ∧
      (pollEnded b s).heatsView = s.heatsView ∧ SameSupply s (pollEnded b s) ∧
      (pollEnded b s).eventsView = s.eventsView := by
  unfold pollEnded; (repeat' split) <;> simp [Frozen, SameRecords, SameFaults, SameSupply]

@[simp] theorem unlist_keeps (b : Bay) (sort : LoopSort) (s : State) :
    Frozen s (unlist b sort s) ∧ SameRecords s (unlist b sort s) ∧ SameFaults s (unlist b sort s) ∧
      (unlist b sort s).engineView = s.engineView ∧ (unlist b sort s).readersView = s.readersView ∧
      (unlist b sort s).heatsView = s.heatsView ∧ SameSupply s (unlist b sort s) ∧
      (unlist b sort s).eventsView = s.eventsView := by
  unfold unlist; (repeat' split) <;> simp [Frozen, SameRecords, SameFaults, SameSupply]

@[simp] theorem putOnLine_keeps (c : Candidate) (s : State) :
    Frozen s (putOnLine c s) ∧ SameRecords s (putOnLine c s) ∧ SameFaults s (putOnLine c s) ∧
      (putOnLine c s).engineView = s.engineView ∧ (putOnLine c s).readersView = s.readersView ∧
      (putOnLine c s).heatsView = s.heatsView ∧ SameSupply s (putOnLine c s) ∧
      (putOnLine c s).eventsView = s.eventsView := 
  unlist_keeps c.bay c.sort s

@[simp] theorem askReplacing_keeps (b : Bay) (req : LoopReq) (s : State) :
    Frozen s (askReplacing b req s) ∧ SameRecords s (askReplacing b req s) ∧
      SameFaults s (askReplacing b req s) ∧ (askReplacing b req s).engineView = s.engineView ∧
      (askReplacing b req s).readersView = s.readersView ∧ (askReplacing b req s).heatsView = s.heatsView ∧
      SameSupply s (askReplacing b req s) ∧ (askReplacing b req s).eventsView = s.eventsView := by
  unfold askReplacing; (repeat' split) <;> simp [Frozen, SameRecords, SameFaults, SameSupply]

@[simp] theorem joinStage_keeps (b : Bay) (target : Nat) (increase : Bool) (s : State) :
    Frozen s (joinStage b target increase s) ∧ SameRecords s (joinStage b target increase s) ∧
      SameFaults s (joinStage b target increase s) ∧
      (joinStage b target increase s).engineView = s.engineView ∧
      (joinStage b target increase s).readersView = s.readersView ∧
      (joinStage b target increase s).heatsView = s.heatsView ∧ SameSupply s (joinStage b target increase s) ∧
      (joinStage b target increase s).eventsView = s.eventsView := by
  simp [joinStage, Frozen, SameRecords, SameFaults, SameSupply]

@[simp] theorem joinLatch_keeps (b : Bay) (open_ : Bool) (s : State) :
    Frozen s (joinLatch b open_ s) ∧ SameRecords s (joinLatch b open_ s) ∧
      SameFaults s (joinLatch b open_ s) ∧ (joinLatch b open_ s).engineView = s.engineView ∧
      (joinLatch b open_ s).readersView = s.readersView ∧ (joinLatch b open_ s).heatsView = s.heatsView ∧
      SameSupply s (joinLatch b open_ s) ∧ (joinLatch b open_ s).eventsView = s.eventsView := by
  simp [joinLatch, Frozen, SameRecords, SameFaults, SameSupply]

/-! ### Machine/HeatArithmetic.lean -/

@[simp] theorem plan_keeps (b : Bay) (s : State) :
    Frozen s (plan b s) ∧ SameRecords s (plan b s) ∧ SameFaults s (plan b s) ∧
      (plan b s).engineView = s.engineView ∧ (plan b s).readersView = s.readersView ∧
      SameSupply s (plan b s) ∧ (plan b s).loopsView = s.loopsView ∧ (plan b s).eventsView = s.eventsView := by
  unfold plan; (repeat' split) <;> simp [Frozen, SameRecords, SameFaults, SameSupply]

@[simp] theorem project_keeps (b : Bay) (s : State) :
    Frozen s (project b s) ∧ SameRecords s (project b s) ∧ SameFaults s (project b s) ∧
      (project b s).engineView = s.engineView ∧ (project b s).readersView = s.readersView ∧
      SameSupply s (project b s) ∧ (project b s).loopsView = s.loopsView := by
  unfold project; (repeat' split) <;> simp [Frozen, SameRecords, SameFaults, SameSupply]

@[simp] theorem judgeStarved_keeps (b : Bay) (s : State) :
    Frozen s (judgeStarved b s) ∧ SameRecords s (judgeStarved b s) ∧ SameFaults s (judgeStarved b s) ∧
      (judgeStarved b s).engineView = s.engineView ∧ (judgeStarved b s).readersView = s.readersView ∧
      SameSupply s (judgeStarved b s) ∧ (judgeStarved b s).loopsView = s.loopsView ∧
      (judgeStarved b s).eventsView = s.eventsView := by
  simp [judgeStarved, Frozen, SameRecords, SameFaults, SameSupply]

/-! ### Machine/Allocator.lean -/

@[simp] theorem noteStage_keeps (b : Bay) (s : State) :
    Frozen s (noteStage b s) ∧ SameRecords s (noteStage b s) ∧ SameFaults s (noteStage b s) ∧
      (noteStage b s).readersView = s.readersView ∧ (noteStage b s).heatsView = s.heatsView ∧
      SameSupply s (noteStage b s) ∧ (noteStage b s).loopsView = s.loopsView ∧
      (noteStage b s).eventsView = s.eventsView := by
  simp [noteStage, Frozen, SameRecords, SameFaults, SameSupply]

@[simp] theorem freeIncrease_keeps (b : Bay) (s : State) :
    Frozen s (freeIncrease b s) ∧ SameRecords s (freeIncrease b s) ∧ SameFaults s (freeIncrease b s) ∧
      (freeIncrease b s).engineView = s.engineView ∧ (freeIncrease b s).readersView = s.readersView ∧
      (freeIncrease b s).heatsView = s.heatsView ∧ (freeIncrease b s).powersView = s.powersView ∧
      (freeIncrease b s).loopsView = s.loopsView ∧ (freeIncrease b s).eventsView = s.eventsView := by
  simp [freeIncrease, Frozen, SameRecords, SameFaults]

@[simp] theorem stageEnded_keeps (b : Bay) (s : State) :
    Frozen s (stageEnded b s) ∧ SameRecords s (stageEnded b s) ∧ SameFaults s (stageEnded b s) ∧
      (stageEnded b s).engineView = s.engineView ∧ (stageEnded b s).readersView = s.readersView ∧
      (stageEnded b s).heatsView = s.heatsView ∧ (stageEnded b s).booksView = s.booksView ∧
      (stageEnded b s).loopsView = s.loopsView ∧ (stageEnded b s).eventsView = s.eventsView := by
  simp [stageEnded, Frozen, SameRecords, SameFaults]

@[simp] theorem commandClosed_keeps (b : Bay) (s : State) :
    Frozen s (commandClosed b s) ∧ SameRecords s (commandClosed b s) ∧ SameFaults s (commandClosed b s) ∧
      (commandClosed b s).engineView = s.engineView ∧ (commandClosed b s).readersView = s.readersView ∧
      (commandClosed b s).heatsView = s.heatsView ∧ (commandClosed b s).booksView = s.booksView ∧
      (commandClosed b s).loopsView = s.loopsView ∧ (commandClosed b s).eventsView = s.eventsView := by
  simp [commandClosed, Frozen, SameRecords, SameFaults]

@[simp] theorem stageUnqueued_keeps (b : Bay) (increase : Bool) (s : State) :
    Frozen s (stageUnqueued b increase s) ∧ SameRecords s (stageUnqueued b increase s) ∧
      SameFaults s (stageUnqueued b increase s) ∧ (stageUnqueued b increase s).engineView = s.engineView ∧
      (stageUnqueued b increase s).readersView = s.readersView ∧
      (stageUnqueued b increase s).heatsView = s.heatsView ∧
      (stageUnqueued b increase s).booksView = s.booksView ∧
      (stageUnqueued b increase s).loopsView = s.loopsView ∧
      (stageUnqueued b increase s).eventsView = s.eventsView := by
  unfold stageUnqueued; (repeat' split) <;> simp [Frozen, SameRecords, SameFaults]

@[simp] theorem askStage_keeps (b : Bay) (target : Nat) (increase : Bool) (s : State) :
    Frozen s (askStage b target increase s) ∧ SameRecords s (askStage b target increase s) ∧
      SameFaults s (askStage b target increase s) ∧
      (askStage b target increase s).readersView = s.readersView ∧
      (askStage b target increase s).heatsView = s.heatsView ∧
      (askStage b target increase s).eventsView = s.eventsView := by
  unfold askStage; (repeat' split) <;> simp [Frozen, SameRecords, SameFaults]

@[simp] theorem askReduction_keeps (b : Bay) (target : Nat) (s : State) :
    Frozen s (askReduction b target s) ∧ SameRecords s (askReduction b target s) ∧
      SameFaults s (askReduction b target s) ∧ (askReduction b target s).readersView = s.readersView ∧
      (askReduction b target s).heatsView = s.heatsView ∧ (askReduction b target s).eventsView = s.eventsView := by
  simp [askReduction, Frozen, SameRecords, SameFaults]

@[simp] theorem reduceBay_keeps (b : Bay) (s : State) :
    Frozen s (reduceBay b s) ∧ SameRecords s (reduceBay b s) ∧ SameFaults s (reduceBay b s) ∧
      (reduceBay b s).readersView = s.readersView ∧ (reduceBay b s).heatsView = s.heatsView ∧
      (reduceBay b s).eventsView = s.eventsView := by
  simp [reduceBay, Frozen, SameRecords, SameFaults]

@[simp] theorem askReductions_keeps (s : State) :
    Frozen s (askReductions s) ∧ SameRecords s (askReductions s) ∧ SameFaults s (askReductions s) ∧
      (askReductions s).readersView = s.readersView ∧ (askReductions s).heatsView = s.heatsView ∧
      (askReductions s).eventsView = s.eventsView := by
  simp [askReductions, Frozen, SameRecords, SameFaults]

@[simp] theorem returnCommanded_keeps (b : Bay) (s : State) :
    Frozen s (returnCommanded b s) ∧ SameRecords s (returnCommanded b s) ∧
      SameFaults s (returnCommanded b s) ∧ (returnCommanded b s).readersView = s.readersView ∧
      (returnCommanded b s).heatsView = s.heatsView ∧ (returnCommanded b s).eventsView = s.eventsView := by
  unfold returnCommanded; (repeat' split) <;> simp [Frozen, SameRecords, SameFaults]

@[simp] theorem stageNotSent_keeps (b : Bay) (increase : Bool) (s : State) :
    Frozen s (stageNotSent b increase s) ∧ SameRecords s (stageNotSent b increase s) ∧
      SameFaults s (stageNotSent b increase s) ∧ (stageNotSent b increase s).readersView = s.readersView ∧
      (stageNotSent b increase s).heatsView = s.heatsView ∧
      (stageNotSent b increase s).eventsView = s.eventsView := by
  unfold stageNotSent; (repeat' split) <;> simp [Frozen, SameRecords, SameFaults]

@[simp] theorem setGrant_keeps (starting : Option Bay) (b : Bay) (grant : Nat) (s : State) :
    Frozen s (setGrant starting b grant s) ∧ SameRecords s (setGrant starting b grant s) ∧
      SameFaults s (setGrant starting b grant s) ∧ (setGrant starting b grant s).engineView = s.engineView ∧
      (setGrant starting b grant s).readersView = s.readersView ∧
      (setGrant starting b grant s).booksView = s.booksView ∧
      (setGrant starting b grant s).loopsView = s.loopsView := by
  unfold setGrant; (repeat' split) <;> simp [Frozen, SameRecords, SameFaults]

@[simp] theorem recomputeBooks_keeps (starting : Option Bay) (s : State) :
    Frozen s (recomputeBooks starting s) ∧ SameRecords s (recomputeBooks starting s) ∧
      SameFaults s (recomputeBooks starting s) ∧ (recomputeBooks starting s).engineView = s.engineView ∧
      (recomputeBooks starting s).readersView = s.readersView ∧
      (recomputeBooks starting s).booksView = s.booksView ∧ (recomputeBooks starting s).loopsView = s.loopsView := by
  simp [recomputeBooks, Frozen, SameRecords, SameFaults]

@[simp] theorem recompute_keeps (starting : Option Bay) (s : State) :
    Frozen s (recompute starting s) ∧ SameRecords s (recompute starting s) ∧
      SameFaults s (recompute starting s) ∧ (recompute starting s).readersView = s.readersView := by
  simp [recompute, Frozen, SameRecords, SameFaults]

@[simp] theorem setDemand_keeps (starting : Option Bay) (b : Bay) (demand : Nat) (s : State) :
    Frozen s (setDemand starting b demand s) ∧ SameRecords s (setDemand starting b demand s) ∧
      SameFaults s (setDemand starting b demand s) ∧
      (setDemand starting b demand s).readersView = s.readersView := by
  unfold setDemand; (repeat' split) <;> simp [Frozen, SameRecords, SameFaults]

@[simp] theorem askIncrease_keeps (b : Bay) (s : State) :
    Frozen s (askIncrease b s) ∧ SameRecords s (askIncrease b s) ∧ SameFaults s (askIncrease b s) ∧
      (askIncrease b s).readersView = s.readersView ∧ (askIncrease b s).heatsView = s.heatsView ∧
      (askIncrease b s).eventsView = s.eventsView := by
  simp [askIncrease, Frozen, SameRecords, SameFaults]

@[simp] theorem stageIncrease_keeps (s : State) :
    (stageIncrease s).pinsView = s.pinsView ∧ (stageIncrease s).depotView = s.depotView ∧
      (stageIncrease s).plansView = s.plansView ∧ SameRecords s (stageIncrease s) ∧
      SameFaults s (stageIncrease s) ∧ (stageIncrease s).readersView = s.readersView ∧
      (stageIncrease s).heatsView = s.heatsView ∧ (stageIncrease s).eventsView = s.eventsView := by
  unfold stageIncrease; (repeat' split) <;> simp [SameRecords, SameFaults]

@[simp] theorem stepBegan_keeps (b : Bay) (s : State) :
    Frozen s (stepBegan b s) ∧ SameRecords s (stepBegan b s) ∧ SameFaults s (stepBegan b s) ∧
      (stepBegan b s).readersView = s.readersView ∧ (stepBegan b s).heatsView = s.heatsView ∧
      (stepBegan b s).eventsView = s.eventsView := by
  unfold stepBegan; (repeat' split) <;> simp [Frozen, SameRecords, SameFaults]

@[simp] theorem stepEnded_keeps (b : Bay) (s : State) :
    Frozen s (stepEnded b s) ∧ SameRecords s (stepEnded b s) ∧ SameFaults s (stepEnded b s) ∧
      (stepEnded b s).engineView = s.engineView ∧ (stepEnded b s).readersView = s.readersView ∧
      (stepEnded b s).heatsView = s.heatsView ∧ (stepEnded b s).booksView = s.booksView ∧
      (stepEnded b s).loopsView = s.loopsView ∧ (stepEnded b s).eventsView = s.eventsView := by
  simp [stepEnded, Frozen, SameRecords, SameFaults]

@[simp] theorem startWatch_keeps (b : Bay) (s : State) :
    Frozen s (startWatch b s) ∧ SameRecords s (startWatch b s) ∧ SameFaults s (startWatch b s) ∧
      (startWatch b s).engineView = s.engineView ∧ (startWatch b s).readersView = s.readersView ∧
      (startWatch b s).heatsView = s.heatsView ∧ (startWatch b s).booksView = s.booksView ∧
      (startWatch b s).loopsView = s.loopsView ∧ (startWatch b s).eventsView = s.eventsView := by
  simp [startWatch, Frozen, SameRecords, SameFaults]

@[simp] theorem increaseEnded_keeps (b : Bay) (s : State) :
    Frozen s (increaseEnded b s) ∧ SameRecords s (increaseEnded b s) ∧ SameFaults s (increaseEnded b s) ∧
      (increaseEnded b s).engineView = s.engineView ∧ (increaseEnded b s).readersView = s.readersView ∧
      (increaseEnded b s).heatsView = s.heatsView ∧ (increaseEnded b s).loopsView = s.loopsView ∧
      (increaseEnded b s).eventsView = s.eventsView := by
  simp [increaseEnded, Frozen, SameRecords, SameFaults]

@[simp] theorem increaseRefused_keeps (b : Bay) (s : State) :
    Frozen s (increaseRefused b s) ∧ SameRecords s (increaseRefused b s) ∧
      SameFaults s (increaseRefused b s) ∧ (increaseRefused b s).readersView = s.readersView ∧
      (increaseRefused b s).heatsView = s.heatsView := by
  simp [increaseRefused, Frozen, SameRecords, SameFaults]

@[simp] theorem stageOutcome_keeps (b : Bay) (increase : Bool) (o : Handed) (s : State) :
    Frozen s (stageOutcome b increase o s) ∧ SameRecords s (stageOutcome b increase o s) ∧
      SameFaults s (stageOutcome b increase o s) ∧ (stageOutcome b increase o s).readersView = s.readersView ∧
      (stageOutcome b increase o s).heatsView = s.heatsView := by
  unfold stageOutcome; (repeat' split) <;> simp [Frozen, SameRecords, SameFaults]

/-! ### Machine/Heating.lean -/

@[simp] theorem beginHeating_keeps (b : Bay) (s : State) :
    Frozen s (beginHeating b s) ∧ SameRecords s (beginHeating b s) ∧ SameFaults s (beginHeating b s) ∧
      (beginHeating b s).readersView = s.readersView := by
  simp [beginHeating, Frozen, SameRecords, SameFaults]

@[simp] theorem becomeHolding_keeps (b : Bay) (s : State) :
    Frozen s (becomeHolding b s) ∧ SameRecords s (becomeHolding b s) ∧ SameFaults s (becomeHolding b s) ∧
      (becomeHolding b s).readersView = s.readersView := by
  simp [becomeHolding, Frozen, SameRecords, SameFaults]

@[simp] theorem readyTest_keeps (b : Bay) (s : State) :
    Frozen s (readyTest b s) ∧ SameRecords s (readyTest b s) ∧ SameFaults s (readyTest b s) ∧
      (readyTest b s).readersView = s.readersView := by
  unfold readyTest; (repeat' split) <;> simp [Frozen, SameRecords, SameFaults]

@[simp] theorem fireIfDue_keeps (b : Bay) (s : State) :
    Frozen s (fireIfDue b s) ∧ SameRecords s (fireIfDue b s) ∧ SameFaults s (fireIfDue b s) ∧
      (fireIfDue b s).readersView = s.readersView := by
  unfold fireIfDue; (repeat' split) <;> simp [Frozen, SameRecords, SameFaults]

@[simp] theorem replan_keeps (b : Bay) (s : State) :
    Frozen s (replan b s) ∧ SameRecords s (replan b s) ∧ SameFaults s (replan b s) ∧
      (replan b s).readersView = s.readersView := by
  simp [replan, Frozen, SameRecords, SameFaults]

@[simp] theorem judgePlan_keeps (b : Bay) (s : State) :
    Frozen s (judgePlan b s) ∧ SameRecords s (judgePlan b s) ∧ SameFaults s (judgePlan b s) ∧
      (judgePlan b s).readersView = s.readersView := by
  unfold judgePlan; (repeat' split) <;> simp [Frozen, SameRecords, SameFaults]

@[simp] theorem enterOff_keeps (b : Bay) (s : State) :
    Frozen s (enterOff b s) ∧ SameRecords s (enterOff b s) ∧ SameFaults s (enterOff b s) ∧
      (enterOff b s).readersView = s.readersView := by
  simp [enterOff, Frozen, SameRecords, SameFaults]

@[simp] theorem stoppingToOff_keeps (b : Bay) (s : State) :
    Frozen s (stoppingToOff b s) ∧ SameRecords s (stoppingToOff b s) ∧ SameFaults s (stoppingToOff b s) ∧
      (stoppingToOff b s).readersView = s.readersView := by
  unfold stoppingToOff; (repeat' split) <;> simp [Frozen, SameRecords, SameFaults]

@[simp] theorem enterStopping_keeps (b : Bay) (s : State) :
    Frozen s (enterStopping b s) ∧ SameRecords s (enterStopping b s) ∧ SameFaults s (enterStopping b s) ∧
      (enterStopping b s).readersView = s.readersView := by
  simp [enterStopping, Frozen, SameRecords, SameFaults]

@[simp] theorem thermostat_keeps (b : Bay) (reading : Int) (s : State) :
    Frozen s (thermostat b reading s) ∧ SameRecords s (thermostat b reading s) ∧
      SameFaults s (thermostat b reading s) ∧ (thermostat b reading s).readersView = s.readersView := by
  unfold thermostat; (repeat' split) <;> simp [Frozen, SameRecords, SameFaults]

@[simp] theorem thermostatNow_keeps (b : Bay) (s : State) :
    Frozen s (thermostatNow b s) ∧ SameRecords s (thermostatNow b s) ∧ SameFaults s (thermostatNow b s) ∧
      (thermostatNow b s).readersView = s.readersView := by
  unfold thermostatNow; (repeat' split) <;> simp [Frozen, SameRecords, SameFaults]

@[simp] theorem actOnReading_keeps (b : Bay) (s : State) :
    Frozen s (actOnReading b s) ∧ SameRecords s (actOnReading b s) ∧ SameFaults s (actOnReading b s) ∧
      (actOnReading b s).readersView = s.readersView := by
  unfold actOnReading; (repeat' split) <;> simp [Frozen, SameRecords, SameFaults]

@[simp] theorem cabinReading_keeps (b : Bay) (reading : Option Int) (s : State) :
    Frozen s (cabinReading b reading s) ∧ SameRecords s (cabinReading b reading s) ∧
      SameFaults s (cabinReading b reading s) ∧ (cabinReading b reading s).readersView = s.readersView := by
  simp [cabinReading, Frozen, SameRecords, SameFaults]

@[simp] theorem heatDepartureSet_keeps (b : Bay) (s : State) :
    Frozen s (heatDepartureSet b s) ∧ SameRecords s (heatDepartureSet b s) ∧
      SameFaults s (heatDepartureSet b s) ∧ (heatDepartureSet b s).readersView = s.readersView := by
  unfold heatDepartureSet; (repeat' split) <;> simp [Frozen, SameRecords, SameFaults]

@[simp] theorem heatWithdrawn_keeps (b : Bay) (s : State) :
    Frozen s (heatWithdrawn b s) ∧ SameRecords s (heatWithdrawn b s) ∧ SameFaults s (heatWithdrawn b s) ∧
      (heatWithdrawn b s).readersView = s.readersView := by
  unfold heatWithdrawn; (repeat' split) <;> simp [Frozen, SameRecords, SameFaults]

@[simp] theorem clearHeatFlags_keeps (b : Bay) (s : State) :
    Frozen s (clearHeatFlags b s) ∧ SameRecords s (clearHeatFlags b s) ∧ SameFaults s (clearHeatFlags b s) ∧
      (clearHeatFlags b s).engineView = s.engineView ∧ (clearHeatFlags b s).readersView = s.readersView ∧
      SameSupply s (clearHeatFlags b s) ∧ (clearHeatFlags b s).loopsView = s.loopsView ∧
      (clearHeatFlags b s).eventsView = s.eventsView := by
  simp [clearHeatFlags, Frozen, SameRecords, SameFaults, SameSupply]

@[simp] theorem heatLost_keeps (wasPresent : Bool) (b : Bay) (s : State) :
    Frozen s (heatLost wasPresent b s) ∧ SameRecords s (heatLost wasPresent b s) ∧
      SameFaults s (heatLost wasPresent b s) ∧ (heatLost wasPresent b s).readersView = s.readersView := by
  unfold heatLost; (repeat' split) <;> simp [Frozen, SameRecords, SameFaults]

@[simp] theorem heatRecovered_keeps (b : Bay) (s : State) :
    Frozen s (heatRecovered b s) ∧ SameRecords s (heatRecovered b s) ∧ SameFaults s (heatRecovered b s) ∧
      (heatRecovered b s).readersView = s.readersView := by
  simp [heatRecovered, Frozen, SameRecords, SameFaults]

@[simp] theorem heatCleanup_keeps (b : Bay) (s : State) :
    Frozen s (heatCleanup b s) ∧ SameRecords s (heatCleanup b s) ∧ SameFaults s (heatCleanup b s) ∧
      (heatCleanup b s).readersView = s.readersView := by
  unfold heatCleanup; (repeat' split) <;> simp [Frozen, SameRecords, SameFaults]

@[simp] theorem heatOutOfService_keeps (b : Bay) (s : State) :
    Frozen s (heatOutOfService b s) ∧ SameRecords s (heatOutOfService b s) ∧
      SameFaults s (heatOutOfService b s) ∧ (heatOutOfService b s).readersView = s.readersView := by
  simp [heatOutOfService, Frozen, SameRecords, SameFaults]

@[simp] theorem copyProfile_keeps (b : Bay) (coachType : Nat) (s : State) :
    Frozen s (copyProfile b coachType s) ∧ SameRecords s (copyProfile b coachType s) ∧
      SameFaults s (copyProfile b coachType s) ∧ (copyProfile b coachType s).engineView = s.engineView ∧
      (copyProfile b coachType s).readersView = s.readersView ∧ SameSupply s (copyProfile b coachType s) ∧
      (copyProfile b coachType s).loopsView = s.loopsView ∧
      (copyProfile b coachType s).eventsView = s.eventsView := by
  unfold copyProfile; (repeat' split) <;> simp [Frozen, SameRecords, SameFaults, SameSupply]

/-! ### Machine/Reservations.lean -/

@[simp] theorem addReservation_keeps (h : Holder) (b : Bay) (s : State) :
    Frozen s (addReservation h b s) ∧ SameRecords s (addReservation h b s) ∧
      SameFaults s (addReservation h b s) ∧ (addReservation h b s).engineView = s.engineView ∧
      (addReservation h b s).readersView = s.readersView ∧ (addReservation h b s).heatsView = s.heatsView ∧
      (addReservation h b s).powersView = s.powersView ∧ (addReservation h b s).loopsView = s.loopsView ∧
      (addReservation h b s).eventsView = s.eventsView := by
  simp [addReservation, Frozen, SameRecords, SameFaults]

@[simp] theorem joinWaiting_keeps (h : Holder) (s : State) :
    Frozen s (joinWaiting h s) ∧ SameRecords s (joinWaiting h s) ∧ SameFaults s (joinWaiting h s) ∧
      (joinWaiting h s).engineView = s.engineView ∧ (joinWaiting h s).readersView = s.readersView ∧
      (joinWaiting h s).heatsView = s.heatsView ∧ (joinWaiting h s).powersView = s.powersView ∧
      (joinWaiting h s).loopsView = s.loopsView ∧ (joinWaiting h s).eventsView = s.eventsView := by
  unfold joinWaiting; (repeat' split) <;> simp [Frozen, SameRecords, SameFaults]

@[simp] theorem leaveWaiting_keeps (h : Holder) (s : State) :
    Frozen s (leaveWaiting h s) ∧ SameRecords s (leaveWaiting h s) ∧ SameFaults s (leaveWaiting h s) ∧
      (leaveWaiting h s).engineView = s.engineView ∧ (leaveWaiting h s).readersView = s.readersView ∧
      (leaveWaiting h s).heatsView = s.heatsView ∧ (leaveWaiting h s).powersView = s.powersView ∧
      (leaveWaiting h s).loopsView = s.loopsView ∧ (leaveWaiting h s).eventsView = s.eventsView := by
  simp [leaveWaiting, Frozen, SameRecords, SameFaults]

@[simp] theorem dropReservation_keeps (h : Holder) (s : State) :
    Frozen s (dropReservation h s) ∧ SameRecords s (dropReservation h s) ∧
      SameFaults s (dropReservation h s) ∧ (dropReservation h s).engineView = s.engineView ∧
      (dropReservation h s).readersView = s.readersView ∧ (dropReservation h s).heatsView = s.heatsView ∧
      (dropReservation h s).powersView = s.powersView ∧ (dropReservation h s).loopsView = s.loopsView ∧
      (dropReservation h s).eventsView = s.eventsView := by
  simp [dropReservation, Frozen, SameRecords, SameFaults]

@[simp] theorem disownLamp_keeps (b : Bay) (s : State) :
    Frozen s (disownLamp b s) ∧ SameRecords s (disownLamp b s) ∧ SameFaults s (disownLamp b s) ∧
      (disownLamp b s).engineView = s.engineView ∧ (disownLamp b s).readersView = s.readersView ∧
      (disownLamp b s).heatsView = s.heatsView ∧ SameSupply s (disownLamp b s) ∧
      (disownLamp b s).eventsView = s.eventsView := by
  simp [disownLamp, Frozen, SameRecords, SameFaults, SameSupply]

@[simp] theorem askSample_keeps (i : Fin 4) (s : State) :
    Frozen s (askSample i s) ∧ SameRecords s (askSample i s) ∧ SameFaults s (askSample i s) ∧
      (askSample i s).readersView = s.readersView ∧ (askSample i s).heatsView = s.heatsView ∧
      SameSupply s (askSample i s) ∧ (askSample i s).eventsView = s.eventsView := by
  unfold askSample; (repeat' split) <;> simp [Frozen, SameRecords, SameFaults, SameSupply]

@[simp] theorem stepBegins_keeps (i : Fin 4) (s : State) :
    Frozen s (stepBegins i s) ∧ SameRecords s (stepBegins i s) ∧ SameFaults s (stepBegins i s) ∧
      (stepBegins i s).readersView = s.readersView ∧ (stepBegins i s).heatsView = s.heatsView ∧
      (stepBegins i s).eventsView = s.eventsView := by
  unfold stepBegins; (repeat' split) <;> simp [Frozen, SameRecords, SameFaults]

@[simp] theorem slotGranted_keeps (i : Fin 4) (s : State) :
    Frozen s (slotGranted i s) ∧ SameRecords s (slotGranted i s) ∧ SameFaults s (slotGranted i s) ∧
      (slotGranted i s).readersView = s.readersView ∧ (slotGranted i s).heatsView = s.heatsView ∧
      (slotGranted i s).eventsView = s.eventsView := by
  unfold slotGranted; (repeat' split) <;> simp [Frozen, SameRecords, SameFaults]

@[simp] theorem askReader_keeps (b : Bay) (req : LoopReq) (s : State) :
    Frozen s (askReader b req s) ∧ SameRecords s (askReader b req s) ∧ SameFaults s (askReader b req s) ∧
      (askReader b req s).engineView = s.engineView ∧ (askReader b req s).readersView = s.readersView ∧
      (askReader b req s).heatsView = s.heatsView ∧ SameSupply s (askReader b req s) ∧
      (askReader b req s).eventsView = s.eventsView := by
  simp [askReader, Frozen, SameRecords, SameFaults, SameSupply]

@[simp] theorem visitBegins_keeps (b : Bay) (rest : List Bay) (s : State) :
    Frozen s (visitBegins b rest s) ∧ SameRecords s (visitBegins b rest s) ∧
      SameFaults s (visitBegins b rest s) ∧ (visitBegins b rest s).engineView = s.engineView ∧
      (visitBegins b rest s).heatsView = s.heatsView ∧ SameSupply s (visitBegins b rest s) ∧
      (visitBegins b rest s).eventsView = s.eventsView := by
  unfold visitBegins
  (try dsimp only)
  (repeat' split) <;> (try simp [Frozen, SameRecords, SameFaults, SameSupply]) <;> (try and_intros) <;> rfl

@[simp] theorem grantHolder_keeps (h : Holder) (s : State) :
    Frozen s (grantHolder h s) ∧ SameRecords s (grantHolder h s) ∧ SameFaults s (grantHolder h s) ∧
      (grantHolder h s).heatsView = s.heatsView ∧ (grantHolder h s).eventsView = s.eventsView := by
  unfold grantHolder; (repeat' split) <;> simp [Frozen, SameRecords, SameFaults]

@[simp] theorem requestPower_keeps (h : Holder) (s : State) :
    Frozen s (requestPower h s) ∧ SameRecords s (requestPower h s) ∧ SameFaults s (requestPower h s) ∧
      (requestPower h s).heatsView = s.heatsView ∧ (requestPower h s).eventsView = s.eventsView := by
  unfold requestPower; (repeat' split) <;> simp [Frozen, SameRecords, SameFaults]

@[simp] theorem passTurn_keeps (h : Holder) (s : State) :
    Frozen s (passTurn s h) ∧ SameRecords s (passTurn s h) ∧ SameFaults s (passTurn s h) ∧
      (passTurn s h).heatsView = s.heatsView ∧ (passTurn s h).eventsView = s.eventsView := by
  unfold passTurn; (repeat' split) <;> simp [Frozen, SameRecords, SameFaults]

@[simp] theorem grantPass_keeps (s : State) :
    Frozen s (grantPass s) ∧ SameRecords s (grantPass s) ∧ SameFaults s (grantPass s) ∧
      (grantPass s).heatsView = s.heatsView ∧ (grantPass s).eventsView = s.eventsView := by
  simp [grantPass, Frozen, SameRecords, SameFaults]

@[simp] theorem giveBack_keeps (h : Holder) (s : State) :
    Frozen s (giveBack h s) ∧ SameRecords s (giveBack h s) ∧ SameFaults s (giveBack h s) ∧
      (giveBack h s).heatsView = s.heatsView ∧ (giveBack h s).eventsView = s.eventsView := by
  unfold giveBack; (repeat' split) <;> simp [Frozen, SameRecords, SameFaults]

@[simp] theorem askVisit_keeps (s : State) :
    Frozen s (askVisit s) ∧ SameRecords s (askVisit s) ∧ SameFaults s (askVisit s) ∧
      (askVisit s).heatsView = s.heatsView ∧ (askVisit s).eventsView = s.eventsView := by
  unfold askVisit; (repeat' split) <;> simp [Frozen, SameRecords, SameFaults]

@[simp] theorem markQueued_keeps (b : Bay) (s : State) :
    Frozen s (markQueued b s) ∧ SameRecords s (markQueued b s) ∧ SameFaults s (markQueued b s) ∧
      (markQueued b s).engineView = s.engineView ∧ (markQueued b s).heatsView = s.heatsView ∧
      SameSupply s (markQueued b s) ∧ (markQueued b s).loopsView = s.loopsView ∧
      (markQueued b s).eventsView = s.eventsView := by
  simp [markQueued, Frozen, SameRecords, SameFaults, SameSupply]

@[simp] theorem placeTail_keeps (b : Bay) (s : State) :
    Frozen s (placeTail b s) ∧ SameRecords s (placeTail b s) ∧ SameFaults s (placeTail b s) ∧
      (placeTail b s).heatsView = s.heatsView ∧ (placeTail b s).eventsView = s.eventsView := by
  unfold placeTail
  (try dsimp only)
  (repeat' split) <;> (try simp [Frozen, SameRecords, SameFaults]) <;> (try and_intros) <;> rfl

@[simp] theorem leaveQueues_keeps (b : Bay) (s : State) :
    Frozen s (leaveQueues b s) ∧ SameRecords s (leaveQueues b s) ∧ SameFaults s (leaveQueues b s) ∧
      (leaveQueues b s).heatsView = s.heatsView ∧ (leaveQueues b s).eventsView = s.eventsView := by
  unfold leaveQueues
  (try dsimp only)
  (repeat' split) <;> (try simp [Frozen, SameRecords, SameFaults]) <;> (try and_intros) <;> rfl

@[simp] theorem readerResume_keeps (s : State) :
    Frozen s (readerResume s) ∧ SameRecords s (readerResume s) ∧ SameFaults s (readerResume s) ∧
      (readerResume s).heatsView = s.heatsView ∧ (readerResume s).eventsView = s.eventsView := by
  unfold readerResume
  (try dsimp only)
  (repeat' split) <;> (try simp [Frozen, SameRecords, SameFaults]) <;> (try and_intros) <;> rfl

end Sys2Proof.Machine
end

