-- ==== Sys2Proof/Laws/KeepsRecords.lean ====
section
/-! SUPPORT. The frame of each operation, what it leaves as it was: the Fault Pool, the
contactors, the lamp checks, the Clearance Unit, the departures and the Bay Table. -/

namespace Sys2Proof.Machine

/-! ### Machine/Pool.lean -/

@[simp] theorem updEntry_keeps (b : Bay) (source code : Nat) (f : FaultEntry → FaultEntry) (s : State) :
    Frozen s (updEntry b source code f s) ∧ SameRecords s (updEntry b source code f s) ∧
      (updEntry b source code f s).clearsView = s.clearsView ∧
      (updEntry b source code f s).engineView = s.engineView ∧
      (updEntry b source code f s).readersView = s.readersView ∧
      (updEntry b source code f s).heatsView = s.heatsView ∧ SameSupply s (updEntry b source code f s) ∧
      (updEntry b source code f s).loopsView = s.loopsView ∧
      (updEntry b source code f s).eventsView = s.eventsView := by
  simp [updEntry, Frozen, SameRecords, SameSupply]

@[simp] theorem tellIfBlocks_keeps (b : Bay) (before after : Bool) (s : State) :
    Frozen s (tellIfBlocks b before after s) ∧ SameRecords s (tellIfBlocks b before after s) ∧
      (tellIfBlocks b before after s).poolView = s.poolView ∧
      (tellIfBlocks b before after s).engineView = s.engineView ∧
      (tellIfBlocks b before after s).readersView = s.readersView ∧
      (tellIfBlocks b before after s).heatsView = s.heatsView ∧ SameSupply s (tellIfBlocks b before after s) ∧
      (tellIfBlocks b before after s).loopsView = s.loopsView := by
  simp [tellIfBlocks, Frozen, SameRecords, SameSupply]

@[simp] theorem judgeLow_keeps (s : State) :
    Frozen s (judgeLow s) ∧ SameRecords s (judgeLow s) ∧ (judgeLow s).clearsView = s.clearsView ∧
      (judgeLow s).engineView = s.engineView ∧ (judgeLow s).readersView = s.readersView ∧
      (judgeLow s).heatsView = s.heatsView ∧ SameSupply s (judgeLow s) ∧ (judgeLow s).loopsView = s.loopsView := by
  unfold judgeLow
  (try dsimp only)
  (repeat' split) <;> (try simp [Frozen, SameRecords, SameSupply]) <;> (try and_intros) <;> rfl

@[simp] theorem removeEntries_keeps (b : Bay) (unwanted : FaultEntry → Bool) (s : State) :
    Frozen s (removeEntries b unwanted s) ∧ SameRecords s (removeEntries b unwanted s) ∧
      (removeEntries b unwanted s).clearsView = s.clearsView ∧
      (removeEntries b unwanted s).heatsView = s.heatsView := by
  unfold removeEntries
  (try dsimp only)
  (repeat' split) <;> (try simp [Frozen, SameRecords]) <;> (try and_intros) <;> rfl

@[simp] theorem mergeInto_keeps (b : Bay) (o : Offer) (e : FaultEntry) (s : State) :
    Frozen s (mergeInto b o e s) ∧ SameRecords s (mergeInto b o e s) ∧
      (mergeInto b o e s).engineView = s.engineView ∧ (mergeInto b o e s).readersView = s.readersView ∧
      (mergeInto b o e s).heatsView = s.heatsView ∧ SameSupply s (mergeInto b o e s) ∧
      (mergeInto b o e s).loopsView = s.loopsView := by
  simp [mergeInto, Frozen, SameRecords, SameSupply]

@[simp] theorem makeEntry_keeps (b : Bay) (o : Offer) (s : State) :
    Frozen s (makeEntry b o s) ∧ SameRecords s (makeEntry b o s) ∧
      (makeEntry b o s).engineView = s.engineView ∧ (makeEntry b o s).readersView = s.readersView ∧
      (makeEntry b o s).heatsView = s.heatsView ∧ SameSupply s (makeEntry b o s) ∧
      (makeEntry b o s).loopsView = s.loopsView := by
  unfold makeEntry
  (try dsimp only)
  (repeat' split) <;> (try simp [Frozen, SameRecords, SameSupply]) <;> (try and_intros) <;> rfl

@[simp] theorem displace_keeps (b : Bay) (o : Offer) (old : FaultEntry) (s : State) :
    Frozen s (displace b o old s) ∧ SameRecords s (displace b o old s) ∧
      (displace b o old s).engineView = s.engineView ∧ (displace b o old s).readersView = s.readersView ∧
      (displace b o old s).heatsView = s.heatsView ∧ SameSupply s (displace b o old s) ∧
      (displace b o old s).loopsView = s.loopsView := by
  simp [displace, Frozen, SameRecords, SameSupply]

@[simp] theorem refuseRecord_keeps (b : Bay) (s : State) :
    Frozen s (refuseRecord b s) ∧ SameRecords s (refuseRecord b s) ∧
      (refuseRecord b s).engineView = s.engineView ∧ (refuseRecord b s).readersView = s.readersView ∧
      (refuseRecord b s).heatsView = s.heatsView ∧ SameSupply s (refuseRecord b s) ∧
      (refuseRecord b s).loopsView = s.loopsView := by
  simp [refuseRecord, Frozen, SameRecords, SameSupply]

@[simp] theorem offer_keeps (b : Bay) (o : Offer) (s : State) :
    Frozen s (offer b o s).1 ∧ SameRecords s (offer b o s).1 ∧ (offer b o s).1.engineView = s.engineView ∧
      (offer b o s).1.readersView = s.readersView ∧ (offer b o s).1.heatsView = s.heatsView ∧
      SameSupply s (offer b o s).1 ∧ (offer b o s).1.loopsView = s.loopsView := by
  unfold offer; (repeat' split) <;> simp [Frozen, SameRecords, SameSupply]

@[simp] theorem offerPart_keeps (b : Bay) (source code : Nat) (cls : FaultClass) (s : State) :
    Frozen s (offerPart b source code cls s) ∧ SameRecords s (offerPart b source code cls s) ∧
      (offerPart b source code cls s).engineView = s.engineView ∧
      (offerPart b source code cls s).readersView = s.readersView ∧
      (offerPart b source code cls s).heatsView = s.heatsView ∧ SameSupply s (offerPart b source code cls s) ∧
      (offerPart b source code cls s).loopsView = s.loopsView := by
  simp [offerPart, Frozen, SameRecords, SameSupply]

@[simp] theorem recordStuck_keeps (b : Bay) (s : State) :
    Frozen s (recordStuck b s) ∧ SameRecords s (recordStuck b s) ∧
      (recordStuck b s).engineView = s.engineView ∧ (recordStuck b s).readersView = s.readersView ∧
      (recordStuck b s).heatsView = s.heatsView ∧ SameSupply s (recordStuck b s) ∧
      (recordStuck b s).loopsView = s.loopsView := by
  simp [recordStuck, Frozen, SameRecords, SameSupply]

@[simp] theorem passBegun_keeps (b : Bay) (s : State) :
    Frozen s (passBegun b s) ∧ SameRecords s (passBegun b s) ∧ (passBegun b s).clearsView = s.clearsView ∧
      (passBegun b s).engineView = s.engineView ∧ (passBegun b s).readersView = s.readersView ∧
      (passBegun b s).heatsView = s.heatsView ∧ SameSupply s (passBegun b s) ∧
      (passBegun b s).loopsView = s.loopsView ∧ (passBegun b s).eventsView = s.eventsView := by
  simp [passBegun, Frozen, SameRecords, SameSupply]

@[simp] theorem passCompleted_keeps (b : Bay) (s : State) :
    Frozen s (passCompleted b s) ∧ SameRecords s (passCompleted b s) ∧
      (passCompleted b s).clearsView = s.clearsView ∧ (passCompleted b s).heatsView = s.heatsView := by
  simp [passCompleted, Frozen, SameRecords]

@[simp] theorem clearAnswered_keeps (b : Bay) (source code : Nat) (a : ClearAnswer) (s : State) :
    Frozen s (clearAnswered b source code a s) ∧ SameRecords s (clearAnswered b source code a s) ∧
      (clearAnswered b source code a s).heatsView = s.heatsView := by
  unfold clearAnswered; (repeat' split) <;> simp [Frozen, SameRecords]

@[simp] theorem handClear_keeps (b : Bay) (source code : Nat) (s : State) :
    Frozen s (handClear b source code s) ∧ SameRecords s (handClear b source code s) ∧
      SameFaults s (handClear b source code s) ∧ (handClear b source code s).heatsView = s.heatsView ∧
      (handClear b source code s).eventsView = s.eventsView := by
  unfold handClear; (repeat' split) <;> simp [Frozen, SameRecords, SameFaults]

@[simp] theorem askClear_keeps (b : Bay) (e : FaultEntry) (s : State) :
    Frozen s (askClear b e s) ∧ SameRecords s (askClear b e s) ∧ (askClear b e s).heatsView = s.heatsView := by
  simp [askClear, Frozen, SameRecords]

@[simp] theorem expireDeferrals_keeps (b : Bay) (s : State) :
    Frozen s (expireDeferrals b s) ∧ SameRecords s (expireDeferrals b s) ∧
      (expireDeferrals b s).engineView = s.engineView ∧ (expireDeferrals b s).readersView = s.readersView ∧
      (expireDeferrals b s).heatsView = s.heatsView ∧ SameSupply s (expireDeferrals b s) ∧
      (expireDeferrals b s).loopsView = s.loopsView := by
  simp [expireDeferrals, Frozen, SameRecords, SameSupply]

@[simp] theorem emptyFaults_keeps (b : Bay) (s : State) :
    Frozen s (emptyFaults b s) ∧ SameRecords s (emptyFaults b s) ∧
      (emptyFaults b s).clearsView = s.clearsView ∧ (emptyFaults b s).heatsView = s.heatsView := by
  simp [emptyFaults, Frozen, SameRecords]

/-! ### Machine/Contactors.lean -/

@[simp] theorem foundStuck_keeps (b : Bay) (s : State) :
    Frozen s (foundStuck b s) ∧ SameRecords s (foundStuck b s) ∧ (foundStuck b s).engineView = s.engineView ∧
      (foundStuck b s).readersView = s.readersView ∧ (foundStuck b s).heatsView = s.heatsView ∧
      (foundStuck b s).booksView = s.booksView ∧ (foundStuck b s).loopsView = s.loopsView := by
  simp [foundStuck, Frozen, SameRecords]

@[simp] theorem watchPoll_keeps (b : Bay) (s : State) :
    Frozen s (watchPoll b s) ∧ SameRecords s (watchPoll b s) ∧ (watchPoll b s).engineView = s.engineView ∧
      (watchPoll b s).readersView = s.readersView ∧ (watchPoll b s).heatsView = s.heatsView ∧
      (watchPoll b s).booksView = s.booksView ∧ (watchPoll b s).loopsView = s.loopsView := by
  unfold watchPoll; (repeat' split) <;> simp [Frozen, SameRecords]

@[simp] theorem judgeStuckMark_keeps (b : Bay) (s : State) :
    Frozen s (judgeStuckMark b s) ∧ SameRecords s (judgeStuckMark b s) ∧ SameFaults s (judgeStuckMark b s) ∧
      (judgeStuckMark b s).engineView = s.engineView ∧ (judgeStuckMark b s).readersView = s.readersView ∧
      (judgeStuckMark b s).heatsView = s.heatsView ∧ (judgeStuckMark b s).booksView = s.booksView ∧
      (judgeStuckMark b s).loopsView = s.loopsView ∧ (judgeStuckMark b s).eventsView = s.eventsView := by
  simp [judgeStuckMark, Frozen, SameRecords, SameFaults]

@[simp] theorem reduceExcess_keeps (b : Bay) (s : State) :
    Frozen s (reduceExcess b s) ∧ SameRecords s (reduceExcess b s) ∧ SameFaults s (reduceExcess b s) ∧
      (reduceExcess b s).readersView = s.readersView ∧ (reduceExcess b s).heatsView = s.heatsView ∧
      (reduceExcess b s).eventsView = s.eventsView := by
  simp [reduceExcess, Frozen, SameRecords, SameFaults]

@[simp] theorem allocatorCount_keeps (b : Bay) (count : Nat) (s : State) :
    Frozen s (allocatorCount b count s) ∧ SameRecords s (allocatorCount b count s) ∧
      (allocatorCount b count s).readersView = s.readersView ∧
      (allocatorCount b count s).heatsView = s.heatsView := by
  simp [allocatorCount, Frozen, SameRecords]

@[simp] theorem closedCount_keeps (b : Bay) (count : Nat) (s : State) :
    Frozen s (closedCount b count s) ∧ SameRecords s (closedCount b count s) ∧
      (closedCount b count s).readersView = s.readersView := by
  simp [closedCount, Frozen, SameRecords]

@[simp] theorem allocatorLost_keeps (b : Bay) (s : State) :
    Frozen s (allocatorLost b s) ∧ SameRecords s (allocatorLost b s) ∧ SameFaults s (allocatorLost b s) ∧
      (allocatorLost b s).engineView = s.engineView ∧ (allocatorLost b s).readersView = s.readersView ∧
      (allocatorLost b s).heatsView = s.heatsView ∧ (allocatorLost b s).loopsView = s.loopsView ∧
      (allocatorLost b s).eventsView = s.eventsView := by
  simp [allocatorLost, Frozen, SameRecords, SameFaults]

/-! ### Machine/Lamps.lean -/

@[simp] theorem judgeStale_keeps (b : Bay) (s : State) :
    Frozen s (judgeStale b s) ∧ SameRecords s (judgeStale b s) ∧ (judgeStale b s).poolView = s.poolView ∧
      (judgeStale b s).readersView = s.readersView ∧ (judgeStale b s).heatsView = s.heatsView ∧
      SameSupply s (judgeStale b s) ∧ (judgeStale b s).loopsView = s.loopsView := by
  simp [judgeStale, Frozen, SameRecords, SameSupply]

@[simp] theorem lampOffFailed_keeps (b : Bay) (s : State) :
    Frozen s (lampOffFailed b s) ∧ SameRecords s (lampOffFailed b s) ∧ SameFaults s (lampOffFailed b s) ∧
      (lampOffFailed b s).readersView = s.readersView ∧ (lampOffFailed b s).heatsView = s.heatsView ∧
      SameSupply s (lampOffFailed b s) ∧ (lampOffFailed b s).loopsView = s.loopsView ∧
      (lampOffFailed b s).eventsView = s.eventsView := by
  simp [lampOffFailed, Frozen, SameRecords, SameFaults, SameSupply]

@[simp] theorem lampOffTaken_keeps (b : Bay) (s : State) :
    Frozen s (lampOffTaken b s) ∧ SameRecords s (lampOffTaken b s) ∧ SameFaults s (lampOffTaken b s) ∧
      (lampOffTaken b s).readersView = s.readersView ∧ (lampOffTaken b s).heatsView = s.heatsView ∧
      SameSupply s (lampOffTaken b s) ∧ (lampOffTaken b s).loopsView = s.loopsView ∧
      (lampOffTaken b s).eventsView = s.eventsView := by
  simp [lampOffTaken, Frozen, SameRecords, SameFaults, SameSupply]

@[simp] theorem askLampOff_keeps (b : Bay) (s : State) :
    Frozen s (askLampOff b s) ∧ SameRecords s (askLampOff b s) ∧ SameFaults s (askLampOff b s) ∧
      (askLampOff b s).readersView = s.readersView ∧ (askLampOff b s).heatsView = s.heatsView ∧
      SameSupply s (askLampOff b s) ∧ (askLampOff b s).eventsView = s.eventsView := by
  unfold askLampOff; (repeat' split) <;> simp [Frozen, SameRecords, SameFaults, SameSupply]

@[simp] theorem lampLeft_keeps (b : Bay) (s : State) :
    Frozen s (lampLeft b s) ∧ SameRecords s (lampLeft b s) ∧ SameFaults s (lampLeft b s) ∧
      (lampLeft b s).readersView = s.readersView ∧ (lampLeft b s).heatsView = s.heatsView ∧
      SameSupply s (lampLeft b s) ∧ (lampLeft b s).eventsView = s.eventsView := by
  simp [lampLeft, Frozen, SameRecords, SameFaults, SameSupply]

@[simp] theorem removeDisproved_keeps (b : Bay) (r : LampStep × Band) (s : State) :
    Frozen s (removeDisproved b r s) ∧ SameRecords s (removeDisproved b r s) ∧
      (removeDisproved b r s).clearsView = s.clearsView ∧ (removeDisproved b r s).heatsView = s.heatsView := by
  simp [removeDisproved, Frozen, SameRecords]

@[simp] theorem offerDefect_keeps (b : Bay) (r : LampStep × Band) (s : State) :
    Frozen s (offerDefect b r s) ∧ SameRecords s (offerDefect b r s) ∧
      (offerDefect b r s).engineView = s.engineView ∧ (offerDefect b r s).readersView = s.readersView ∧
      (offerDefect b r s).heatsView = s.heatsView ∧ SameSupply s (offerDefect b r s) ∧
      (offerDefect b r s).loopsView = s.loopsView := by
  unfold offerDefect; (repeat' split) <;> simp [Frozen, SameRecords, SameSupply]

@[simp] theorem writeDefects_keeps (b : Bay) (results : List (LampStep × Band)) (s : State) :
    Frozen s (writeDefects b results s) ∧ SameRecords s (writeDefects b results s) ∧
      (writeDefects b results s).heatsView = s.heatsView := by
  simp [writeDefects, Frozen, SameRecords]

@[simp] theorem recordResult_keeps (b : Bay) (blocking advisory : Nat) (s : State) :
    Frozen s (recordResult b blocking advisory s) ∧ SameRecords s (recordResult b blocking advisory s) ∧
      (recordResult b blocking advisory s).poolView = s.poolView ∧
      (recordResult b blocking advisory s).readersView = s.readersView ∧
      SameSupply s (recordResult b blocking advisory s) ∧
      (recordResult b blocking advisory s).loopsView = s.loopsView := by
  simp [recordResult, Frozen, SameRecords, SameSupply]

@[simp] theorem completeEmpty_keeps (b : Bay) (s : State) :
    Frozen s (completeEmpty b s) ∧ SameRecords s (completeEmpty b s) ∧
      (completeEmpty b s).poolView = s.poolView ∧ (completeEmpty b s).readersView = s.readersView ∧
      SameSupply s (completeEmpty b s) ∧ (completeEmpty b s).loopsView = s.loopsView := by
  simp [completeEmpty, Frozen, SameRecords, SameSupply]

@[simp] theorem freeSlot_keeps (i : Fin 4) (s : State) :
    Frozen s (freeSlot i s) ∧ SameRecords s (freeSlot i s) ∧ SameFaults s (freeSlot i s) ∧
      (freeSlot i s).readersView = s.readersView ∧ (freeSlot i s).heatsView = s.heatsView ∧
      SameSupply s (freeSlot i s) ∧ (freeSlot i s).loopsView = s.loopsView ∧
      (freeSlot i s).eventsView = s.eventsView := by
  unfold freeSlot
  (try dsimp only)
  (repeat' split) <;> (try simp [Frozen, SameRecords, SameFaults, SameSupply]) <;> (try and_intros) <;> rfl

@[simp] theorem completeSlot_keeps (i : Fin 4) (c : Slot) (s : State) :
    Frozen s (completeSlot i c s) ∧ SameRecords s (completeSlot i c s) := by
  simp [completeSlot, Frozen, SameRecords]

@[simp] theorem takeSlot_keeps (i : Fin 4) (b : Bay) (s : State) :
    Frozen s (takeSlot i b s) ∧ SameRecords s (takeSlot i b s) ∧ SameFaults s (takeSlot i b s) ∧
      (takeSlot i b s).heatsView = s.heatsView ∧ (takeSlot i b s).eventsView = s.eventsView := by
  unfold takeSlot
  (try dsimp only)
  (repeat' split) <;> (try simp [Frozen, SameRecords, SameFaults]) <;> (try and_intros) <;> rfl

@[simp] theorem takeHead_keeps (s : State) :
    Frozen s (takeHead s) ∧ SameRecords s (takeHead s) ∧ (takeHead s).poolView = s.poolView := by
  unfold takeHead; (try dsimp only); (repeat' split) <;> (try simp [Frozen, SameRecords]) <;> (try and_intros) <;> rfl

@[simp] theorem takeHeads_keeps (n : Nat) (s : State) :
    Frozen s (takeHeads n s) ∧ SameRecords s (takeHeads n s) ∧ (takeHeads n s).poolView = s.poolView := by
  induction n generalizing s with
  | zero => simp [takeHeads, Frozen, SameRecords]
  | succ n ih => simp [takeHeads, ih, Frozen, SameRecords]

@[simp] theorem takeSlots_keeps (s : State) :
    Frozen s (takeSlots s) ∧ SameRecords s (takeSlots s) ∧ (takeSlots s).poolView = s.poolView := by
  simp [takeSlots, Frozen, SameRecords]

@[simp] theorem joinLampQueue_keeps (b : Bay) (s : State) :
    Frozen s (joinLampQueue b s) ∧ SameRecords s (joinLampQueue b s) ∧ SameFaults s (joinLampQueue b s) ∧
      (joinLampQueue b s).readersView = s.readersView ∧ (joinLampQueue b s).heatsView = s.heatsView ∧
      SameSupply s (joinLampQueue b s) ∧ (joinLampQueue b s).loopsView = s.loopsView ∧
      (joinLampQueue b s).eventsView = s.eventsView := by
  unfold joinLampQueue
  (try dsimp only)
  (repeat' split) <;> (try simp [Frozen, SameRecords, SameFaults, SameSupply]) <;> (try and_intros) <;> rfl

@[simp] theorem startCheck_keeps (b : Bay) (plan : Nat) (s : State) :
    Frozen s (startCheck b plan s) ∧ SameRecords s (startCheck b plan s) ∧
      (startCheck b plan s).poolView = s.poolView := by
  unfold startCheck; (repeat' split) <;> simp [Frozen, SameRecords]

@[simp] theorem autoCheck_keeps (b : Bay) (s : State) :
    Frozen s (autoCheck b s) ∧ SameRecords s (autoCheck b s) ∧ (autoCheck b s).poolView = s.poolView := by
  unfold autoCheck; (repeat' split) <;> simp [Frozen, SameRecords]

@[simp] theorem abortSlot_keeps (i : Fin 4) (c : Slot) (s : State) :
    Frozen s (abortSlot i c s) ∧ SameRecords s (abortSlot i c s) ∧ SameFaults s (abortSlot i c s) ∧
      (abortSlot i c s).heatsView = s.heatsView ∧ (abortSlot i c s).eventsView = s.eventsView := by
  simp [abortSlot, Frozen, SameRecords, SameFaults]

@[simp] theorem abortCheck_keeps (b : Bay) (check : CheckState) (s : State) :
    Frozen s (abortCheck b check s) ∧ (abortCheck b check s).bookingsView = s.bookingsView := by
  unfold abortCheck; (try dsimp only); (repeat' split) <;> (try simp [Frozen]) <;> (try and_intros) <;> rfl

@[simp] theorem lampCleanup_keeps (b : Bay) (s : State) :
    Frozen s (lampCleanup b s) ∧ (lampCleanup b s).bookingsView = s.bookingsView := by
  simp [lampCleanup, Frozen]

@[simp] theorem lampPowerWithdrawn_keeps (i : Fin 4) (s : State) :
    Frozen s (lampPowerWithdrawn i s) ∧ SameRecords s (lampPowerWithdrawn i s) ∧
      SameFaults s (lampPowerWithdrawn i s) ∧ (lampPowerWithdrawn i s).readersView = s.readersView ∧
      (lampPowerWithdrawn i s).heatsView = s.heatsView ∧ (lampPowerWithdrawn i s).booksView = s.booksView ∧
      (lampPowerWithdrawn i s).eventsView = s.eventsView := by
  unfold lampPowerWithdrawn; (repeat' split) <;> simp [Frozen, SameRecords, SameFaults]

@[simp] theorem nextSample_keeps (i : Fin 4) (s : State) :
    Frozen s (nextSample i s) ∧ SameRecords s (nextSample i s) ∧ SameFaults s (nextSample i s) ∧
      (nextSample i s).readersView = s.readersView ∧ (nextSample i s).heatsView = s.heatsView ∧
      SameSupply s (nextSample i s) ∧ (nextSample i s).loopsView = s.loopsView ∧
      (nextSample i s).eventsView = s.eventsView := by
  simp [nextSample, Frozen, SameRecords, SameFaults, SameSupply]

@[simp] theorem decideStep_keeps (i : Fin 4) (c : Slot) (st : LampStep) (band : Band) (s : State) :
    Frozen s (decideStep i c st band s) ∧ SameRecords s (decideStep i c st band s) := by
  unfold decideStep
  (try dsimp only)
  (repeat' split) <;> (try simp [Frozen, SameRecords]) <;> (try and_intros) <;> rfl

@[simp] theorem validSample_keeps (i : Fin 4) (c : Slot) (st : LampStep) (reading : Option Nat) (s : State) :
    Frozen s (validSample i c st reading s) ∧ SameRecords s (validSample i c st reading s) := by
  unfold validSample
  (try dsimp only)
  (repeat' split) <;> (try simp [Frozen, SameRecords]) <;> (try and_intros) <;> rfl

@[simp] theorem takeSample_keeps (i : Fin 4) (outcome : Option (Option Nat)) (s : State) :
    Frozen s (takeSample i outcome s) ∧ SameRecords s (takeSample i outcome s) := by
  unfold takeSample; (repeat' split) <;> simp [Frozen, SameRecords]

@[simp] theorem sampleOutcome_keeps (b : Bay) (wanted : Bool) (o : Handed) (reading : Option Nat) (s : State) :
    Frozen s (sampleOutcome b wanted o reading s) ∧ SameRecords s (sampleOutcome b wanted o reading s) := by
  unfold sampleOutcome; (repeat' split) <;> simp [Frozen, SameRecords]

@[simp] theorem litAfterOff_keeps (b : Bay) (o : Handed) (s : State) :
    Frozen s (litAfterOff b o s) ∧ SameRecords s (litAfterOff b o s) ∧ SameFaults s (litAfterOff b o s) ∧
      (litAfterOff b o s).readersView = s.readersView ∧ (litAfterOff b o s).heatsView = s.heatsView ∧
      SameSupply s (litAfterOff b o s) ∧ (litAfterOff b o s).loopsView = s.loopsView ∧
      (litAfterOff b o s).eventsView = s.eventsView := by
  unfold litAfterOff; (repeat' split) <;> simp [Frozen, SameRecords, SameFaults, SameSupply]

@[simp] theorem nextStep_keeps (b : Bay) (s : State) :
    Frozen s (nextStep b s) ∧ SameRecords s (nextStep b s) ∧ SameFaults s (nextStep b s) ∧
      (nextStep b s).readersView = s.readersView ∧ (nextStep b s).heatsView = s.heatsView ∧
      (nextStep b s).eventsView = s.eventsView := by
  unfold nextStep; (repeat' split) <;> simp [Frozen, SameRecords, SameFaults]

@[simp] theorem lampOffOutcome_keeps (b : Bay) (wanted : Bool) (o : Handed) (s : State) :
    Frozen s (lampOffOutcome b wanted o s) ∧ SameRecords s (lampOffOutcome b wanted o s) ∧
      SameFaults s (lampOffOutcome b wanted o s) ∧ (lampOffOutcome b wanted o s).readersView = s.readersView ∧
      (lampOffOutcome b wanted o s).heatsView = s.heatsView ∧
      (lampOffOutcome b wanted o s).eventsView = s.eventsView := by
  simp [lampOffOutcome, Frozen, SameRecords, SameFaults]

@[simp] theorem restartSlot_keeps (n : Nat) (i : Fin 4) (s : State) :
    Frozen s (restartSlot n i s) ∧ SameRecords s (restartSlot n i s) := by
  unfold restartSlot; (repeat' split) <;> simp [Frozen, SameRecords]

@[simp] theorem loadPlan_keeps (n : Nat) (steps : List LampStep) (s : State) :
    (loadPlan n steps s).pinsView = s.pinsView ∧ (loadPlan n steps s).timesView = s.timesView ∧
      (loadPlan n steps s).depotView = s.depotView ∧ SameRecords s (loadPlan n steps s) := by
  unfold loadPlan; (try dsimp only); (repeat' split) <;> (try simp [SameRecords]) <;> (try and_intros) <;> rfl

/-! ### Machine/VisitEnds.lean -/

@[simp] theorem cutVisit_keeps (b : Bay) (s : State) :
    Frozen s (cutVisit b s) ∧ SameRecords s (cutVisit b s) ∧ SameFaults s (cutVisit b s) ∧
      (cutVisit b s).engineView = s.engineView ∧ (cutVisit b s).heatsView = s.heatsView ∧
      SameSupply s (cutVisit b s) ∧ (cutVisit b s).eventsView = s.eventsView := by
  unfold cutVisit
  (try dsimp only)
  (repeat' split) <;> (try simp [Frozen, SameRecords, SameFaults, SameSupply]) <;> (try and_intros) <;> rfl

@[simp] theorem endVisitOutside_keeps (b : Bay) (s : State) :
    Frozen s (endVisitOutside b s) ∧ SameRecords s (endVisitOutside b s) ∧
      SameFaults s (endVisitOutside b s) ∧ (endVisitOutside b s).heatsView = s.heatsView ∧
      (endVisitOutside b s).eventsView = s.eventsView := by
  unfold endVisitOutside; (repeat' split) <;> simp [Frozen, SameRecords, SameFaults]

@[simp] theorem partingSleep_keeps (b : Bay) (s : State) :
    Frozen s (partingSleep b s) ∧ SameRecords s (partingSleep b s) ∧ SameFaults s (partingSleep b s) ∧
      (partingSleep b s).engineView = s.engineView ∧ (partingSleep b s).readersView = s.readersView ∧
      (partingSleep b s).heatsView = s.heatsView ∧ SameSupply s (partingSleep b s) ∧
      (partingSleep b s).eventsView = s.eventsView := by
  unfold partingSleep; (repeat' split) <;> simp [Frozen, SameRecords, SameFaults, SameSupply]

@[simp] theorem placeHead_keeps (b : Bay) (s : State) :
    Frozen s (placeHead b s) ∧ SameRecords s (placeHead b s) ∧ SameFaults s (placeHead b s) ∧
      (placeHead b s).engineView = s.engineView ∧ (placeHead b s).heatsView = s.heatsView ∧
      SameSupply s (placeHead b s) ∧ (placeHead b s).loopsView = s.loopsView ∧
      (placeHead b s).eventsView = s.eventsView := by
  unfold placeHead
  (try dsimp only)
  (repeat' split) <;> (try simp [Frozen, SameRecords, SameFaults, SameSupply]) <;> (try and_intros) <;> rfl

@[simp] theorem visitWithdrawn_keeps (s : State) :
    Frozen s (visitWithdrawn s) ∧ SameRecords s (visitWithdrawn s) ∧ SameFaults s (visitWithdrawn s) ∧
      (visitWithdrawn s).heatsView = s.heatsView ∧ (visitWithdrawn s).eventsView = s.eventsView := by
  unfold visitWithdrawn; (repeat' split) <;> simp [Frozen, SameRecords, SameFaults]

@[simp] theorem readerLost_keeps (b : Bay) (s : State) :
    Frozen s (readerLost b s) ∧ SameRecords s (readerLost b s) ∧ SameFaults s (readerLost b s) ∧
      (readerLost b s).heatsView = s.heatsView ∧ (readerLost b s).eventsView = s.eventsView := by
  simp [readerLost, Frozen, SameRecords, SameFaults]

@[simp] theorem readerRelease_keeps (b : Bay) (s : State) :
    Frozen s (readerRelease b s) ∧ SameRecords s (readerRelease b s) ∧ SameFaults s (readerRelease b s) ∧
      (readerRelease b s).heatsView = s.heatsView ∧ (readerRelease b s).eventsView = s.eventsView := by
  simp [readerRelease, Frozen, SameRecords, SameFaults]

@[simp] theorem readerReleaseEnded_keeps (b : Bay) (s : State) :
    Frozen s (readerReleaseEnded b s) ∧ SameRecords s (readerReleaseEnded b s) ∧
      SameFaults s (readerReleaseEnded b s) ∧ (readerReleaseEnded b s).heatsView = s.heatsView ∧
      (readerReleaseEnded b s).eventsView = s.eventsView := by
  simp [readerReleaseEnded, Frozen, SameRecords, SameFaults]

@[simp] theorem readerCleanup_keeps (b : Bay) (s : State) :
    Frozen s (readerCleanup b s) ∧ SameRecords s (readerCleanup b s) ∧ SameFaults s (readerCleanup b s) ∧
      (readerCleanup b s).heatsView = s.heatsView ∧ (readerCleanup b s).eventsView = s.eventsView := by
  simp [readerCleanup, Frozen, SameRecords, SameFaults]

@[simp] theorem readerCleanupInVisit_keeps (b : Bay) (s : State) :
    Frozen s (readerCleanupInVisit b s) ∧ SameRecords s (readerCleanupInVisit b s) ∧
      SameFaults s (readerCleanupInVisit b s) ∧ (readerCleanupInVisit b s).heatsView = s.heatsView ∧
      (readerCleanupInVisit b s).eventsView = s.eventsView := by
  simp [readerCleanupInVisit, Frozen, SameRecords, SameFaults]

@[simp] theorem needsReading_keeps (b : Bay) (s : State) :
    Frozen s (needsReading b s) ∧ SameRecords s (needsReading b s) ∧ SameFaults s (needsReading b s) ∧
      (needsReading b s).heatsView = s.heatsView ∧ (needsReading b s).eventsView = s.eventsView := by
  simp [needsReading, Frozen, SameRecords, SameFaults]

/-! ### Machine/Clearance.lean -/

@[simp] theorem storeEvaluation_keeps (b : Bay) (waive : Bool) (s : State) :
    Frozen s (storeEvaluation b waive s) ∧ SameRecords s (storeEvaluation b waive s) ∧
      (storeEvaluation b waive s).poolView = s.poolView ∧
      (storeEvaluation b waive s).engineView = s.engineView ∧
      (storeEvaluation b waive s).readersView = s.readersView ∧
      (storeEvaluation b waive s).heatsView = s.heatsView ∧ SameSupply s (storeEvaluation b waive s) ∧
      (storeEvaluation b waive s).loopsView = s.loopsView := by
  unfold storeEvaluation; (repeat' split) <;> simp [Frozen, SameRecords, SameSupply]

@[simp] theorem withdrawOpen_keeps (b : Bay) (s : State) :
    Frozen s (withdrawOpen b s) ∧ SameRecords s (withdrawOpen b s) ∧ SameFaults s (withdrawOpen b s) ∧
      (withdrawOpen b s).engineView = s.engineView ∧ (withdrawOpen b s).readersView = s.readersView ∧
      (withdrawOpen b s).heatsView = s.heatsView ∧ SameSupply s (withdrawOpen b s) ∧
      (withdrawOpen b s).eventsView = s.eventsView := by
  simp [withdrawOpen, Frozen, SameRecords, SameFaults, SameSupply]

@[simp] theorem disownOpen_keeps (b : Bay) (s : State) :
    Frozen s (disownOpen b s) ∧ SameRecords s (disownOpen b s) ∧ SameFaults s (disownOpen b s) ∧
      (disownOpen b s).engineView = s.engineView ∧ (disownOpen b s).readersView = s.readersView ∧
      (disownOpen b s).heatsView = s.heatsView ∧ SameSupply s (disownOpen b s) ∧
      (disownOpen b s).eventsView = s.eventsView := by
  unfold disownOpen
  (try dsimp only)
  (repeat' split) <;> (try simp [Frozen, SameRecords, SameFaults, SameSupply]) <;> (try and_intros) <;> rfl

@[simp] theorem askOpen_keeps (b : Bay) (s : State) :
    Frozen s (askOpen b s) ∧ SameRecords s (askOpen b s) ∧ (askOpen b s).poolView = s.poolView ∧
      (askOpen b s).engineView = s.engineView ∧ (askOpen b s).readersView = s.readersView ∧
      (askOpen b s).heatsView = s.heatsView ∧ SameSupply s (askOpen b s) ∧
      (askOpen b s).eventsView = s.eventsView := by
  unfold askOpen; (repeat' split) <;> simp [Frozen, SameRecords, SameSupply]

@[simp] theorem askClose_keeps (b : Bay) (s : State) :
    Frozen s (askClose b s) ∧ SameRecords s (askClose b s) ∧ (askClose b s).poolView = s.poolView ∧
      (askClose b s).engineView = s.engineView ∧ (askClose b s).readersView = s.readersView ∧
      (askClose b s).heatsView = s.heatsView ∧ SameSupply s (askClose b s) ∧
      (askClose b s).eventsView = s.eventsView := by
  unfold askClose; (repeat' split) <;> simp [Frozen, SameRecords, SameSupply]

@[simp] theorem stopHeat_keeps (b : Bay) (s : State) :
    Frozen s (stopHeat b s) ∧ SameRecords s (stopHeat b s) ∧ (stopHeat b s).poolView = s.poolView ∧
      (stopHeat b s).engineView = s.engineView ∧ (stopHeat b s).readersView = s.readersView ∧
      (stopHeat b s).heatsView = s.heatsView ∧ SameSupply s (stopHeat b s) ∧
      (stopHeat b s).loopsView = s.loopsView ∧ (stopHeat b s).eventsView = s.eventsView := by
  simp [stopHeat, Frozen, SameRecords, SameSupply]

@[simp] theorem beginRelease_keeps (b : Bay) (s : State) :
    Frozen s (beginRelease b s) ∧ (beginRelease b s).bookingsView = s.bookingsView := by
  simp [beginRelease, Frozen]

@[simp] theorem relatchAfter_keeps (wasOpen : Bool) (b : Bay) (s : State) :
    Frozen s (relatchAfter wasOpen b s) ∧ SameRecords s (relatchAfter wasOpen b s) ∧
      (relatchAfter wasOpen b s).poolView = s.poolView ∧
      (relatchAfter wasOpen b s).engineView = s.engineView ∧
      (relatchAfter wasOpen b s).readersView = s.readersView ∧
      (relatchAfter wasOpen b s).heatsView = s.heatsView ∧ SameSupply s (relatchAfter wasOpen b s) ∧
      (relatchAfter wasOpen b s).eventsView = s.eventsView := by
  unfold relatchAfter; (repeat' split) <;> simp [Frozen, SameRecords, SameSupply]

@[simp] theorem endRelease_keeps (b : Bay) (state : ClearState) (reasons : ReasonSet) (s : State) :
    Frozen s (endRelease b state reasons s) ∧ SameRecords s (endRelease b state reasons s) ∧
      (endRelease b state reasons s).poolView = s.poolView := by
  simp [endRelease, Frozen, SameRecords]

@[simp] theorem clearanceCount_keeps (b : Bay) (count : Nat) (s : State) :
    Frozen s (clearanceCount b count s) ∧ SameRecords s (clearanceCount b count s) ∧
      (clearanceCount b count s).poolView = s.poolView ∧
      (clearanceCount b count s).engineView = s.engineView ∧
      (clearanceCount b count s).readersView = s.readersView ∧
      (clearanceCount b count s).heatsView = s.heatsView ∧ SameSupply s (clearanceCount b count s) ∧
      (clearanceCount b count s).eventsView = s.eventsView := by
  unfold clearanceCount; (repeat' split) <;> simp [Frozen, SameRecords, SameSupply]

@[simp] theorem clearanceLatch_keeps (b : Bay) (latch : Latch) (s : State) :
    Frozen s (clearanceLatch b latch s) ∧ SameRecords s (clearanceLatch b latch s) ∧
      (clearanceLatch b latch s).poolView = s.poolView ∧
      (clearanceLatch b latch s).engineView = s.engineView ∧
      (clearanceLatch b latch s).readersView = s.readersView ∧
      (clearanceLatch b latch s).heatsView = s.heatsView ∧ SameSupply s (clearanceLatch b latch s) ∧
      (clearanceLatch b latch s).loopsView = s.loopsView := by
  unfold clearanceLatch; (repeat' split) <;> simp [Frozen, SameRecords, SameSupply]

@[simp] theorem openOutcome_keeps (b : Bay) (o : Handed) (s : State) :
    Frozen s (openOutcome b o s) ∧ SameRecords s (openOutcome b o s) ∧
      (openOutcome b o s).poolView = s.poolView := by
  unfold openOutcome; (repeat' split) <;> simp [Frozen, SameRecords]

@[simp] theorem closeOutcome_keeps (b : Bay) (o : Handed) (s : State) :
    Frozen s (closeOutcome b o s) ∧ SameRecords s (closeOutcome b o s) ∧
      (closeOutcome b o s).poolView = s.poolView ∧ (closeOutcome b o s).engineView = s.engineView ∧
      (closeOutcome b o s).readersView = s.readersView ∧ (closeOutcome b o s).heatsView = s.heatsView ∧
      SameSupply s (closeOutcome b o s) := by
  unfold closeOutcome; (repeat' split) <;> simp [Frozen, SameRecords, SameSupply]

@[simp] theorem latchOutcome_keeps (b : Bay) (open_ wanted : Bool) (o : Handed) (s : State) :
    Frozen s (latchOutcome b open_ wanted o s) ∧ SameRecords s (latchOutcome b open_ wanted o s) ∧
      (latchOutcome b open_ wanted o s).poolView = s.poolView := by
  unfold latchOutcome; (repeat' split) <;> simp [Frozen, SameRecords]

@[simp] theorem validityExpires_keeps (b : Bay) (s : State) :
    Frozen s (validityExpires b s) ∧ SameRecords s (validityExpires b s) ∧
      (validityExpires b s).poolView = s.poolView ∧ (validityExpires b s).engineView = s.engineView ∧
      (validityExpires b s).readersView = s.readersView ∧ (validityExpires b s).heatsView = s.heatsView ∧
      SameSupply s (validityExpires b s) ∧ (validityExpires b s).loopsView = s.loopsView := by
  simp [validityExpires, Frozen, SameRecords, SameSupply]

@[simp] theorem stopLimitExpires_keeps (b : Bay) (s : State) :
    Frozen s (stopLimitExpires b s) ∧ SameRecords s (stopLimitExpires b s) := by
  simp [stopLimitExpires, Frozen, SameRecords]

@[simp] theorem latchLimitExpires_keeps (b : Bay) (s : State) :
    Frozen s (latchLimitExpires b s) ∧ SameRecords s (latchLimitExpires b s) ∧
      (latchLimitExpires b s).poolView = s.poolView := by
  simp [latchLimitExpires, Frozen, SameRecords]

@[simp] theorem windowExpires_keeps (b : Bay) (s : State) :
    Frozen s (windowExpires b s) ∧ SameRecords s (windowExpires b s) ∧
      (windowExpires b s).poolView = s.poolView := by
  simp [windowExpires, Frozen, SameRecords]

@[simp] theorem withdrawClearance_keeps (b : Bay) (s : State) :
    Frozen s (withdrawClearance b s) ∧ SameRecords s (withdrawClearance b s) ∧
      (withdrawClearance b s).poolView = s.poolView := by
  unfold withdrawClearance; (repeat' split) <;> simp [Frozen, SameRecords]

@[simp] theorem clearanceLost_keeps (b : Bay) (s : State) :
    Frozen s (clearanceLost b s) ∧ SameRecords s (clearanceLost b s) ∧
      (clearanceLost b s).poolView = s.poolView := by
  unfold clearanceLost; (repeat' split) <;> simp [Frozen, SameRecords]

@[simp] theorem clearanceCleanup_keeps (b : Bay) (s : State) :
    Frozen s (clearanceCleanup b s) ∧ SameRecords s (clearanceCleanup b s) ∧
      (clearanceCleanup b s).poolView = s.poolView ∧ (clearanceCleanup b s).engineView = s.engineView ∧
      (clearanceCleanup b s).readersView = s.readersView ∧ (clearanceCleanup b s).heatsView = s.heatsView ∧
      SameSupply s (clearanceCleanup b s) := by
  simp [clearanceCleanup, Frozen, SameRecords, SameSupply]

@[simp] theorem holdPlaced_keeps (b : Bay) (s : State) :
    Frozen s (holdPlaced b s) ∧ SameRecords s (holdPlaced b s) ∧ (holdPlaced b s).poolView = s.poolView := by
  unfold holdPlaced; (repeat' split) <;> simp [Frozen, SameRecords]

@[simp] theorem placeHold_keeps (b : Bay) (h : Hold) (s : State) :
    Frozen s (placeHold b h s) ∧ SameRecords s (placeHold b h s) ∧ (placeHold b h s).poolView = s.poolView := by
  simp [placeHold, Frozen, SameRecords]

@[simp] theorem liftHold_keeps (b : Bay) (tag : Nat) (s : State) :
    Frozen s (liftHold b tag s) ∧ SameRecords s (liftHold b tag s) ∧
      (liftHold b tag s).poolView = s.poolView ∧ (liftHold b tag s).engineView = s.engineView ∧
      (liftHold b tag s).readersView = s.readersView ∧ (liftHold b tag s).heatsView = s.heatsView ∧
      SameSupply s (liftHold b tag s) ∧ (liftHold b tag s).loopsView = s.loopsView := by
  simp [liftHold, Frozen, SameRecords, SameSupply]

/-! ### Machine/Departures.lean -/

@[simp] theorem departuresChanged_keeps (s : State) :
    Frozen s (departuresChanged s) ∧ (departuresChanged s).tablesView = s.tablesView ∧
      SameFaults s (departuresChanged s) ∧ (departuresChanged s).engineView = s.engineView ∧
      (departuresChanged s).readersView = s.readersView ∧ (departuresChanged s).heatsView = s.heatsView ∧
      SameSupply s (departuresChanged s) ∧ (departuresChanged s).loopsView = s.loopsView ∧
      (departuresChanged s).eventsView = s.eventsView := by
  unfold departuresChanged
  (try dsimp only)
  (repeat' split) <;> (try simp [Frozen, SameFaults, SameSupply]) <;> (try and_intros) <;> rfl

@[simp] theorem writeDeparture_keeps (b : Bay) (d : Departure) (s : State) :
    Frozen s (writeDeparture b d s) ∧ SameFaults s (writeDeparture b d s) ∧
      (writeDeparture b d s).engineView = s.engineView ∧ (writeDeparture b d s).readersView = s.readersView ∧
      (writeDeparture b d s).heatsView = s.heatsView ∧ SameSupply s (writeDeparture b d s) ∧
      (writeDeparture b d s).loopsView = s.loopsView ∧ (writeDeparture b d s).eventsView = s.eventsView := by
  unfold writeDeparture
  (try dsimp only)
  (repeat' split) <;> (try simp [Frozen, SameFaults, SameSupply]) <;> (try and_intros) <;> rfl

@[simp] theorem dropDeparture_keeps (b : Bay) (s : State) :
    Frozen s (dropDeparture b s) ∧ SameFaults s (dropDeparture b s) ∧
      (dropDeparture b s).engineView = s.engineView ∧ (dropDeparture b s).readersView = s.readersView ∧
      (dropDeparture b s).heatsView = s.heatsView ∧ SameSupply s (dropDeparture b s) ∧
      (dropDeparture b s).loopsView = s.loopsView ∧ (dropDeparture b s).eventsView = s.eventsView := by
  unfold dropDeparture
  (try dsimp only)
  (repeat' split) <;> (try simp [Frozen, SameFaults, SameSupply]) <;> (try and_intros) <;> rfl

@[simp] theorem removeDeparture_keeps (b : Bay) (s : State) :
    Frozen s (removeDeparture b s) ∧ SameFaults s (removeDeparture b s) ∧
      (removeDeparture b s).readersView = s.readersView := by
  unfold removeDeparture; (repeat' split) <;> simp [Frozen, SameFaults]

@[simp] theorem judgeOverdue_keeps (b : Bay) (s : State) :
    Frozen s (judgeOverdue b s) ∧ SameFaults s (judgeOverdue b s) ∧
      (judgeOverdue b s).engineView = s.engineView ∧ (judgeOverdue b s).readersView = s.readersView ∧
      (judgeOverdue b s).heatsView = s.heatsView ∧ SameSupply s (judgeOverdue b s) ∧
      (judgeOverdue b s).loopsView = s.loopsView := by
  unfold judgeOverdue; (repeat' split) <;> simp [Frozen, SameFaults, SameSupply]

@[simp] theorem testMismatch_keeps (b : Bay) (s : State) :
    Frozen s (testMismatch b s) ∧ SameRecords s (testMismatch b s) ∧ SameFaults s (testMismatch b s) ∧
      (testMismatch b s).engineView = s.engineView ∧ (testMismatch b s).readersView = s.readersView ∧
      (testMismatch b s).heatsView = s.heatsView ∧ SameSupply s (testMismatch b s) ∧
      (testMismatch b s).loopsView = s.loopsView := by
  simp [testMismatch, Frozen, SameRecords, SameFaults, SameSupply]

@[simp] theorem replaceDeparture_keeps (b : Bay) (d : Departure) (s : State) :
    Frozen s (replaceDeparture b d s) ∧ (replaceDeparture b d s).poolView = s.poolView ∧
      (replaceDeparture b d s).readersView = s.readersView := by
  simp [replaceDeparture, Frozen]

@[simp] theorem cancelDeparture_keeps (b : Bay) (s : State) :
    Frozen s (cancelDeparture b s) ∧ (cancelDeparture b s).poolView = s.poolView ∧
      (cancelDeparture b s).readersView = s.readersView := by
  simp [cancelDeparture, Frozen]

/-! ### Machine/BayTable.lean -/

@[simp] theorem cleanupReader_keeps (carryVisit : Bool) (b : Bay) (s : State) :
    Frozen s (cleanupReader carryVisit b s) ∧ SameRecords s (cleanupReader carryVisit b s) ∧
      SameFaults s (cleanupReader carryVisit b s) ∧ (cleanupReader carryVisit b s).heatsView = s.heatsView ∧
      (cleanupReader carryVisit b s).eventsView = s.eventsView := by
  unfold cleanupReader; (repeat' split) <;> simp [Frozen, SameRecords, SameFaults]

@[simp] theorem vacancyCleanup_keeps (keepDeparture carryVisit : Bool) (b : Bay) (s : State) :
    Frozen s (vacancyCleanup keepDeparture carryVisit b s) := by
  simp [vacancyCleanup, Frozen]

@[simp] theorem departs_keeps (kind : DepartureKind) (keepDeparture carryVisit : Bool) (b : Bay) (s : State) :
    Frozen s (departs kind keepDeparture carryVisit b s) := by
  simp [departs, Frozen]

@[simp] theorem becomeVacant_keeps (b : Bay) (s : State) :
    Frozen s (becomeVacant b s) ∧ (becomeVacant b s).bookingsView = s.bookingsView ∧
      SameFaults s (becomeVacant b s) ∧ (becomeVacant b s).engineView = s.engineView ∧
      (becomeVacant b s).readersView = s.readersView ∧ (becomeVacant b s).heatsView = s.heatsView ∧
      SameSupply s (becomeVacant b s) ∧ (becomeVacant b s).loopsView = s.loopsView ∧
      (becomeVacant b s).eventsView = s.eventsView := by
  simp [becomeVacant, Frozen, SameFaults, SameSupply]

@[simp] theorem cleanDeparture_keeps (b : Bay) (s : State) :
    Frozen s (cleanDeparture b s) := by
  simp [cleanDeparture, Frozen]

@[simp] theorem unreleasedDeparture_keeps (b : Bay) (s : State) :
    Frozen s (unreleasedDeparture b s) := by
  simp [unreleasedDeparture, Frozen]

@[simp] theorem becomeArriving_keeps (b : Bay) (s : State) :
    Frozen s (becomeArriving b s) ∧ (becomeArriving b s).bookingsView = s.bookingsView ∧
      SameFaults s (becomeArriving b s) := by
  simp [becomeArriving, Frozen, SameFaults]

@[simp] theorem becomePresent_keeps (b : Bay) (identity : Option Identity) (s : State) :
    Frozen s (becomePresent b identity s) ∧ (becomePresent b identity s).bookingsView = s.bookingsView ∧
      SameFaults s (becomePresent b identity s) ∧ (becomePresent b identity s).engineView = s.engineView ∧
      (becomePresent b identity s).readersView = s.readersView ∧
      (becomePresent b identity s).heatsView = s.heatsView ∧ SameSupply s (becomePresent b identity s) ∧
      (becomePresent b identity s).loopsView = s.loopsView := by
  simp [becomePresent, Frozen, SameFaults, SameSupply]

@[simp] theorem identified_keeps (b : Bay) (i : Identity) (s : State) :
    Frozen s (identified b i s) ∧ (identified b i s).bookingsView = s.bookingsView ∧
      (identified b i s).poolView = s.poolView := by
  simp [identified, Frozen]

@[simp] theorem unidentified_keeps (b : Bay) (s : State) :
    Frozen s (unidentified b s) ∧ (unidentified b s).bookingsView = s.bookingsView ∧
      (unidentified b s).poolView = s.poolView := by
  simp [unidentified, Frozen]

@[simp] theorem otherCoach_keeps (carryVisit : Bool) (b : Bay) (s : State) :
    Frozen s (otherCoach carryVisit b s) := by
  simp [otherCoach, Frozen]

@[simp] theorem sameCoach_keeps (b : Bay) (s : State) :
    Frozen s (sameCoach b s) ∧ (sameCoach b s).bookingsView = s.bookingsView ∧
      (sameCoach b s).poolView = s.poolView := by
  simp [sameCoach, Frozen]

@[simp] theorem takeIdentity_keeps (b : Bay) (identity : Option Identity) (s : State) :
    Frozen s (takeIdentity b identity s) ∧ (takeIdentity b identity s).bookingsView = s.bookingsView ∧
      (takeIdentity b identity s).poolView = s.poolView := by
  unfold takeIdentity; (repeat' split) <;> simp [Frozen]

@[simp] theorem recoveredIdentity_keeps (b : Bay) (identity : Option Identity) (s : State) :
    Frozen s (recoveredIdentity b identity s) := by
  unfold recoveredIdentity; (repeat' split) <;> simp [Frozen]

@[simp] theorem identityRead_keeps (b : Bay) (fleet coachType : Nat) (s : State) :
    Frozen s (identityRead b fleet coachType s) := by
  unfold identityRead; (repeat' split) <;> simp [Frozen]

@[simp] theorem identityFailed_keeps (b : Bay) (s : State) :
    Frozen s (identityFailed b s) := by
  unfold identityFailed; (repeat' split) <;> simp [Frozen]

@[simp] theorem plugTransition_keeps (b : Bay) (s : State) :
    Frozen s (plugTransition b s) := by
  unfold plugTransition; (repeat' split) <;> simp [Frozen]

@[simp] theorem countPlug_keeps (b : Bay) (plug : Plug) (s : State) :
    Frozen s (countPlug b plug s) := by
  unfold countPlug; (repeat' split) <;> simp [Frozen]

@[simp] theorem storePolled_keeps (b : Bay) (plug : Plug) (latch : Latch) (s : State) :
    Frozen s (storePolled b plug latch s) ∧ (storePolled b plug latch s).bookingsView = s.bookingsView ∧
      SameFaults s (storePolled b plug latch s) ∧ (storePolled b plug latch s).engineView = s.engineView ∧
      (storePolled b plug latch s).readersView = s.readersView ∧
      (storePolled b plug latch s).heatsView = s.heatsView ∧ SameSupply s (storePolled b plug latch s) ∧
      (storePolled b plug latch s).loopsView = s.loopsView ∧
      (storePolled b plug latch s).eventsView = s.eventsView := by
  simp [storePolled, Frozen, SameFaults, SameSupply]

@[simp] theorem tablePoll_keeps (b : Bay) (plug : Plug) (latch : Latch) (s : State) :
    Frozen s (tablePoll b plug latch s) := by
  simp [tablePoll, Frozen]

@[simp] theorem sweepAnswered_keeps (b : Bay) (plug : Plug) (latch : Latch) (s : State) :
    Frozen s (sweepAnswered b plug latch s) ∧ (sweepAnswered b plug latch s).bookingsView = s.bookingsView ∧
      SameFaults s (sweepAnswered b plug latch s) := by
  unfold sweepAnswered; (repeat' split) <;> simp [Frozen, SameFaults]

@[simp] theorem sweepFailed_keeps (b : Bay) (s : State) :
    Frozen s (sweepFailed b s) ∧ (sweepFailed b s).bookingsView = s.bookingsView ∧
      SameFaults s (sweepFailed b s) ∧ (sweepFailed b s).engineView = s.engineView ∧
      (sweepFailed b s).readersView = s.readersView ∧ (sweepFailed b s).heatsView = s.heatsView ∧
      SameSupply s (sweepFailed b s) ∧ (sweepFailed b s).loopsView = s.loopsView := by
  simp [sweepFailed, Frozen, SameFaults, SameSupply]

@[simp] theorem probeOut_keeps (b : Bay) (s : State) :
    Frozen s (probeOut b s) := by
  unfold probeOut; (repeat' split) <;> simp [Frozen]

@[simp] theorem probeIn_keeps (b : Bay) (s : State) :
    Frozen s (probeIn b s) ∧ (probeIn b s).bookingsView = s.bookingsView ∧ SameFaults s (probeIn b s) := by
  unfold probeIn; (repeat' split) <;> simp [Frozen, SameFaults]

@[simp] theorem probeAnswered_keeps (b : Bay) (plug : Plug) (latch : Latch) (s : State) :
    Frozen s (probeAnswered b plug latch s) := by
  unfold probeAnswered; (repeat' split) <;> simp [Frozen]

@[simp] theorem bayLost_keeps (b : Bay) (s : State) :
    Frozen s (bayLost b s) ∧ (bayLost b s).bookingsView = s.bookingsView := by
  simp [bayLost, Frozen]

@[simp] theorem entryNotSent_keeps (b : Bay) (e : Entry) (s : State) :
    Frozen s (entryNotSent b e s) ∧ SameRecords s (entryNotSent b e s) := by
  unfold entryNotSent; (repeat' split) <;> simp [Frozen, SameRecords]

@[simp] theorem dropPending_keeps (b : Bay) (s : State) :
    Frozen s (dropPending b s) ∧ SameRecords s (dropPending b s) := by
  simp [dropPending, Frozen, SameRecords]

@[simp] theorem becomeOutOfService_keeps (b : Bay) (s : State) :
    Frozen s (becomeOutOfService b s) := by
  simp [becomeOutOfService, Frozen]

@[simp] theorem takeOutOfService_keeps (b : Bay) (s : State) :
    Frozen s (takeOutOfService b s) := by
  unfold takeOutOfService; (repeat' split) <;> simp [Frozen]

@[simp] theorem bringIntoService_keeps (b : Bay) (s : State) :
    Frozen s (bringIntoService b s) ∧ (bringIntoService b s).bookingsView = s.bookingsView ∧
      SameFaults s (bringIntoService b s) ∧ (bringIntoService b s).engineView = s.engineView ∧
      (bringIntoService b s).readersView = s.readersView ∧ (bringIntoService b s).heatsView = s.heatsView ∧
      (bringIntoService b s).eventsView = s.eventsView := by
  unfold bringIntoService; (repeat' split) <;> simp [Frozen, SameFaults]

@[simp] theorem setOverride_keeps (b : Bay) (o : Option Nat) (s : State) :
    Frozen s (setOverride b o s) ∧ (setOverride b o s).bookingsView = s.bookingsView ∧
      (setOverride b o s).poolView = s.poolView := by
  simp [setOverride, Frozen]

end Sys2Proof.Machine
end

