-- ==== Sys2Proof/Laws/KeepsWork.lean ====
section
/-! SUPPORT. The frame of each operation, what it leaves as it was: the visits, the supply
changes, the outcomes of the loop and the requests. -/

namespace Sys2Proof.Machine

/-! ### Machine/Visits.lean -/

@[simp] theorem enterPhase_keeps (b : Bay) (phase : VisitPhase) (req : LoopReq) (s : State) :
    Frozen s (enterPhase b phase req s) ∧ SameRecords s (enterPhase b phase req s) ∧
      SameFaults s (enterPhase b phase req s) ∧ (enterPhase b phase req s).engineView = s.engineView ∧
      (enterPhase b phase req s).heatsView = s.heatsView ∧ SameSupply s (enterPhase b phase req s) ∧
      (enterPhase b phase req s).eventsView = s.eventsView := by
  simp [enterPhase, Frozen, SameRecords, SameFaults, SameSupply]

@[simp] theorem goSleep_keeps (b : Bay) (s : State) :
    Frozen s (goSleep b s) ∧ SameRecords s (goSleep b s) ∧ SameFaults s (goSleep b s) ∧
      (goSleep b s).engineView = s.engineView ∧ (goSleep b s).heatsView = s.heatsView ∧
      SameSupply s (goSleep b s) ∧ (goSleep b s).eventsView = s.eventsView := by
  simp [goSleep, Frozen, SameRecords, SameFaults, SameSupply]

@[simp] theorem visitFails_keeps (b : Bay) (s : State) :
    Frozen s (visitFails b s) ∧ SameRecords s (visitFails b s) ∧ SameFaults s (visitFails b s) ∧
      (visitFails b s).engineView = s.engineView ∧ (visitFails b s).heatsView = s.heatsView ∧
      SameSupply s (visitFails b s) ∧ (visitFails b s).eventsView = s.eventsView := by
  simp [visitFails, Frozen, SameRecords, SameFaults, SameSupply]

@[simp] theorem progress_keeps (b : Bay) (s : State) :
    Frozen s (progress b s) ∧ SameRecords s (progress b s) ∧ SameFaults s (progress b s) ∧
      (progress b s).engineView = s.engineView ∧ (progress b s).heatsView = s.heatsView ∧
      SameSupply s (progress b s) ∧ (progress b s).loopsView = s.loopsView ∧
      (progress b s).eventsView = s.eventsView := by
  simp [progress, Frozen, SameRecords, SameFaults, SameSupply]

@[simp] theorem nextClear_keeps (b : Bay) (s : State) :
    Frozen s (nextClear b s) ∧ SameRecords s (nextClear b s) ∧ SameFaults s (nextClear b s) ∧
      (nextClear b s).engineView = s.engineView ∧ (nextClear b s).heatsView = s.heatsView ∧
      SameSupply s (nextClear b s) ∧ (nextClear b s).eventsView = s.eventsView := by
  unfold nextClear; (repeat' split) <;> simp [Frozen, SameRecords, SameFaults, SameSupply]

@[simp] theorem afterWake_keeps (b : Bay) (s : State) :
    Frozen s (afterWake b s) ∧ SameRecords s (afterWake b s) ∧ SameFaults s (afterWake b s) ∧
      (afterWake b s).engineView = s.engineView ∧ (afterWake b s).heatsView = s.heatsView ∧
      SameSupply s (afterWake b s) ∧ (afterWake b s).eventsView = s.eventsView := by
  unfold afterWake; (repeat' split) <;> simp [Frozen, SameRecords, SameFaults, SameSupply]

@[simp] theorem fetchNext_keeps (b : Bay) (s : State) :
    Frozen s (fetchNext b s) ∧ SameRecords s (fetchNext b s) ∧ SameFaults s (fetchNext b s) ∧
      (fetchNext b s).engineView = s.engineView ∧ (fetchNext b s).heatsView = s.heatsView ∧
      SameSupply s (fetchNext b s) ∧ (fetchNext b s).eventsView = s.eventsView := by
  unfold fetchNext; (repeat' split) <;> simp [Frozen, SameRecords, SameFaults, SameSupply]

@[simp] theorem passCompletes_keeps (b : Bay) (s : State) :
    Frozen s (passCompletes b s) ∧ SameRecords s (passCompletes b s) ∧
      (passCompletes b s).clearsView = s.clearsView ∧ (passCompletes b s).heatsView = s.heatsView := by
  simp [passCompletes, Frozen, SameRecords]

@[simp] theorem fetchOrComplete_keeps (b : Bay) (s : State) :
    Frozen s (fetchOrComplete b s) ∧ SameRecords s (fetchOrComplete b s) ∧
      (fetchOrComplete b s).clearsView = s.clearsView ∧ (fetchOrComplete b s).heatsView = s.heatsView := by
  unfold fetchOrComplete; (repeat' split) <;> simp [Frozen, SameRecords]

@[simp] theorem wakeDone_keeps (s : State) :
    Frozen s (wakeDone s) ∧ SameRecords s (wakeDone s) ∧ SameFaults s (wakeDone s) ∧
      (wakeDone s).engineView = s.engineView ∧ (wakeDone s).heatsView = s.heatsView ∧
      SameSupply s (wakeDone s) ∧ (wakeDone s).loopsView = s.loopsView ∧ (wakeDone s).eventsView = s.eventsView := by
  simp [wakeDone, Frozen, SameRecords, SameFaults, SameSupply]

@[simp] theorem identDone_keeps (b : Bay) (fleet coachType : Nat) (s : State) :
    Frozen s (identDone b fleet coachType s) := by
  simp [identDone, Frozen]

@[simp] theorem clearTaken_keeps (b : Bay) (source code : Nat) (a : ClearAnswer) (s : State) :
    Frozen s (clearTaken b source code a s) ∧ SameRecords s (clearTaken b source code a s) ∧
      (clearTaken b source code a s).heatsView = s.heatsView := by
  simp [clearTaken, Frozen, SameRecords]

@[simp] theorem snapshotDone_keeps (b : Bay) (count generation : Nat) (s : State) :
    Frozen s (snapshotDone b count generation s) ∧ SameRecords s (snapshotDone b count generation s) ∧
      (snapshotDone b count generation s).clearsView = s.clearsView ∧
      (snapshotDone b count generation s).heatsView = s.heatsView := by
  simp [snapshotDone, Frozen, SameRecords]

@[simp] theorem suspendVisit_keeps (b : Bay) (s : State) :
    Frozen s (suspendVisit b s) ∧ SameRecords s (suspendVisit b s) ∧ SameFaults s (suspendVisit b s) ∧
      (suspendVisit b s).engineView = s.engineView ∧ (suspendVisit b s).heatsView = s.heatsView ∧
      SameSupply s (suspendVisit b s) ∧ (suspendVisit b s).eventsView = s.eventsView := by
  simp [suspendVisit, Frozen, SameRecords, SameFaults, SameSupply]

@[simp] theorem fetchedRecord_keeps (b : Bay) (o : Offer) (s : State) :
    Frozen s (fetchedRecord b o s) ∧ SameRecords s (fetchedRecord b o s) ∧
      (fetchedRecord b o s).heatsView = s.heatsView := by
  have h := offer_keeps b o s
  unfold fetchedRecord
  revert h
  generalize offer b o s = r
  obtain ⟨s', k⟩ := r
  cases k <;> simp +contextual [Frozen, SameRecords]

@[simp] theorem fetchDone_keeps (b : Bay) (o : Offer) (generation : Nat) (s : State) :
    Frozen s (fetchDone b o generation s) ∧ SameRecords s (fetchDone b o generation s) ∧
      (fetchDone b o generation s).heatsView = s.heatsView := by
  unfold fetchDone; (repeat' split) <;> simp [Frozen, SameRecords]

@[simp] theorem dropClears_keeps (b : Bay) (s : State) :
    Frozen s (dropClears b s) ∧ SameRecords s (dropClears b s) ∧ (dropClears b s).heatsView = s.heatsView := by
  simp [dropClears, Frozen, SameRecords]

@[simp] theorem visitsExhausted_keeps (b : Bay) (s : State) :
    Frozen s (visitsExhausted b s) := by
  simp [visitsExhausted, Frozen]

@[simp] theorem placeIfWanted_keeps (b : Bay) (s : State) :
    Frozen s (placeIfWanted b s) ∧ SameRecords s (placeIfWanted b s) ∧ SameFaults s (placeIfWanted b s) ∧
      (placeIfWanted b s).heatsView = s.heatsView ∧ (placeIfWanted b s).eventsView = s.eventsView := by
  simp [placeIfWanted, Frozen, SameRecords, SameFaults]

@[simp] theorem failedVisitEnds_keeps (b : Bay) (s : State) :
    Frozen s (failedVisitEnds b s) := by
  unfold failedVisitEnds; (repeat' split) <;> simp [Frozen]

@[simp] theorem suspendedVisitEnds_keeps (b : Bay) (s : State) :
    Frozen s (suspendedVisitEnds b s) ∧ SameRecords s (suspendedVisitEnds b s) ∧
      SameFaults s (suspendedVisitEnds b s) ∧ (suspendedVisitEnds b s).heatsView = s.heatsView ∧
      (suspendedVisitEnds b s).eventsView = s.eventsView := by
  unfold suspendedVisitEnds
  (try dsimp only)
  (repeat' split) <;> (try simp [Frozen, SameRecords, SameFaults]) <;> (try and_intros) <;> rfl

@[simp] theorem visitEnds_keeps (v : Visit) (s : State) :
    Frozen s (visitEnds v s) := by
  unfold visitEnds; (try dsimp only); (repeat' split) <;> (try simp [Frozen]) <;> (try and_intros) <;> rfl

@[simp] theorem readerDone_keeps (b : Bay) (req : LoopReq) (reply : ReaderReply) (v : Visit) (s : State) :
    Frozen s (readerDone b req reply v s) := by
  unfold readerDone; (repeat' split) <;> simp [Frozen]

@[simp] theorem readerNotDone_keeps (b : Bay) (req : LoopReq) (v : Visit) (s : State) :
    Frozen s (readerNotDone b req v s) := by
  unfold readerNotDone; (repeat' split) <;> simp [Frozen]

@[simp] theorem visitOutcome_keeps (b : Bay) (req : LoopReq) (o : Handed) (reply : ReaderReply) (v : Visit)
    (s : State) :
    Frozen s (visitOutcome b req o reply v s) := by
  unfold visitOutcome; (repeat' split) <;> simp [Frozen]

@[simp] theorem lateOutcome_keeps (b : Bay) (req : LoopReq) (o : Handed) (reply : ReaderReply) (s : State) :
    Frozen s (lateOutcome b req o reply s) ∧ SameRecords s (lateOutcome b req o reply s) ∧
      (lateOutcome b req o reply s).heatsView = s.heatsView := by
  unfold lateOutcome; (repeat' split) <;> simp [Frozen, SameRecords]

@[simp] theorem readerOutcome_keeps (b : Bay) (req : LoopReq) (wanted : Bool) (o : Handed) (reply : ReaderReply)
    (s : State) :
    Frozen s (readerOutcome b req wanted o reply s) := by
  unfold readerOutcome; (repeat' split) <;> simp [Frozen]

@[simp] theorem bridgeReported_keeps (b : Bay) (bridge : Bridge) (s : State) :
    Frozen s (bridgeReported b bridge s) ∧ SameRecords s (bridgeReported b bridge s) ∧
      SameFaults s (bridgeReported b bridge s) ∧ (bridgeReported b bridge s).engineView = s.engineView ∧
      (bridgeReported b bridge s).heatsView = s.heatsView ∧ SameSupply s (bridgeReported b bridge s) ∧
      (bridgeReported b bridge s).eventsView = s.eventsView := by
  unfold bridgeReported; (repeat' split) <;> simp [Frozen, SameRecords, SameFaults, SameSupply]

/-! ### Machine/SupplyChange.lean -/

@[simp] theorem withdrawn_keeps (h : Holder) (s : State) :
    Frozen s (withdrawn h s) ∧ SameRecords s (withdrawn h s) ∧ SameFaults s (withdrawn h s) ∧
      (withdrawn h s).heatsView = s.heatsView ∧ (withdrawn h s).eventsView = s.eventsView := by
  unfold withdrawn; (repeat' split) <;> simp [Frozen, SameRecords, SameFaults]

@[simp] theorem withdrawNewest_keeps (n : Nat) (s : State) :
    Frozen s (withdrawNewest n s) ∧ SameRecords s (withdrawNewest n s) ∧ SameFaults s (withdrawNewest n s) ∧
      (withdrawNewest n s).heatsView = s.heatsView ∧ (withdrawNewest n s).eventsView = s.eventsView := by
  induction n generalizing s with
  | zero => simp [withdrawNewest, Frozen, SameRecords, SameFaults]
  | succ n ih => unfold withdrawNewest; (repeat' split) <;> simp [ih, Frozen, SameRecords, SameFaults]

@[simp] theorem withdrawExcess_keeps (s : State) :
    Frozen s (withdrawExcess s) ∧ SameRecords s (withdrawExcess s) ∧ SameFaults s (withdrawExcess s) ∧
      (withdrawExcess s).heatsView = s.heatsView ∧ (withdrawExcess s).eventsView = s.eventsView := by
  simp [withdrawExcess, Frozen, SameRecords, SameFaults]

@[simp] theorem supplyChanged_keeps (tellsMasters : Bool) (s : State) :
    Frozen s (supplyChanged tellsMasters s) ∧ SameRecords s (supplyChanged tellsMasters s) ∧
      SameFaults s (supplyChanged tellsMasters s) := by
  simp [supplyChanged, Frozen, SameRecords, SameFaults]

@[simp] theorem switchSupply_keeps (state : SupplyState) (s : State) :
    Frozen s (switchSupply state s) ∧ SameRecords s (switchSupply state s) ∧
      SameFaults s (switchSupply state s) := by
  simp [switchSupply, Frozen, SameRecords, SameFaults]

@[simp] theorem shedAsserts_keeps (s : State) :
    Frozen s (shedAsserts s) ∧ SameRecords s (shedAsserts s) ∧ SameFaults s (shedAsserts s) := by
  unfold shedAsserts; (repeat' split) <;> simp [Frozen, SameRecords, SameFaults]

@[simp] theorem shedDeasserts_keeps (s : State) :
    Frozen s (shedDeasserts s) ∧ SameRecords s (shedDeasserts s) ∧ SameFaults s (shedDeasserts s) := by
  unfold shedDeasserts; (repeat' split) <;> simp [Frozen, SameRecords, SameFaults]

@[simp] theorem restoreEnds_keeps (s : State) :
    Frozen s (restoreEnds s) ∧ SameRecords s (restoreEnds s) ∧ SameFaults s (restoreEnds s) := by
  simp [restoreEnds, Frozen, SameRecords, SameFaults]

@[simp] theorem setBudget_keeps (normal shed : Option Nat) (s : State) :
    Frozen s (setBudget normal shed s) ∧ SameRecords s (setBudget normal shed s) ∧
      SameFaults s (setBudget normal shed s) := by
  unfold setBudget
  (try dsimp only)
  (repeat' split) <;> (try simp [Frozen, SameRecords, SameFaults]) <;> (try and_intros) <;> rfl

@[simp] theorem setReserve_keeps (units : Nat) (s : State) :
    Frozen s (setReserve units s) ∧ SameRecords s (setReserve units s) ∧ SameFaults s (setReserve units s) := by
  simp [setReserve, Frozen, SameRecords, SameFaults]

/-! ### Machine/LoopOutcome.lean -/

@[simp] theorem pollContents_keeps (b : Bay) (r : PollReply) (s : State) :
    Frozen s (pollContents b r s) ∧ SameRecords s (pollContents b r s) := by
  simp [pollContents, Frozen, SameRecords]

@[simp] theorem storeCount_keeps (b : Bay) (count : Nat) (s : State) :
    Frozen s (storeCount b count s) ∧ SameRecords s (storeCount b count s) ∧
      SameFaults s (storeCount b count s) ∧ (storeCount b count s).engineView = s.engineView ∧
      (storeCount b count s).readersView = s.readersView ∧ (storeCount b count s).heatsView = s.heatsView ∧
      (storeCount b count s).booksView = s.booksView ∧ (storeCount b count s).loopsView = s.loopsView ∧
      (storeCount b count s).eventsView = s.eventsView := by
  simp [storeCount, Frozen, SameRecords, SameFaults]

@[simp] theorem pollDone_keeps (b : Bay) (r : PollReply) (s : State) :
    Frozen s (pollDone b r s) := by
  unfold pollDone; (repeat' split) <;> simp [Frozen]

@[simp] theorem pollFailed_keeps (b : Bay) (s : State) :
    Frozen s (pollFailed b s) ∧ (pollFailed b s).bookingsView = s.bookingsView ∧
      SameFaults s (pollFailed b s) ∧ (pollFailed b s).engineView = s.engineView ∧
      (pollFailed b s).readersView = s.readersView ∧ (pollFailed b s).heatsView = s.heatsView ∧
      SameSupply s (pollFailed b s) := by
  unfold pollFailed; (repeat' split) <;> simp [Frozen, SameFaults, SameSupply]

@[simp] theorem pollOutcome_keeps (b : Bay) (c : Contents) (s : State) :
    Frozen s (pollOutcome b c s) := by
  unfold pollOutcome; (repeat' split) <;> simp [Frozen]

@[simp] theorem ownerOutcome_keeps (b : Bay) (e : Entry) (o : Handed) (c : Contents) (s : State) :
    Frozen s (ownerOutcome b e o c s) := by
  unfold ownerOutcome; (repeat' split) <;> simp [Frozen]

@[simp] theorem busyReply_keeps (b : Bay) (e : Entry) (s : State) :
    Frozen s (busyReply b e s) := by
  unfold busyReply; (repeat' split) <;> simp [Frozen]

@[simp] theorem leaveLine_keeps (s : State) :
    Frozen s (leaveLine s) ∧ SameRecords s (leaveLine s) ∧ SameFaults s (leaveLine s) ∧
      (leaveLine s).engineView = s.engineView ∧ (leaveLine s).readersView = s.readersView ∧
      (leaveLine s).heatsView = s.heatsView ∧ SameSupply s (leaveLine s) ∧
      (leaveLine s).eventsView = s.eventsView := by
  unfold leaveLine
  (try dsimp only)
  (repeat' split) <;> (try simp [Frozen, SameRecords, SameFaults, SameSupply]) <;> (try and_intros) <;> rfl

@[simp] theorem clearFailures_keeps (b : Bay) (s : State) :
    Frozen s (clearFailures b s) ∧ SameRecords s (clearFailures b s) ∧ SameFaults s (clearFailures b s) ∧
      (clearFailures b s).engineView = s.engineView ∧ (clearFailures b s).readersView = s.readersView ∧
      (clearFailures b s).heatsView = s.heatsView ∧ SameSupply s (clearFailures b s) ∧
      (clearFailures b s).eventsView = s.eventsView := by
  simp [clearFailures, Frozen, SameRecords, SameFaults, SameSupply]

@[simp] theorem goodReply_keeps (l : OnLine) (good : Good) (s : State) :
    Frozen s (goodReply l good s) := by
  unfold goodReply; (repeat' split) <;> simp [Frozen]

@[simp] theorem nodeLost_keeps (b : Bay) (e : Entry) (s : State) :
    Frozen s (nodeLost b e s) := by
  simp [nodeLost, Frozen]

@[simp] theorem countedFailure_keeps (l : OnLine) (s : State) :
    Frozen s (countedFailure l s) := by
  unfold countedFailure; (repeat' split) <;> simp [Frozen]

@[simp] theorem attemptFails_keeps (l : OnLine) (s : State) :
    Frozen s (attemptFails l s) := by
  unfold attemptFails; (try dsimp only); (repeat' split) <;> (try simp [Frozen]) <;> (try and_intros) <;> rfl

@[simp] theorem sendAgain_keeps (l : OnLine) (s : State) :
    Frozen s (sendAgain l s) ∧ SameRecords s (sendAgain l s) ∧ SameFaults s (sendAgain l s) ∧
      (sendAgain l s).engineView = s.engineView ∧ (sendAgain l s).readersView = s.readersView ∧
      (sendAgain l s).heatsView = s.heatsView ∧ SameSupply s (sendAgain l s) ∧
      (sendAgain l s).eventsView = s.eventsView := by
  unfold sendAgain
  (try dsimp only)
  (repeat' split) <;> (try simp [Frozen, SameRecords, SameFaults, SameSupply]) <;> (try and_intros) <;> rfl

@[simp] theorem noReply_keeps (l : OnLine) (s : State) :
    (noReply l s).pinsView = s.pinsView ∧ (noReply l s).depotView = s.depotView ∧
      (noReply l s).plansView = s.plansView := by
  simp [noReply]

@[simp] theorem judgeReply_keeps (bytes : List Byte) (l : OnLine) (s : State) :
    (judgeReply bytes l s).pinsView = s.pinsView ∧ (judgeReply bytes l s).depotView = s.depotView ∧
      (judgeReply bytes l s).plansView = s.plansView := by
  unfold judgeReply; (repeat' split) <;> simp

@[simp] theorem heard_keeps (bytes : List Byte) (s : State) :
    (heard bytes s).pinsView = s.pinsView ∧ (heard bytes s).depotView = s.depotView ∧
      (heard bytes s).plansView = s.plansView := by
  unfold heard; (repeat' split) <;> simp

@[simp] theorem timesOut_keeps (s : State) :
    (timesOut s).pinsView = s.pinsView ∧ (timesOut s).depotView = s.depotView ∧
      (timesOut s).plansView = s.plansView := by
  unfold timesOut; (repeat' split) <;> simp

@[simp] theorem quietEnds_keeps (s : State) :
    (quietEnds s).pinsView = s.pinsView ∧ (quietEnds s).depotView = s.depotView ∧
      (quietEnds s).plansView = s.plansView ∧ SameRecords s (quietEnds s) ∧ SameFaults s (quietEnds s) ∧
      (quietEnds s).engineView = s.engineView ∧ (quietEnds s).readersView = s.readersView ∧
      (quietEnds s).heatsView = s.heatsView ∧ SameSupply s (quietEnds s) ∧
      (quietEnds s).eventsView = s.eventsView := by
  unfold quietEnds; (repeat' split) <;> simp [SameRecords, SameFaults, SameSupply]

@[simp] theorem busyWaitEnds_keeps (b : Bay) (sort : LoopSort) (s : State) :
    (busyWaitEnds b sort s).pinsView = s.pinsView ∧ (busyWaitEnds b sort s).depotView = s.depotView ∧
      (busyWaitEnds b sort s).plansView = s.plansView ∧ SameRecords s (busyWaitEnds b sort s) ∧
      SameFaults s (busyWaitEnds b sort s) ∧ (busyWaitEnds b sort s).engineView = s.engineView ∧
      (busyWaitEnds b sort s).readersView = s.readersView ∧ (busyWaitEnds b sort s).heatsView = s.heatsView ∧
      SameSupply s (busyWaitEnds b sort s) ∧ (busyWaitEnds b sort s).eventsView = s.eventsView := by
  unfold busyWaitEnds; (repeat' split) <;> simp [SameRecords, SameFaults, SameSupply]

@[simp] theorem busyPersists_keeps (b : Bay) (sort : LoopSort) (s : State) :
    (busyPersists b sort s).pinsView = s.pinsView ∧ (busyPersists b sort s).depotView = s.depotView ∧
      (busyPersists b sort s).plansView = s.plansView := by
  unfold busyPersists; (repeat' split) <;> simp

@[simp] theorem takeChoice_keeps (s : State) :
    Frozen s (takeChoice s) ∧ SameRecords s (takeChoice s) ∧ SameFaults s (takeChoice s) ∧
      (takeChoice s).engineView = s.engineView ∧ (takeChoice s).readersView = s.readersView ∧
      (takeChoice s).heatsView = s.heatsView ∧ SameSupply s (takeChoice s) ∧
      (takeChoice s).eventsView = s.eventsView := by
  unfold takeChoice; (repeat' split) <;> simp [Frozen, SameRecords, SameFaults, SameSupply]

@[simp] theorem arbiterChooses_keeps (s : State) :
    Frozen s (arbiterChooses s) ∧ SameRecords s (arbiterChooses s) ∧ SameFaults s (arbiterChooses s) ∧
      (arbiterChooses s).engineView = s.engineView ∧ (arbiterChooses s).readersView = s.readersView ∧
      (arbiterChooses s).heatsView = s.heatsView ∧ SameSupply s (arbiterChooses s) ∧
      (arbiterChooses s).eventsView = s.eventsView := by
  unfold arbiterChooses; (repeat' split) <;> simp [Frozen, SameRecords, SameFaults, SameSupply]

/-! ### Machine/Requests.lean -/

@[simp] theorem minuteTold_keeps (s : State) :
    Frozen s (minuteTold s) ∧ (minuteTold s).readersView = s.readersView := by
  simp [minuteTold, Frozen]

@[simp] theorem outsideChanged_keeps (b : Bay) (s : State) :
    Frozen s (outsideChanged b s) ∧ SameRecords s (outsideChanged b s) ∧ SameFaults s (outsideChanged b s) ∧
      (outsideChanged b s).readersView = s.readersView := by
  unfold outsideChanged; (repeat' split) <;> simp [Frozen, SameRecords, SameFaults]

@[simp] theorem writeSettings_keeps (p : SettingsPart) (s : State) :
    (writeSettings p s).pinsView = s.pinsView ∧ (writeSettings p s).timesView = s.timesView ∧
      (writeSettings p s).plansView = s.plansView ∧ SameRecords s (writeSettings p s) ∧
      SameFaults s (writeSettings p s) ∧ (writeSettings p s).engineView = s.engineView ∧
      (writeSettings p s).readersView = s.readersView ∧ (writeSettings p s).heatsView = s.heatsView ∧
      SameSupply s (writeSettings p s) ∧ (writeSettings p s).loopsView = s.loopsView ∧
      (writeSettings p s).eventsView = s.eventsView := by
  unfold writeSettings
  (try dsimp only)
  (repeat' split) <;> (try simp [SameRecords, SameFaults, SameSupply]) <;> (try and_intros) <;> rfl

@[simp] theorem endRestoreIfDue_keeps (s : State) :
    Frozen s (endRestoreIfDue s) ∧ SameRecords s (endRestoreIfDue s) ∧ SameFaults s (endRestoreIfDue s) := by
  simp [endRestoreIfDue, Frozen, SameRecords, SameFaults]

@[simp] theorem endValidityIfDue_keeps (b : Bay) (s : State) :
    Frozen s (endValidityIfDue b s) ∧ SameRecords s (endValidityIfDue b s) ∧
      (endValidityIfDue b s).poolView = s.poolView ∧ (endValidityIfDue b s).engineView = s.engineView ∧
      (endValidityIfDue b s).readersView = s.readersView ∧ (endValidityIfDue b s).heatsView = s.heatsView ∧
      SameSupply s (endValidityIfDue b s) ∧ (endValidityIfDue b s).loopsView = s.loopsView := by
  simp [endValidityIfDue, Frozen, SameRecords, SameSupply]

@[simp] theorem endWindowIfDue_keeps (b : Bay) (s : State) :
    Frozen s (endWindowIfDue b s) ∧ SameRecords s (endWindowIfDue b s) ∧
      (endWindowIfDue b s).poolView = s.poolView := by
  simp [endWindowIfDue, Frozen, SameRecords]

@[simp] theorem applySettings_keeps (p : SettingsPart) (s : State) :
    (applySettings p s).pinsView = s.pinsView ∧ (applySettings p s).timesView = s.timesView ∧
      (applySettings p s).plansView = s.plansView ∧ SameRecords s (applySettings p s) ∧
      (applySettings p s).poolView = s.poolView := by
  simp [applySettings, SameRecords]

@[simp] theorem setQuota_keeps (b : Bay) (q : Nat) (s : State) :
    Frozen s (setQuota b q s) ∧ SameRecords s (setQuota b q s) ∧ (setQuota b q s).clearsView = s.clearsView ∧
      (setQuota b q s).engineView = s.engineView ∧ (setQuota b q s).readersView = s.readersView ∧
      (setQuota b q s).heatsView = s.heatsView ∧ SameSupply s (setQuota b q s) ∧
      (setQuota b q s).loopsView = s.loopsView ∧ (setQuota b q s).eventsView = s.eventsView := by
  simp [setQuota, Frozen, SameRecords, SameSupply]

@[simp] theorem setOutOfService_keeps (b : Bay) (on : Bool) (s : State) :
    Frozen s (setOutOfService b on s) := by
  unfold setOutOfService; (repeat' split) <;> simp [Frozen]

@[simp] theorem applyConfiguration_keeps (b : Bay) (oos : Option Bool) (planOverride : Option (Option Nat)) (quota : Option Nat) (p : SettingsPart)
    (s : State) :
    (applyConfiguration b oos planOverride quota p s).pinsView = s.pinsView ∧
      (applyConfiguration b oos planOverride quota p s).timesView = s.timesView ∧
      (applyConfiguration b oos planOverride quota p s).plansView = s.plansView := by
  simp [applyConfiguration]

@[simp] theorem deferEntry_keeps (b : Bay) (source code expiry : Nat) (s : State) :
    Frozen s (deferEntry b source code expiry s) ∧ SameRecords s (deferEntry b source code expiry s) ∧
      (deferEntry b source code expiry s).clearsView = s.clearsView ∧
      (deferEntry b source code expiry s).engineView = s.engineView ∧
      (deferEntry b source code expiry s).readersView = s.readersView ∧
      (deferEntry b source code expiry s).heatsView = s.heatsView ∧
      SameSupply s (deferEntry b source code expiry s) ∧
      (deferEntry b source code expiry s).loopsView = s.loopsView ∧
      (deferEntry b source code expiry s).eventsView = s.eventsView := by
  simp [deferEntry, Frozen, SameRecords, SameSupply]

@[simp] theorem rereadMarks_keeps (b : Bay) (s : State) :
    Frozen s (rereadMarks b s) ∧ SameRecords s (rereadMarks b s) ∧ SameFaults s (rereadMarks b s) ∧
      (rereadMarks b s).engineView = s.engineView ∧ (rereadMarks b s).heatsView = s.heatsView ∧
      SameSupply s (rereadMarks b s) ∧ (rereadMarks b s).loopsView = s.loopsView ∧
      (rereadMarks b s).eventsView = s.eventsView := by
  simp [rereadMarks, Frozen, SameRecords, SameFaults, SameSupply]

@[simp] theorem reread_keeps (b : Bay) (s : State) :
    Frozen s (reread b s) ∧ SameRecords s (reread b s) ∧ (reread b s).poolView = s.poolView ∧
      (reread b s).heatsView = s.heatsView := by
  unfold reread; (repeat' split) <;> simp [Frozen, SameRecords]

@[simp] theorem ackItems_keeps (p : Port) (items : List AckItem) (s : State) :
    Frozen s (ackItems p items s) ∧ SameRecords s (ackItems p items s) ∧ SameFaults s (ackItems p items s) ∧
      (ackItems p items s).engineView = s.engineView ∧ (ackItems p items s).readersView = s.readersView ∧
      (ackItems p items s).heatsView = s.heatsView ∧ SameSupply s (ackItems p items s) ∧
      (ackItems p items s).loopsView = s.loopsView := by
  simp [ackItems, Frozen, SameRecords, SameFaults, SameSupply]

/-! ### Machine/Ports.lean -/

@[simp] theorem answerPort_keeps (p : Port) (r : Response) (s : State) :
    Frozen s (answerPort p r s) ∧ SameRecords s (answerPort p r s) ∧ SameFaults s (answerPort p r s) ∧
      (answerPort p r s).engineView = s.engineView ∧ (answerPort p r s).readersView = s.readersView ∧
      (answerPort p r s).heatsView = s.heatsView ∧ SameSupply s (answerPort p r s) ∧
      (answerPort p r s).loopsView = s.loopsView := by
  simp [answerPort, Frozen, SameRecords, SameFaults, SameSupply]

@[simp] theorem shiftOut_keeps (p : Port) (count : Nat) (s : State) :
    Frozen s (shiftOut p count s) ∧ SameRecords s (shiftOut p count s) ∧ SameFaults s (shiftOut p count s) ∧
      (shiftOut p count s).engineView = s.engineView ∧ (shiftOut p count s).readersView = s.readersView ∧
      (shiftOut p count s).heatsView = s.heatsView ∧ SameSupply s (shiftOut p count s) ∧
      (shiftOut p count s).loopsView = s.loopsView := by
  simp [shiftOut, Frozen, SameRecords, SameFaults, SameSupply]

end Sys2Proof.Machine
end

