-- ==== Sys2Proof/Laws/PerInstr.lean ====
section
/-! SUPPORT. What holds of every command as a row of the operation table: a request row stands for a request of a kind 1 to
27, whose bay field fits its byte where the command is well formed, and every other row for none. -/

namespace Sys2Proof.Laws.TableRow

open Sys2Proof.Machine

/-- Spec 09, 9.3 and spec 11, R190: the kind of the request that a row stands for, and its bay field. -/
def Statement (i : Instr) : Prop :=
  ∀ (p : Port) (bay : Nat) (body : Body), requestOf i = some (p, bay, body) →
    1 ≤ bodyKind body ∧ bodyKind body ≤ 27 ∧ (i.wf = true → bay ≤ 255) ∧
      (kindNamesBay (bodyKind body) = false → bodyKind body ≠ 5 → bay = noBay)

/-- A row that stands for no request. -/
theorem of_none {i : Instr} (h : requestOf i = none) : Statement i :=
  fun _ _ _ hs => by rw [h] at hs; exact absurd hs (by simp)

/-- A row that stands for the request given. -/
theorem of_some {i : Instr} {q : Port} {n : Nat} {x : Body} (h : requestOf i = some (q, n, x))
    (hk : (Nat.ble 1 (bodyKind x) && Nat.ble (bodyKind x) 27) = true) (hw : i.wf = true → n ≤ 255)
    (hn : kindNamesBay (bodyKind x) = false → bodyKind x ≠ 5 → n = noBay) : Statement i := by
  intro p bay body hs
  rw [h] at hs
  injection hs with hs
  injection hs with _ hs
  injection hs with hb hx
  subst hb; subst hx
  obtain ⟨hl, hr⟩ := (Bool.and_eq_true _ _).mp hk
  exact ⟨Nat.le_of_ble_eq_true hl, Nat.le_of_ble_eq_true hr, hw, hn⟩

theorem reset : Statement .reset :=
  of_none rfl

theorem resetEnd : Statement .resetEnd :=
  of_none rfl

theorem secondsTick : Statement .secondsTick :=
  of_none rfl

theorem minuteAdvance : Statement .minuteAdvance :=
  of_none rfl

theorem shedAsserted : Statement .shedAsserted :=
  of_none rfl

theorem shedDeasserted : Statement .shedDeasserted :=
  of_none rfl

theorem restoreDelayEnd : Statement .restoreDelayEnd :=
  of_none rfl

theorem chipSelectPeriod (port : Port) (answeredDuring : Bool) (bytes : List Byte) :
    Statement (.chipSelectPeriod port answeredDuring bytes) :=
  of_none rfl

theorem setClock (port : Port) (minute : Nat) : Statement (.setClock port minute) :=
  of_some rfl rfl (fun _ => by decide) fun _ _ => rfl

theorem setOutside (port : Port) (temperature : Int) : Statement (.setOutside port temperature) :=
  of_some rfl rfl (fun _ => by decide) fun _ _ => rfl

theorem setBudget (port : Port) (normal : Option Nat) (shed : Option Nat) : Statement (.setBudget port normal shed) :=
  of_some rfl rfl (fun _ => by decide) fun _ _ => rfl

theorem setReserve (port : Port) (units : Nat) : Statement (.setReserve port units) :=
  of_some rfl rfl (fun _ => by decide) fun _ _ => rfl

theorem configureBayOutOfService (port : Port) (bay : Nat) : Statement (.configureBayOutOfService port bay) :=
  of_some rfl rfl (fun h => by simp [Instr.wf, fitsByte] at h; omega)
    fun _ h => absurd (by simp [bodyKind]) h

theorem configureBayInService (port : Port) (bay : Nat) : Statement (.configureBayInService port bay) :=
  of_some rfl rfl (fun h => by simp [Instr.wf, fitsByte] at h; omega)
    fun _ h => absurd (by simp [bodyKind]) h

theorem configureBayLampPlanOverride (port : Port) (bay : Nat) (plan : Option Nat) :
    Statement (.configureBayLampPlanOverride port bay plan) :=
  of_some rfl rfl (fun h => by simp [Instr.wf, fitsByte] at h; omega)
    fun _ h => absurd (by simp [bodyKind]) h

theorem configureBayQuota (port : Port) (bay : Nat) (quota : Nat) : Statement (.configureBayQuota port bay quota) :=
  of_some rfl rfl (fun h => by simp [Instr.wf, fitsByte] at h; omega)
    fun _ h => absurd (by simp [bodyKind]) h

theorem configureBayDepotSettings (port : Port) (bay : Nat) (settings : SettingsPart) :
    Statement (.configureBayDepotSettings port bay settings) :=
  of_some rfl rfl (fun h => by simp [Instr.wf, fitsByte] at h; omega)
    fun _ h => absurd (by simp [bodyKind]) h

theorem loadProfile (port : Port) (coachType : Nat) (profile : HeatProfile) :
    Statement (.loadProfile port coachType profile) :=
  of_some rfl rfl (fun _ => by decide) fun _ _ => rfl

theorem loadLampPlan (port : Port) (plan : Nat) (steps : List LampStep) : Statement (.loadLampPlan port plan steps) :=
  of_some rfl rfl (fun _ => by decide) fun _ _ => rfl

theorem setDeparture (port : Port) (bay : Nat) (minute : Nat) (target : Int) (expected : Nat) :
    Statement (.setDeparture port bay minute target expected) :=
  of_some rfl rfl (fun h => by simp [Instr.wf, fitsByte] at h; omega)
    fun h => by simp [bodyKind, kindNamesBay] at h

theorem cancelDeparture (port : Port) (bay : Nat) : Statement (.cancelDeparture port bay) :=
  of_some rfl rfl (fun h => by simp [Instr.wf, fitsByte] at h; omega)
    fun h => by simp [bodyKind, kindNamesBay] at h

theorem requestClearance (port : Port) (bay : Nat) (waiveHeat : Bool) :
    Statement (.requestClearance port bay waiveHeat) :=
  of_some rfl rfl (fun h => by simp [Instr.wf, fitsByte] at h; omega)
    fun h => by simp [bodyKind, kindNamesBay] at h

theorem release (port : Port) (bay : Nat) : Statement (.release port bay) :=
  of_some rfl rfl (fun h => by simp [Instr.wf, fitsByte] at h; omega)
    fun h => by simp [bodyKind, kindNamesBay] at h

theorem withdrawClearance (port : Port) (bay : Nat) : Statement (.withdrawClearance port bay) :=
  of_some rfl rfl (fun h => by simp [Instr.wf, fitsByte] at h; omega)
    fun h => by simp [bodyKind, kindNamesBay] at h

theorem readDepartures (port : Port) (index : Nat) : Statement (.readDepartures port index) :=
  of_some rfl rfl (fun _ => by decide) fun _ _ => rfl

theorem startLampCheck (port : Port) (bay : Nat) : Statement (.startLampCheck port bay) :=
  of_some rfl rfl (fun h => by simp [Instr.wf, fitsByte] at h; omega)
    fun h => by simp [bodyKind, kindNamesBay] at h

theorem abortLampCheck (port : Port) (bay : Nat) : Statement (.abortLampCheck port bay) :=
  of_some rfl rfl (fun h => by simp [Instr.wf, fitsByte] at h; omega)
    fun h => by simp [bodyKind, kindNamesBay] at h

theorem readFaults (port : Port) (bay : Nat) (index : Nat) : Statement (.readFaults port bay index) :=
  of_some rfl rfl (fun h => by simp [Instr.wf, fitsByte] at h; omega)
    fun h => by simp [bodyKind, kindNamesBay] at h

theorem deferFault (port : Port) (bay : Nat) (source : Nat) (code : Nat) (until_ : Nat) :
    Statement (.deferFault port bay source code until_) :=
  of_some rfl rfl (fun h => by simp [Instr.wf, fitsByte] at h; omega)
    fun h => by simp [bodyKind, kindNamesBay] at h

theorem clearFault (port : Port) (bay : Nat) (source : Nat) (code : Nat) :
    Statement (.clearFault port bay source code) :=
  of_some rfl rfl (fun h => by simp [Instr.wf, fitsByte] at h; omega)
    fun h => by simp [bodyKind, kindNamesBay] at h

theorem rereadFaults (port : Port) (bay : Nat) : Statement (.rereadFaults port bay) :=
  of_some rfl rfl (fun h => by simp [Instr.wf, fitsByte] at h; omega)
    fun h => by simp [bodyKind, kindNamesBay] at h

theorem placeHold (port : Port) (bay : Nat) (tag : Nat) (reason : Nat) : Statement (.placeHold port bay tag reason) :=
  of_some rfl rfl (fun h => by simp [Instr.wf, fitsByte] at h; omega)
    fun h => by simp [bodyKind, kindNamesBay] at h

theorem liftHold (port : Port) (bay : Nat) (tag : Nat) : Statement (.liftHold port bay tag) :=
  of_some rfl rfl (fun h => by simp [Instr.wf, fitsByte] at h; omega)
    fun h => by simp [bodyKind, kindNamesBay] at h

theorem readBay (port : Port) (bay : Nat) : Statement (.readBay port bay) :=
  of_some rfl rfl (fun h => by simp [Instr.wf, fitsByte] at h; omega)
    fun h => by simp [bodyKind, kindNamesBay] at h

theorem readSupply (port : Port) (part : Nat) : Statement (.readSupply port part) :=
  of_some rfl rfl (fun _ => by decide) fun _ _ => rfl

theorem readEvents (port : Port) : Statement (.readEvents port) :=
  of_some rfl rfl (fun _ => by decide) fun _ _ => rfl

theorem ackEvents (port : Port) (items : List AckItem) : Statement (.ackEvents port items) :=
  of_some rfl rfl (fun _ => by decide) fun _ _ => rfl

theorem setEventMask (port : Port) (kinds : Nat) : Statement (.setEventMask port kinds) :=
  of_some rfl rfl (fun _ => by decide) fun _ _ => rfl

theorem setQuiet (port : Port) (on : Bool) : Statement (.setQuiet port on) :=
  of_some rfl rfl (fun _ => by decide) fun _ _ => rfl

theorem arbiterChoice : Statement .arbiterChoice :=
  of_none rfl

theorem pollDue (bay : Bay) : Statement (.pollDue bay) :=
  of_none rfl

theorem probeDue (bay : Bay) : Statement (.probeDue bay) :=
  of_none rfl

theorem replyTaken (bytes : List Byte) : Statement (.replyTaken bytes) :=
  of_none rfl

theorem malformedReply (bytes : List Byte) : Statement (.malformedReply bytes) :=
  of_none rfl

theorem replyTimeout : Statement .replyTimeout :=
  of_none rfl

theorem retryQuietEnd : Statement .retryQuietEnd :=
  of_none rfl

theorem busyWaitEnd (bay : Bay) (sort : LoopSort) : Statement (.busyWaitEnd bay sort) :=
  of_none rfl

theorem busyPersistTimeout (bay : Bay) (sort : LoopSort) : Statement (.busyPersistTimeout bay sort) :=
  of_none rfl

theorem nodeLoss (bay : Bay) : Statement (.nodeLoss bay) :=
  of_none rfl

theorem arrival (bay : Bay) : Statement (.arrival bay) :=
  of_none rfl

theorem cleanDeparture (bay : Bay) : Statement (.cleanDeparture bay) :=
  of_none rfl

theorem unreleasedDeparture (bay : Bay) : Statement (.unreleasedDeparture bay) :=
  of_none rfl

theorem stageIncrease : Statement .stageIncrease :=
  of_none rfl

theorem stuckContactor (bay : Bay) : Statement (.stuckContactor bay) :=
  of_none rfl

theorem lampSlotTaken : Statement .lampSlotTaken :=
  of_none rfl

theorem lampCheckRunning (slot : Fin 4) : Statement (.lampCheckRunning slot) :=
  of_none rfl

theorem lampSampleInterval (slot : Fin 4) : Statement (.lampSampleInterval slot) :=
  of_none rfl

theorem lampOffRetry (bay : Bay) : Statement (.lampOffRetry bay) :=
  of_none rfl

theorem visitBegin : Statement .visitBegin :=
  of_none rfl

theorem wakeSettleEnd : Statement .wakeSettleEnd :=
  of_none rfl

theorem failedVisitsLimit : Statement .failedVisitsLimit :=
  of_none rfl

theorem readerResume : Statement .readerResume :=
  of_none rfl

theorem stopLimitExpiry (bay : Bay) : Statement (.stopLimitExpiry bay) :=
  of_none rfl

theorem latchLimitExpiry (bay : Bay) : Statement (.latchLimitExpiry bay) :=
  of_none rfl

theorem releaseWindowExpiry (bay : Bay) : Statement (.releaseWindowExpiry bay) :=
  of_none rfl

theorem relatchRetry (bay : Bay) : Statement (.relatchRetry bay) :=
  of_none rfl

theorem clearanceValidityExpiry (bay : Bay) : Statement (.clearanceValidityExpiry bay) :=
  of_none rfl

end Sys2Proof.Laws.TableRow
end

