-- ==== Sys2Proof/Laws/Polls.lean ====
section
/-! SUPPORT. What holding the due polls over a command changes: the poll of a bay's pending list and nothing else, and not
that where no poll class has moved (spec 02, R40, R41). -/

namespace Sys2Proof.Machine

variable (s t : State) (b : Bay)

/-- What setting the polls of some bays leaves of a bay. -/
theorem forBays_setPoll_bay (bs : List Bay) (p : Bay → PollPlan) (t : State) (b : Bay) :
    (forBays bs (fun b => setPoll b (p b)) t).bay b =
      if b ∈ bs then { t.bay b with loop := { (t.bay b).loop with poll := p b } } else t.bay b := by
  induction bs generalizing t with
  | nil => simp [forBays]
  | cons x xs ih =>
    have h : forBays (x :: xs) (fun b => setPoll b (p b)) t =
        forBays xs (fun b => setPoll b (p b)) (setPoll x (p x) t) := rfl
    rw [h, ih]
    by_cases hx : b = x
    · subst hx; simp [setPoll, updLoop]
    · simp [setPoll, updLoop, updBay_bay, hx]

/-- A bay after the polls of all bays have been set. -/
theorem setPolls_bay (p : Bay → PollPlan) :
    (setPolls p s).bay b = { s.bay b with loop := { (s.bay b).loop with poll := p b } } := by
  simp [setPolls, forAllBays, forBays_setPoll_bay, allBays]

/-- Setting the polls changes the bay records alone. -/
theorem setPolls_eq (p : Bay → PollPlan) : ∃ bays, setPolls p s = { s with bays := bays } := by
  unfold setPolls forAllBays
  generalize allBays = bs
  suffices h : ∀ u : State, ∃ bays, forBays bs (fun b => setPoll b (p b)) u = { u with bays := bays } from h s
  induction bs with
  | nil => exact fun u => ⟨u.bays, rfl⟩
  | cons x xs ih => exact fun u => (ih (setPoll x (p x) u)).imp fun bays h => h

/-- Setting each poll to what it is changes nothing. -/
theorem setPolls_of_eq {p : Bay → PollPlan} {s : State} (h : ∀ b : Bay, p b = (s.bay b).loop.poll) :
    setPolls p s = s := by
  have hb : ∀ b : Bay, (setPolls p s).bay b = s.bay b := fun b => by rw [setPolls_bay, h b]
  have hv : (setPolls p s).bays = s.bays := Vector.ext fun i hi => hb ⟨i, hi⟩
  obtain ⟨bays, h'⟩ := setPolls_eq s p
  rw [h'] at hv ⊢
  rw [show bays = s.bays from hv]

/-- A bay after the due polls have been held. -/
theorem pollsHeld_bay :
    (pollsHeld s t).bay b = { t.bay b with loop := { (t.bay b).loop with poll := heldPoll s t b } } :=
  setPolls_bay t b _

/-- Holding the due polls changes the bay records alone. -/
theorem pollsHeld_eq : ∃ bays, pollsHeld s t = { t with bays := bays } := setPolls_eq t _

/-- A bay after the promotions have been judged. -/
theorem promotionsJudged_bay :
    (promotionsJudged s).bay b = { s.bay b with loop := { (s.bay b).loop with poll := judgedPoll s b } } :=
  setPolls_bay s b _

/-- Judging the promotions changes the bay records alone. -/
theorem promotionsJudged_eq : ∃ bays, promotionsJudged s = { s with bays := bays } := setPolls_eq s _

/-- Where no bay has left class A promoted, judging the promotions changes nothing. -/
theorem promotionsJudged_of_none
    (h : ∀ (b : Bay) (lastEnd due : Moment), (s.bay b).loop.poll ≠ .held lastEnd due true) :
    promotionsJudged s = s := by
  refine setPolls_of_eq fun b => ?_
  unfold judgedPoll
  split
  · exact absurd ‹_› (h b _ _)
  · rfl

/-! ### The fields it leaves -/

@[simp] theorem pollsHeld_time : (pollsHeld s t).time = t.time := by
  obtain ⟨_, h⟩ := pollsHeld_eq s t; rw [h]
@[simp] theorem pollsHeld_lastSecond : (pollsHeld s t).lastSecond = t.lastSecond := by
  obtain ⟨_, h⟩ := pollsHeld_eq s t; rw [h]
@[simp] theorem pollsHeld_inReset : (pollsHeld s t).inReset = t.inReset := by
  obtain ⟨_, h⟩ := pollsHeld_eq s t; rw [h]
@[simp] theorem pollsHeld_shedLine : (pollsHeld s t).shedLine = t.shedLine := by
  obtain ⟨_, h⟩ := pollsHeld_eq s t; rw [h]
@[simp] theorem pollsHeld_clock : (pollsHeld s t).clock = t.clock := by
  obtain ⟨_, h⟩ := pollsHeld_eq s t; rw [h]
@[simp] theorem pollsHeld_supply : (pollsHeld s t).supply = t.supply := by
  obtain ⟨_, h⟩ := pollsHeld_eq s t; rw [h]
@[simp] theorem pollsHeld_settings : (pollsHeld s t).settings = t.settings := by
  obtain ⟨_, h⟩ := pollsHeld_eq s t; rw [h]
@[simp] theorem pollsHeld_outside : (pollsHeld s t).outside = t.outside := by
  obtain ⟨_, h⟩ := pollsHeld_eq s t; rw [h]
@[simp] theorem pollsHeld_profiles : (pollsHeld s t).profiles = t.profiles := by
  obtain ⟨_, h⟩ := pollsHeld_eq s t; rw [h]
@[simp] theorem pollsHeld_lampPlans : (pollsHeld s t).lampPlans = t.lampPlans := by
  obtain ⟨_, h⟩ := pollsHeld_eq s t; rw [h]
@[simp] theorem pollsHeld_lampQueue : (pollsHeld s t).lampQueue = t.lampQueue := by
  obtain ⟨_, h⟩ := pollsHeld_eq s t; rw [h]
@[simp] theorem pollsHeld_slots : (pollsHeld s t).slots = t.slots := by
  obtain ⟨_, h⟩ := pollsHeld_eq s t; rw [h]
@[simp] theorem pollsHeld_freeCount : (pollsHeld s t).freeCount = t.freeCount := by
  obtain ⟨_, h⟩ := pollsHeld_eq s t; rw [h]
@[simp] theorem pollsHeld_lowFlag : (pollsHeld s t).lowFlag = t.lowFlag := by
  obtain ⟨_, h⟩ := pollsHeld_eq s t; rw [h]
@[simp] theorem pollsHeld_readerQueue : (pollsHeld s t).readerQueue = t.readerQueue := by
  obtain ⟨_, h⟩ := pollsHeld_eq s t; rw [h]
@[simp] theorem pollsHeld_suspended : (pollsHeld s t).suspended = t.suspended := by
  obtain ⟨_, h⟩ := pollsHeld_eq s t; rw [h]
@[simp] theorem pollsHeld_visit : (pollsHeld s t).visit = t.visit := by
  obtain ⟨_, h⟩ := pollsHeld_eq s t; rw [h]
@[simp] theorem pollsHeld_departures : (pollsHeld s t).departures = t.departures := by
  obtain ⟨_, h⟩ := pollsHeld_eq s t; rw [h]
@[simp] theorem pollsHeld_departuresRevision : (pollsHeld s t).departuresRevision = t.departuresRevision := by
  obtain ⟨_, h⟩ := pollsHeld_eq s t; rw [h]
@[simp] theorem pollsHeld_line : (pollsHeld s t).line = t.line := by
  obtain ⟨_, h⟩ := pollsHeld_eq s t; rw [h]
@[simp] theorem pollsHeld_ports : (pollsHeld s t).ports = t.ports := by
  obtain ⟨_, h⟩ := pollsHeld_eq s t; rw [h]
@[simp] theorem pollsHeld_pending : (pollsHeld s t).pending = t.pending := by
  obtain ⟨_, h⟩ := pollsHeld_eq s t; rw [h]
@[simp] theorem pollsHeld_port (p : Port) : (pollsHeld s t).port p = t.port p := by simp [State.port]
@[simp] theorem pollsHeld_table : ((pollsHeld s t).bay b).table = (t.bay b).table := by rw [pollsHeld_bay]
@[simp] theorem pollsHeld_heat : ((pollsHeld s t).bay b).heat = (t.bay b).heat := by rw [pollsHeld_bay]
@[simp] theorem pollsHeld_power : ((pollsHeld s t).bay b).power = (t.bay b).power := by rw [pollsHeld_bay]
@[simp] theorem pollsHeld_lamp : ((pollsHeld s t).bay b).lamp = (t.bay b).lamp := by rw [pollsHeld_bay]
@[simp] theorem pollsHeld_faults : ((pollsHeld s t).bay b).faults = (t.bay b).faults := by rw [pollsHeld_bay]
@[simp] theorem pollsHeld_reader : ((pollsHeld s t).bay b).reader = (t.bay b).reader := by rw [pollsHeld_bay]
@[simp] theorem pollsHeld_clear : ((pollsHeld s t).bay b).clear = (t.bay b).clear := by rw [pollsHeld_bay]
@[simp] theorem pollsHeld_loop :
    ((pollsHeld s t).bay b).loop = { (t.bay b).loop with poll := heldPoll s t b } := by rw [pollsHeld_bay]

@[simp] theorem pollsHeld_laneOf (sort : LoopSort) : laneOf (pollsHeld s t) b sort = laneOf t b sort := by
  cases sort <;> simp [laneOf, LoopRec.lane]

/-! ### Where no class moves -/

variable {s t} {b}

/-- A poll period tells class A. -/
theorem classA_of_pollPeriod (h : pollPeriod t b = pollPeriod s b) : classA t b = classA s b := by
  unfold pollPeriod at h
  cases hs : classA s b <;> cases ht : classA t b <;> simp_all <;> split at h <;> contradiction

/-- A bay whose class stays keeps its poll. -/
theorem heldPoll_of_period (h : pollPeriod t b = pollPeriod s b) : heldPoll s t b = (t.bay b).loop.poll := by
  have hA := classA_of_pollPeriod h
  unfold heldPoll leavesPromoted
  split <;> simp_all

/-- Where no poll class moves, no poll is held. -/
theorem pollsHeld_of_period (h : ∀ b : Bay, pollPeriod t b = pollPeriod s b) : pollsHeld s t = t :=
  setPolls_of_eq fun b => heldPoll_of_period (h b)

@[simp] theorem pollsHeld_self : pollsHeld s s = s := pollsHeld_of_period fun _ => rfl

/-- Class A, with the visit named by its bay. -/
theorem classA_eq (s : State) (b : Bay) :
    classA s b =
      (decide (0 < (s.bay b).power.grant) || decide (0 < (s.bay b).power.closed) ||
        (s.bay b).lamp.check == .running || s.visit.map Visit.bay == some b || inRelease s b) := by
  unfold classA
  cases s.visit <;> simp

/-- A poll period depends on the bay's occupancy, contactors, check and clearance state and on the visit. -/
theorem pollPeriod_congr (h1 : (t.bay b).table.occ = (s.bay b).table.occ)
    (h2 : (t.bay b).power.grant = (s.bay b).power.grant) (h3 : (t.bay b).power.closed = (s.bay b).power.closed)
    (h4 : (t.bay b).lamp.check = (s.bay b).lamp.check) (h5 : inRelease t b = inRelease s b)
    (h6 : t.visit.map Visit.bay = s.visit.map Visit.bay) : pollPeriod t b = pollPeriod s b := by
  have ho : occupied t b = occupied s b := by unfold occupied; rw [h1]
  unfold pollPeriod
  rw [classA_eq, classA_eq, h2, h3, h4, h5, h6, ho]

/-- What a command does, and the due polls held. -/
theorem carryOut_eq (f : State → State) : carryOut f s = .next (pollsHeld s (f s)) := rfl

/-- A command that moves no poll class does just what it does. -/
theorem carryOut_of_period {f : State → State} (h : ∀ b : Bay, pollPeriod (f s) b = pollPeriod s b) :
    carryOut f s = .next (f s) := by
  rw [carryOut_eq, pollsHeld_of_period h]

end Sys2Proof.Machine
end

