-- ==== Sys2Proof/Tests/Slice0.lean ====
section
/-! SUPPORT. Small tests: the ill-formed terms that each check refuses, one or two single steps of each command with
results worked out from the spec, and for each statement with hypotheses a state and operands that meet them. -/

namespace Sys2Proof.Tests

open Sys2Proof.Machine

set_option maxRecDepth 100000

/-! ### States to start from -/

/-- What a command shows in its next state. -/
def after (o : Host.Outcome State Fault Refusal) (shows : State → Bool) : Bool :=
  match o with
  | .next t => shows t
  | .fault _ => false
  | .refused _ => false

/-- The result in a port's buffer. -/
def resultOf (t : State) (p : Port) : Option Result := (t.port p).response.map Response.result

/-- An event stands for bay 3 on the Dispatch port. -/
def saw (e : BayEvent) (t : State) : Bool := (t.port .dispatch).baySets[bayEventKind e].getLsbD 3

/-- In reset, after RESETn fell with the SHED line as given. -/
def inResetState (line : Bool) : State := State.atReset true line .normal 0 .idle []

/-- Out of reset with the clock SET. -/
def clocked (minute seconds : Nat) : State :=
  { State.reset with clock := { minute := minute, seconds := seconds, isSet := true } }

/-- Bay 3 is VACANT, polled last at 20 ms, with the clock at minute 100. -/
def vacant : State :=
  updLoop 3 (fun l => { l with poll := .classed 20000 })
    (updTable 3 (fun t => { t with occ := .vacant, beforeLoss := none, discovered := true }) (clocked 100 0))

/-- A profile of three stages of 30 units that gain 0.30 degrees a minute and lose nothing. -/
def profile3 : HeatProfile :=
  { stages := 3, power := 30, gain := 10, loss := 0, margin := 5, hysteresis := 10 }

/-- Bay 3 holds coach 3310 of type 2, booked for minute 500 at 20.0 degrees, warm, lamps passed, faults read. -/
def coach : State :=
  updReader 3 (fun r => { r with state := .complete })
    (updLamp 3 (fun l => { l with check := .passed, result := .passed, completion := some 90 })
      (updHeat 3 (fun h => { h with cabin := some 200, profile := some profile3 })
        (updTable 3
          (fun t => { t with
            occ := .present, plug := some .in_, latch := some .closed
            identity := some { fleet := 3310, coachType := 2 }, lampPlan := some 2
            departure := some { minute := 500, target := 200, expected := none, overdue := false } })
          { vacant with departures := [{ bay := 3, minute := 500 }] })))

/-- Bay 3's clearance record changed. -/
def withClear (f : ClearRec → ClearRec) : State := updClear 3 f coach

/-- Bay 3 is CLEARED since 20 ms. -/
def cleared : State := withClear fun c => { c with state := .cleared, validityFrom := some 20000 }

/-- Bay 3 is RELEASING and stops its heat since 20 ms. -/
def stopping : State :=
  withClear fun c => { c with state := .releasing, substep := some .stoppingHeat, stopFrom := some 20000 }

/-- Bay 3 is RELEASING, its latch asked to open at 20 ms. -/
def unlatching : State :=
  withClear fun c => { c with
    state := .releasing, substep := some .unlatching, latchFrom := some 20000, openAsked := true }

/-- Bay 3 is RELEASED since 20 ms. -/
def released : State :=
  withClear fun c => { c with state := .released, windowFrom := some 20000, openAsked := true }

/-- A lamp step. -/
def step0 : LampStep := { circuit := 5, low := 40, high := 90, settle := 20, cls := .blocking }

/-- Lamp plan 2 has one step, and the supply is 640 with a reserve of 40. -/
def planned2 (s : State) : State :=
  { s with
    lampPlans := s.lampPlans.set 2 [step0]
    supply := { s.supply with normal := 640, shed := 340 } }

/-- Bay 3 waits in the lamp queue. -/
def queued : State :=
  { updLamp 3 (fun l => { l with check := .queued, result := .inProgress, plan := some 2, completion := none })
      (planned2 coach) with lampQueue := [3] }

/-- Slot 0 holds the check of bay 3, in the phase given. -/
def slot3 (phase : SlotPhase) : Slot :=
  { bay := 3, plan := 2, stepIndex := 0, validSamples := 0, lastBand := none, results := [], blocking := 0,
    advisory := 0, phase := phase, step := if phase = .sampling then some step0 else none, askedAt := 20000,
    nextAt := some 220000 }

/-- Bay 3's check holds slot 0. -/
def slotted (check : CheckState) (phase : SlotPhase) : State :=
  { updLamp 3
      (fun l => { l with
        check := check, result := .inProgress, plan := some 2, slot := some 0, completion := none
        lit := decide (phase = .sampling) })
      (planned2 coach) with slots := (planned2 coach).slots.set 0 (some (slot3 phase)) }

/-- Slot 0 waits for its 8 units. -/
def slotWaits : State :=
  updSupply (fun x => { x with waiting := [.slot 0] }) (slotted .waitingPower .waitingPower)

/-- Slot 0 is in its step. -/
def slotRuns : State :=
  updPower 3 (fun p => { p with stepHold := true })
    (updSupply (fun x => { x with reservations := [{ holder := .slot 0, bay := 3 }] }) (slotted .running .sampling))

/-- A fault entry. -/
def entryOf (source code : Nat) (cls : FaultClass) (st : FaultState) : FaultEntry :=
  { source := source, code := code, cls := cls, state := st, occurrences := 1, firstSeen := some 90,
    lastSeen := some 90, expiry := if st = .deferred then some 300 else none, seen := true }

/-- Bay 3 has one fault entry. -/
def faulty (e : FaultEntry) (s : State) : State :=
  updFaults 3 (fun f => { f with list := [e], revision := 1 }) { s with freeCount := 511 }

/-- Bay 3 is heating with the grant, the commanded target and the closed count given. -/
def heating (grant commanded closed : Nat) : State :=
  updPower 3
    (fun p => { p with grant := grant, commanded := commanded, closed := closed, polledSince := true })
    (updHeat 3 (fun h => { h with state := .heating, demand := 3, cabin := some 100 }) (planned2 coach))

/-- Bay 3 is planned. -/
def plannedBay : State :=
  updHeat 3 (fun h => { h with state := .planned, plannedStart := some 495, plannedLead := some 5 }) coach

/-- An entry of the pending list that was asked at 20 ms. -/
def asked (req : LoopReq) : Entry := newEntry req 20000

/-- A transaction of bay 3 on the line, its frame ending at 20.2 ms. -/
def sent (req : LoopReq) (attempt : Nat) : OnLine :=
  { bay := 3, entry := asked req, attempt := attempt, sentEnd := 20200, quietUntil := none }

/-- The line holds a transaction of bay 3. -/
def onLine (req : LoopReq) (attempt : Nat) (s : State) : State := { s with line := some (sent req attempt) }

/-- A reply of bay 3's node, its CRC with it. -/
def reply (kind status : Nat) (payload : List Byte) : List Byte :=
  withCrc (byte 4 ++ byte kind ++ byte status ++ byte payload.length ++ payload)

/-- A POLL reply of bay 3: plug IN, latch closed, the count and cabin temperature given, bridge asleep. -/
def pollReply (closed : Nat) (cabin : Int) : List Byte :=
  reply 1 0 ([1#8, 0#8, BitVec.ofNat 8 closed] ++ temperature cabin ++ [0#8])

/-- The reader visits bay 3 in the phase given. -/
def visitOf (phase : VisitPhase) (settleUntil : Option Moment) (failed : Bool) : Visit :=
  { bay := 3, phase := phase, budget := 8, fetches := 0, settleUntil := settleUntil, failed := failed,
    suspended := false }

/-! ### Well-formed commands: each check refuses a term -/

theorem test_wf_setClock : (Instr.setClock .schedule 4294967296).wf = false := by decide
theorem test_wf_setOutside : (Instr.setOutside .schedule (-32769)).wf = false := by decide
theorem test_wf_setBudget_normal : (Instr.setBudget .schedule (some 65536) none).wf = false := by decide
theorem test_wf_setBudget_shed : (Instr.setBudget .schedule none (some 65536)).wf = false := by decide
theorem test_wf_setReserve : (Instr.setReserve .schedule 65536).wf = false := by decide
theorem test_wf_bay :
    (Instr.configureBayOutOfService .schedule 256).wf = false ∧ (Instr.configureBayInService .schedule 256).wf = false ∧
      (Instr.cancelDeparture .schedule 256).wf = false ∧ (Instr.requestClearance .dispatch 256 true).wf = false ∧
      (Instr.release .dispatch 256).wf = false ∧ (Instr.withdrawClearance .dispatch 256).wf = false ∧
      (Instr.startLampCheck .workshop 256).wf = false ∧ (Instr.abortLampCheck .workshop 256).wf = false ∧
      (Instr.rereadFaults .workshop 256).wf = false ∧ (Instr.readBay .workshop 256).wf = false := by decide
theorem test_wf_planOverride :
    (Instr.configureBayLampPlanOverride .schedule 256 none).wf = false ∧
      (Instr.configureBayLampPlanOverride .schedule 3 (some 255)).wf = false := by decide
theorem test_wf_quota :
    (Instr.configureBayQuota .schedule 256 4).wf = false ∧ (Instr.configureBayQuota .schedule 3 256).wf = false := by
  decide
theorem test_wf_settings :
    (Instr.configureBayDepotSettings .schedule 256 noSettings).wf = false ∧
      (Instr.configureBayDepotSettings .schedule 255 { noSettings with restoreDelay := some 65536 }).wf = false ∧
      (Instr.configureBayDepotSettings .schedule 255 { noSettings with lampValidity := some 65536 }).wf = false ∧
      (Instr.configureBayDepotSettings .schedule 255 { noSettings with recordBudget := some 256 }).wf = false ∧
      (Instr.configureBayDepotSettings .schedule 255 { noSettings with clearanceValidity := some 256 }).wf = false ∧
      (Instr.configureBayDepotSettings .schedule 255 { noSettings with releaseWindow := some 65536 }).wf = false := by
  decide
theorem test_wf_profile :
    (Instr.loadProfile .schedule 256 profile3).wf = false ∧
      (Instr.loadProfile .schedule 0 { profile3 with stages := 256 }).wf = false ∧
      (Instr.loadProfile .schedule 0 { profile3 with power := 65536 }).wf = false ∧
      (Instr.loadProfile .schedule 0 { profile3 with gain := 256 }).wf = false ∧
      (Instr.loadProfile .schedule 0 { profile3 with loss := 256 }).wf = false ∧
      (Instr.loadProfile .schedule 0 { profile3 with margin := 256 }).wf = false ∧
      (Instr.loadProfile .schedule 0 { profile3 with hysteresis := 256 }).wf = false := by decide
theorem test_wf_lampPlan :
    (Instr.loadLampPlan .schedule 256 []).wf = false ∧
      (Instr.loadLampPlan .schedule 0 (List.replicate 17 step0)).wf = false ∧
      (Instr.loadLampPlan .schedule 0 [{ step0 with circuit := 256 }]).wf = false ∧
      (Instr.loadLampPlan .schedule 0 [{ step0 with low := 65536 }]).wf = false ∧
      (Instr.loadLampPlan .schedule 0 [{ step0 with high := 65536 }]).wf = false ∧
      (Instr.loadLampPlan .schedule 0 [{ step0 with settle := 256 }]).wf = false := by decide
theorem test_wf_setDeparture :
    (Instr.setDeparture .schedule 256 0 0 0).wf = false ∧ (Instr.setDeparture .schedule 3 4294967296 0 0).wf = false ∧
      (Instr.setDeparture .schedule 3 0 32768 0).wf = false ∧ (Instr.setDeparture .schedule 3 0 0 65536).wf = false := by
  decide
theorem test_wf_index :
    (Instr.readDepartures .dispatch 256).wf = false ∧ (Instr.readFaults .workshop 256 0).wf = false ∧
      (Instr.readFaults .workshop 3 256).wf = false ∧ (Instr.readSupply .schedule 256).wf = false := by decide
theorem test_wf_deferFault :
    (Instr.deferFault .workshop 256 0 0 0).wf = false ∧ (Instr.deferFault .workshop 3 256 0 0).wf = false ∧
      (Instr.deferFault .workshop 3 0 65536 0).wf = false ∧
      (Instr.deferFault .workshop 3 0 0 4294967296).wf = false := by decide
theorem test_wf_clearFault :
    (Instr.clearFault .workshop 256 0 0).wf = false ∧ (Instr.clearFault .workshop 3 256 0).wf = false ∧
      (Instr.clearFault .workshop 3 0 65536).wf = false := by decide
theorem test_wf_holds :
    (Instr.placeHold .workshop 256 1 0).wf = false ∧ (Instr.placeHold .workshop 3 256 0).wf = false ∧
      (Instr.placeHold .workshop 3 1 256).wf = false ∧ (Instr.liftHold .workshop 256 1).wf = false ∧
      (Instr.liftHold .workshop 3 256).wf = false := by decide
theorem test_wf_events :
    (Instr.ackEvents .schedule (List.replicate 256 { kind := 0, bays := 0, count := 0 })).wf = false ∧
      (Instr.ackEvents .schedule [{ kind := 256, bays := 0, count := 0 }]).wf = false ∧
      (Instr.ackEvents .schedule [{ kind := 17, bays := 0, count := 256 }]).wf = false ∧
      (Instr.setEventMask .schedule 16777216).wf = false := by decide

/-! ### Words, bytes and frames -/

/-- The CRC-16 of R191 gives 29B1 for the digits 1 to 9, the published check value of that generator and start. -/
theorem test_crc :
    crc16 [0x31#8, 0x32#8, 0x33#8, 0x34#8, 0x35#8, 0x36#8, 0x37#8, 0x38#8, 0x39#8] = 0x29B1#16 := by decide

/-- No row of the operation table gives bits, so no word spells a command. -/
theorem test_decode_none : decodeTableWord 8 1 = none := by decide

/-- The largest request is LOAD_LAMP_PLAN with 16 steps, 116 bytes after its length (spec 11, 11.2). -/
theorem test_largest_request :
    parseBody 7 ([2#8, 16#8] ++ (List.replicate 16 [5#8, 0#8, 40#8, 0#8, 90#8, 20#8, 0#8]).flatten) =
      some (.loadLampPlan 2 (List.replicate 16 step0)) := by decide

/-! ### The commands, family by family: reset, the clock and the supply -/

theorem test_reset : after (exec .reset cleared) (fun t => t.inReset && (t.bay 3).table.occ == .lost) = true := by decide

theorem test_resetEnd :
    after (exec .resetEnd (inResetState true)) (fun t => t.supply.state == .shed && t.time == 20000) = true := by decide

theorem test_secondsTick :
    after (exec .secondsTick (clocked 7 59)) (fun t => t.clock.minute == 8 && t.clock.seconds == 0) = true := by decide

theorem test_minuteAdvance_saturates :
    after (exec .minuteAdvance (clocked 16777215 0)) (fun t => t.clock.minute == 16777215) = true := by decide

theorem test_minuteAdvance_fires :
    after (exec .minuteAdvance { plannedBay with clock := { minute := 494, seconds := 59, isSet := true } })
      (fun t => t.clock.minute == 495 && (t.bay 3).heat.state != .planned) = true := by decide

/-- The six coaches of the worked example of spec 03. With a heat budget of 300 under shed bays 3, 14 and 7 take 4, 4
and 1 stages of 30, 30 and 40 units, and bay 27 one stage of 20. -/
def dawn : State :=
  [((3 : Bay), 11825, 30, 4), (14, 11830, 30, 4), (7, 11840, 40, 3), (22, 11840, 24, 4), (9, 11855, 30, 4),
      (27, 11870, 20, 1)].foldl
    (fun s x =>
      let s := updTable x.1
        (fun t => { t with
          occ := .present, beforeLoss := none, discovered := true
          departure := some { minute := x.2.1, target := 200, expected := none, overdue := false } }) s
      updPower x.1 (fun p => { p with grant := x.2.2.2, commanded := x.2.2.2, closed := x.2.2.2 })
        (updHeat x.1
          (fun h => { h with
            state := .heating, demand := x.2.2.2, profile := some { profile3 with stages := 4, power := x.2.2.1 } })
          { s with departures := s.departures ++ [{ bay := x.1, minute := x.2.1 }] }))
    { clocked 11690 0 with supply := { State.reset.supply with normal := 640, shed := 340, reserve := 40 } }

theorem test_shedAsserted :
    after (exec .shedAsserted dawn)
      (fun t => [(3 : Bay), 14, 7, 22, 9, 27].map (fun b => (t.bay b).power.grant) == [4, 4, 1, 0, 0, 1]) = true := by
  decide

theorem test_shedAsserted_reductions :
    after (exec .shedAsserted dawn)
      (fun t => (laneOf t 7 .stage).queued.map Entry.req == some (.stage 1 false) &&
        (laneOf t 27 .stage).queued.isNone && (t.bay 22).heat.starved) = true := by decide

theorem test_shedDeasserted :
    after (exec .shedDeasserted { dawn with shedLine := true, supply := { dawn.supply with state := .shed } })
      (fun t => t.supply.state == .restoring && effectiveBudget t == 340) = true := by decide

theorem test_restoreDelayEnd :
    after (exec .restoreDelayEnd { dawn with supply := { dawn.supply with state := .restoring, restoreFrom := some 0 } })
      (fun t => t.supply.state == .normal && t.time == 60000000 && (t.port .dispatch).supply.count == 1) = true := by
  decide

theorem test_setClock :
    after (exec (.setClock .schedule 16777216) State.reset)
      (fun t => resultOf t .schedule == some .outOfRange && !t.clock.isSet) = true := by decide

theorem test_setBudget :
    after (exec (.setBudget .schedule (some 16001) none) State.reset)
      (fun t => t.supply.normal == 16000 && t.supply.shed == 0 && (t.port .workshop).supply.flag) = true := by decide

theorem test_setReserve :
    after (exec (.setReserve .schedule 401) dawn) (fun t => t.supply.reserve == 400) = true := by decide

/-! ### Ports and events -/

/-- An EMPTY port shifts out NOT_READY with length 2, kind echo none and result 1. -/
theorem test_chipSelectPeriod_image :
    after (exec (.chipSelectPeriod .schedule false [0#8, 0#8, 0#8, 0#8, 0#8]) State.reset)
      (fun t => (t.port .schedule).shiftedOut == [0#8, 2#8, 0#8, 1#8]) = true := by decide

/-- SET_QUIET is kind 27: length 3, kind 27, bay none, on. -/
theorem test_chipSelectPeriod_request :
    after (exec (.chipSelectPeriod .workshop false [3#8, 27#8, 255#8, 1#8]) State.reset)
      (fun t => (t.port .workshop).inWork == some { bay := 255, body := .setQuiet true }) = true := by decide

theorem test_readBay :
    after (exec (.readBay .dispatch 3) coach)
      (fun t => (t.port .dispatch).response.any fun r =>
        r.payload.take 12 == [3#8, 3#8, 255#8, 1#8, 0#8, 1#8, 0#8, 255#8, 0#8, 1#8, 0#8, 0#8]) = true := by decide

theorem test_readBay_badBay :
    after (exec (.readBay .dispatch 32) coach) (fun t => resultOf t .dispatch == some .badBay) = true := by decide

theorem test_readSupply :
    after (exec (.readSupply .dispatch 11) coach) (fun t => resultOf t .dispatch == some .outOfRange) = true := by decide

/-- The readout of the events holds 88 bytes (spec 11). -/
theorem test_readEvents :
    after (exec (.readEvents .schedule) coach)
      (fun t => (t.port .schedule).response.any fun r => r.payload.length == 88) = true := by decide

theorem test_readFaults :
    after (exec (.readFaults .workshop 3 0) (faulty (entryOf 3 1204 .advisory .stored) coach))
      (fun t => (t.port .workshop).response.any fun r =>
        r.payload ==
          [1#8, 16#8, 0#8, 4#8, 1#8, 1#8, 255#8, 1#8, 0#8, 3#8, 4#8, 180#8, 1#8, 1#8, 1#8, 11#8, 0#8, 0#8, 0#8, 90#8,
            0#8, 0#8, 0#8, 90#8, 0#8, 0#8, 0#8, 0#8]) = true := by decide

theorem test_readDepartures :
    after (exec (.readDepartures .dispatch 2) coach) (fun t => resultOf t .dispatch == some .outOfRange) = true := by
  decide

theorem test_ackEvents :
    after (exec (.ackEvents .schedule [{ kind := 0, bays := 0x8#32, count := 0 }])
        (post .arrival 4 (post .arrival 3 State.reset)))
      (fun t => (t.port .schedule).baySets[(0 : Fin 18)] == 0x10#32) = true := by decide

theorem test_ackEvents_twice :
    after (exec (.ackEvents .schedule
        [{ kind := 17, bays := 0, count := 1 }, { kind := 17, bays := 0, count := 1 }]) (postSupply State.reset))
      (fun t => resultOf t .schedule == some .outOfRange && (t.port .schedule).supply.flag) = true := by decide

theorem test_setEventMask :
    after (exec (.setEventMask .dispatch 262144) State.reset)
      (fun t => resultOf t .dispatch == some .outOfRange && (t.port .dispatch).mask == dispatchMask) = true := by decide

theorem test_setQuiet :
    after (exec (.setQuiet .schedule true) (post .arrival 3 State.reset)) (fun t => !attn t .schedule) = true := by
  decide

/-! ### Configuration and departures -/

theorem test_configureBayOutOfService :
    after (exec (.configureBayOutOfService .schedule 3) coach) (fun t => resultOf t .schedule == some .wrongState) =
      true := by decide

/-- A CONFIGURE_BAY of no bay that carries a bay part is BAD_BAY, its option a number with no meaning (R177). -/
theorem test_configureBayOutOfService_none :
    ((configurePayload ((List.replicate 13 0#8) ++ [1#8, 2#8, 0#8, 0#8, 0#8, 0#8])).map fun b =>
      (handle .schedule { bay := 255, body := b } State.reset).result) = some .badBay := by decide

theorem test_configureBayInService :
    after (exec (.configureBayInService .schedule 3) (updTable 3 (fun x => { x with occ := .outOfService }) vacant))
      (fun t => (t.bay 3).table.occ == .lost && (t.bay 3).table.beforeLoss == some .vacant) = true := by decide

theorem test_configureBayLampPlanOverride :
    after (exec (.configureBayLampPlanOverride .schedule 3 none)
        (updTable 3 (fun x => { x with planOverride := some 6, lampPlan := some 6 }) coach))
      (fun t => (t.bay 3).table.lampPlan == some 2) = true := by decide

theorem test_configureBayQuota :
    after (exec (.configureBayQuota .schedule 3 65) coach) (fun t => resultOf t .schedule == some .outOfRange) = true := by
  decide

theorem test_configureBayDepotSettings :
    after (exec (.configureBayDepotSettings .schedule 255 { noSettings with releaseWindow := some 20 }) coach)
      (fun t => t.settings.releaseWindow == 30 && t.settings.lampValidity == 720) = true := by decide

theorem test_loadProfile :
    after (exec (.loadProfile .schedule 7 { profile3 with stages := 5 }) coach)
      (fun t => resultOf t .schedule == some .outOfRange && t.profiles[(7 : Fin 8)] == resetProfile) = true := by decide

/-- From 10.0 to 20.0 degrees with 3 stages of gain 10 and no loss: 100 tenths at 3 a minute are 34 minutes, and the
margin of 5 makes a lead of 39. -/
theorem test_setOutside :
    after (exec (.setOutside .schedule 0) (updHeat 3 (fun h => { h with cabin := some 100 }) plannedBay))
      (fun t => (t.bay 3).heat.plannedLead == some 39 && (t.bay 3).heat.plannedStart == some 461) = true := by decide

/-- With a loss of 64 and 0 degrees outside the mean of 15.0 degrees loses 9 of the 30: 1000 over 21 is 48 minutes. -/
theorem test_heatUpTime : heatUpTime 3 10 64 100 200 0 = some 48 := by decide

theorem test_loadLampPlan :
    after (exec (.loadLampPlan .schedule 2 []) slotRuns) (fun t => resultOf t .schedule == some .inUse) = true := by
  decide

theorem test_setDeparture :
    after (exec (.setDeparture .schedule 3 600 300 7001) coach)
      (fun t => (departureOf t 3).any (fun d => d.target == 280 && d.expected == some 7001) && saw .coachMismatch t) =
      true := by decide

theorem test_cancelDeparture :
    after (exec (.cancelDeparture .schedule 3) cleared)
      (fun t => t.departures == [] && (t.bay 3).clear.state == .revoked) = true := by decide

/-- A bay that heats on time is cancelled without HEAT_LATE (R23, R85). -/
theorem test_cancelDeparture_heating :
    after (exec (.cancelDeparture .schedule 3) (heating 3 3 3))
      (fun t => (t.bay 3).heat.state != .heating && !(t.bay 3).heat.late && !saw .heatLate t) = true := by decide

/-! ### Clearance and holds -/

theorem test_requestClearance :
    after (exec (.requestClearance .dispatch 3 false) coach) (fun t => (t.bay 3).clear.state == .cleared) = true := by
  decide

theorem test_requestClearance_cold :
    after (exec (.requestClearance .dispatch 3 false) (updHeat 3 (fun h => { h with cabin := some 189 }) coach))
      (fun t => (t.bay 3).clear.reasons == only .heatNotReady) = true := by decide

theorem test_release :
    after (exec (.release .dispatch 3) coach) (fun t => resultOf t .dispatch == some .wrongState) = true := by decide

theorem test_release_begins :
    after (exec (.release .dispatch 3) (updPower 3 (fun p => { p with closed := 1 }) cleared))
      (fun t => (t.bay 3).clear.substep == some .stoppingHeat && (t.bay 3).clear.stopFrom == some 20000) = true := by
  decide

theorem test_withdrawClearance :
    after (exec (.withdrawClearance .dispatch 3) released)
      (fun t => (t.bay 3).clear.state == .idle &&
        (laneOf t 3 .latch).queued.map Entry.req == some (.latch false)) = true := by decide

theorem test_placeHold :
    after (exec (.placeHold .workshop 3 9 15) cleared)
      (fun t => (t.bay 3).clear.reasons == only .hold && saw .hold t && saw .clearance t) = true := by decide

theorem test_liftHold :
    after (exec (.liftHold .workshop 3 9) (updClear 3 (fun c => { c with holds := [⟨8, 1⟩, ⟨9, 2⟩] }) cleared))
      (fun t => (t.bay 3).clear.holds == [⟨8, 1⟩] && (t.bay 3).clear.state == .cleared) = true := by decide

theorem test_stopLimitExpiry :
    after (exec (.stopLimitExpiry 3) stopping)
      (fun t => (t.bay 3).clear.state == .revoked && (t.bay 3).power.stuck && t.time == 30020000) = true := by decide

theorem test_latchLimitExpiry :
    after (exec (.latchLimitExpiry 3) unlatching)
      (fun t => (t.bay 3).clear.state == .revoked && (t.bay 3).clear.relatch) = true := by decide

theorem test_releaseWindowExpiry :
    after (exec (.releaseWindowExpiry 3) released)
      (fun t => (t.bay 3).clear.state == .lapsed && (t.bay 3).clear.reasons == 0x20000#18) = true := by decide

theorem test_relatchRetry :
    after (exec (.relatchRetry 3) (withClear fun c => { c with relatch := true, relatchAt := some 10020000 }))
      (fun t => closePending t 3 && t.time == 10020000) = true := by decide

theorem test_clearanceValidityExpiry :
    after (exec (.clearanceValidityExpiry 3) cleared)
      (fun t => (t.bay 3).clear.state == .lapsed && (t.bay 3).clear.reasons == 0x10000#18 && t.time == 600020000) =
      true := by decide

/-! ### Lamp checks -/

theorem test_startLampCheck :
    after (exec (.startLampCheck .workshop 3) (planned2 coach))
      (fun t => (t.bay 3).lamp.check == .running && (t.bay 3).lamp.slot == some 0 &&
        t.supply.reservations == [{ holder := .slot 0, bay := 3 }]) = true := by decide

/-- A plan of 0 steps passes at once. -/
theorem test_startLampCheck_empty :
    after (exec (.startLampCheck .workshop 3) coach)
      (fun t => (t.bay 3).lamp.result == .passed && (t.bay 3).lamp.completion == some 100 && saw .lampDone t) =
      true := by decide

theorem test_abortLampCheck :
    after (exec (.abortLampCheck .workshop 3) slotRuns)
      (fun t => (t.bay 3).lamp.check == .aborted && t.slots[(0 : Fin 4)] == none && t.supply.reservations == [] &&
        (laneOf t 3 .lamp).queued.map Entry.req == some .lampOff) = true := by decide

theorem test_lampSlotTaken :
    after (exec .lampSlotTaken queued) (fun t => (t.bay 3).lamp.check == .running && t.lampQueue == []) = true := by
  decide

theorem test_lampCheckRunning :
    after (exec (.lampCheckRunning 0) slotWaits)
      (fun t => (t.bay 3).power.stepHold &&
        (laneOf t 3 .lamp).queued.map Entry.req == some (.lampSample 5 20)) = true := by decide

theorem test_lampSampleInterval :
    after (exec (.lampSampleInterval 0) slotRuns)
      (fun t => t.time == 220000 && (laneOf t 3 .lamp).queued.map Entry.age == some 220000) = true := by decide

theorem test_lampOffRetry :
    after (exec (.lampOffRetry 3) (updLamp 3 (fun l => { l with lit := true, offRetryAt := some 10020000 }) coach))
      (fun t => (laneOf t 3 .lamp).queued.map Entry.req == some .lampOff) = true := by decide

/-! ### Faults and the reader -/

/-- A deferral lasts at most 10,080 minutes. -/
theorem test_deferFault :
    after (exec (.deferFault .workshop 3 15 1 20000) (faulty (entryOf 15 1 .blocking .active) coach))
      (fun t => (findEntry t 3 15 1).any fun e => e.state == .deferred && e.expiry == some 10180) = true := by decide

/-- With the minute near its maximum, an until above 16,777,215 is still clamped to the minute plus 10,080 (R130). -/
theorem test_deferFault_clamp :
    after (exec (.deferFault .workshop 3 15 1 16777216)
        { faulty (entryOf 15 1 .blocking .active) coach with clock := { minute := 16777200, seconds := 0, isSet := true } })
      (fun t => (findEntry t 3 15 1).any fun e => e.expiry == some 16787280) = true := by decide

theorem test_clearFault_part :
    after (exec (.clearFault .workshop 3 14 21) (faulty (entryOf 14 21 .blocking .active) coach))
      (fun t => t.freeCount == 512 && (t.bay 3).faults.revision == 2) = true := by decide

theorem test_clearFault_coach :
    after (exec (.clearFault .workshop 3 5 402) (faulty (entryOf 5 402 .info .stored) coach))
      (fun t => (findEntry t 3 5 402).any (fun e => e.state == .clearPending) &&
        (t.bay 3).reader.clears == [(5, 402)]) = true := by decide

theorem test_rereadFaults :
    after (exec (.rereadFaults .workshop 3) cleared)
      (fun t => (t.bay 3).reader.passWanted && (t.bay 3).clear.reasons == only .faultsNotRead) = true := by decide

theorem test_visitBegin :
    after (exec .visitBegin { planned2 coach with readerQueue := [3] })
      (fun t => t.visit.any (fun v => v.bay == 3 && v.budget == 8) &&
        (laneOf t 3 .reader).queued.map Entry.req == some .wake) = true := by decide

theorem test_wakeSettleEnd :
    after (exec .wakeSettleEnd { coach with visit := some (visitOf .settle (some 3020000) false) })
      (fun t => t.time == 3020000 && t.visit.any (fun v => v.phase == .settle)) = true := by decide

theorem test_failedVisitsLimit :
    after (exec .failedVisitsLimit
        (updReader 3 (fun r => { r with failedVisits := 2, passWanted := true, state := .reading })
          (onLine .sleep 1 { coach with visit := some (visitOf .sleep none true) })))
      (fun t => (t.bay 3).reader.state == .failed && t.visit == none) = true := by decide

theorem test_readerResume :
    after (exec .readerResume
        (updReader 3 (fun r => { r with passWanted := true, state := .suspended }) { coach with suspended := [3] }))
      (fun t => t.suspended == [] && t.readerQueue == [3]) = true := by decide

/-- A visit that wanted identity alone leaves the reader COMPLETE (R134). -/
theorem test_replyTaken_identity :
    after (exec (.replyTaken (reply 7 0 [0#8, 1#8, 2#8]))
        (updReader 3 (fun r => { r with state := .reading, identityWanted := true })
          (onLine .ident 1 { coach with visit := some (visitOf .identity none false) })))
      (fun t => (t.bay 3).reader.state == .complete && t.visit.any (fun v => v.phase == .sleep)) = true := by decide

/-- Record 1 of the worked example of spec 06 displaces E, the oldest INFO entry in STORED. -/
theorem test_displacement :
    (displacement
        [entryOf 3 1204 .advisory .stored, entryOf 14 51 .advisory .active, entryOf 5 310 .info .active,
          entryOf 3 1877 .blocking .deferred, entryOf 5 402 .info .stored, entryOf 15 1 .blocking .active]
        .advisory).map FaultEntry.code = some 402 := by decide

/-- Record 5 of that example, INFO, finds nothing to displace. -/
theorem test_displacement_none :
    displacement [entryOf 14 51 .advisory .active, entryOf 3 1877 .blocking .deferred, entryOf 2 15 .advisory .stored]
      .info = none := by decide

/-! ### The bay loop, arrival and departure -/

/-- Of 32 sweep polls of one age bay 0 goes first; its frame of 5 bytes takes 200 microseconds. -/
theorem test_arbiterChoice :
    after (exec .arbiterChoice State.reset)
      (fun t => t.line.any fun l => l.bay == 0 && l.entry.req == .poll && l.sentEnd == 20200) = true := by decide

/-- A poll promoted as its bay left class A is not due any more at the next choice, 3.999 s after the last POLL (R41). -/
theorem test_arbiterChoice_promotion :
    after (exec .arbiterChoice (updLoop 0 (fun l => { l with poll := .held 20000 1020000 true })
        (updTable 0 (fun t => { t with occ := .present, beforeLoss := none })
          (forAllBays (fun b => setPoll b .idle) { State.reset with time := 4019000 }))))
      (fun t => t.line == none && (t.bay 0).loop.poll == .classed 20000) = true := by decide

theorem test_pollDue :
    after (exec (.pollDue 3) vacant) (fun t => t.time == 10020000) = true := by decide

/-- A poll due at 4.02 s keeps that due time when RELEASE brings its bay into class A at 5 s (R40). -/
theorem test_pollDue_held :
    after (exec (.release .dispatch 3) { cleared with time := 5000000 })
      (fun t => pollPeriod t 3 == 1000000 && pollDueAt t 3 == some 4020000) = true := by decide

theorem test_probeDue :
    after (exec (.probeDue 0) (updLoop 0 (fun l => { l with poll := .probe 10020000 }) State.reset))
      (fun t => t.time == 10020000) = true := by decide

theorem test_replyTaken_poll :
    after (exec (.replyTaken (pollReply 0 (-35))) (onLine .poll 1 vacant))
      (fun t => (t.bay 3).table.plugCount == 1 && (t.bay 3).heat.cabin == some (-35) && t.time == 20680) = true := by
  decide

theorem test_malformedReply :
    after (exec (.malformedReply [4#8, 1#8, 0#8, 0#8, 0#8, 0#8]) (onLine .poll 1 vacant))
      (fun t => t.line.any (fun l => l.quietUntil == some 22440) && (t.bay 3).loop.failures == 0) = true := by decide

/-- A frame of 201 bytes is not over within 8 ms: the attempt has timed out (R26). -/
theorem test_malformedReply_late :
    after (exec (.malformedReply (List.replicate 201 0#8)) (onLine .poll 1 vacant))
      (fun t => t.time == 28200 && t.line.any (fun l => l.quietUntil == some 30200)) = true := by decide

theorem test_replyTimeout :
    after (exec .replyTimeout (onLine .poll 2 vacant))
      (fun t => t.line == none && t.time == 28200 && (t.bay 3).loop.failures == 1) = true := by decide

theorem test_retryQuietEnd :
    after (exec .retryQuietEnd { vacant with line := some { sent .poll 1 with quietUntil := some 30200 } })
      (fun t => t.line.any fun l => l.attempt == 2 && l.sentEnd == 30400) = true := by decide

theorem test_busyWaitEnd :
    after (exec (.busyWaitEnd 3 .stage)
        (updLane 3 .stage
          (fun l => { l with
            opened := some { asked (.stage 1 false) with rejoinAt := some 70000, firstBusy := some 20000 } }) coach))
      (fun t => t.time == 70000 && (eligible t 3 .stage).isSome) = true := by decide

theorem test_busyPersistTimeout :
    after (exec (.busyPersistTimeout 3 .latch)
        (updLane 3 .latch (fun l => { l with opened := some { asked (.latch false) with firstBusy := some 20000 } }) coach))
      (fun t => t.time == 10020000 && (t.bay 3).loop.failures == 0) = true := by decide

theorem test_nodeLoss :
    after (exec (.nodeLoss 3) (onLine .poll 2 (updLoop 3 (fun l => { l with failures := 2 }) cleared)))
      (fun t => (t.bay 3).table.occ == .lost && (t.bay 3).clear.state == .revoked && saw .nodeLost t &&
        (t.bay 3).loop.poll == .probe 10020000) = true := by decide

theorem test_arrival :
    after (exec (.arrival 3) (updTable 3 (fun x => { x with plugCount := 2 }) vacant))
      (fun t => (t.bay 3).table.occ == .arriving && (t.bay 3).reader.identityWanted && saw .arrival t) = true := by
  decide

theorem test_cleanDeparture :
    after (exec (.cleanDeparture 3) (updTable 3 (fun x => { x with plugCount := 1 }) released))
      (fun t => (t.bay 3).table.lastDeparture == some .clean && t.departures == []) = true := by decide

theorem test_unreleasedDeparture :
    after (exec (.unreleasedDeparture 3)
        (faulty (entryOf 5 402 .info .stored) (updTable 3 (fun x => { x with plugCount := 2 }) cleared)))
      (fun t => (t.bay 3).table.lastDeparture == some .unreleased && t.departures.length == 1 && t.freeCount == 512) =
      true := by decide

/-! ### Heating -/

theorem test_stageIncrease :
    after (exec .stageIncrease (heating 3 0 0))
      (fun t => (laneOf t 3 .stage).queued.map Entry.req == some (.stage 1 true) &&
        (t.bay 3).power.commanded == 1) = true := by decide

/-- A REFUSED increase with more closed than granted brings the reduction to the grant (R64, R61). -/
theorem test_stageIncrease_refused :
    after (exec (.replyTaken (reply 2 2 [])) (onLine (.stage 2 true) 1 (heating 1 1 2)))
      (fun t => (laneOf t 3 .stage).queued.map Entry.req == some (.stage 1 false) &&
        (t.bay 3).power.commanded == 1) = true := by decide

theorem test_stuckContactor :
    after (exec (.stuckContactor 3) (updPower 3 (fun p => { p with watch := some 1, closed := 1 }) cleared))
      (fun t => (t.bay 3).clear.reasons.getLsbD 15 && (findEntry t 3 15 1).any (fun e => e.cls == .blocking)) = true := by
  decide

/-! ### Witnesses: for each statement with hypotheses, a state and operands that meet them, clause by clause -/

/-- The depot in SHED. -/
def shedSupply : State := { dawn with shedLine := true, supply := { dawn.supply with state := .shed } }

/-- The restore delay runs since 20 ms. -/
def restoring : State := { dawn with supply := { dawn.supply with state := .restoring, restoreFrom := some 20000 } }

/-- The Dispatch port with RELEASE of bay 3 in work, or its answer in the buffer. -/
def portAs (st : PortState) : State :=
  updPort .dispatch
    (fun r => { r with
      state := st
      inWork := if st = .working then some { bay := 3, body := .release } else none
      response := if st = .working then none else some { echo := 11, result := .done, payload := [] } })
    coach

/-- Bay 3 has five fault entries. -/
def manyFaults : State :=
  updFaults 3 (fun f => { f with list := [1, 2, 3, 4, 5].map fun code => entryOf 5 code .info .active })
    { coach with freeCount := 507 }

/-- Bay 3's coach is not identified and has had no lamp check. -/
def noPlan : State :=
  updLamp 3 (fun l => { l with check := .none, result := .none })
    (updTable 3 (fun t => { t with identity := none, lampPlan := none }) coach)

/-- Bay 3 was lost with its coach, its probe due at 10.02 s. -/
def lostCoach : State :=
  updLoop 3 (fun l => { l with poll := .probe 10020000 })
    (updTable 3 (fun t => { t with occ := .lost, beforeLoss := some .present }) coach)

/-- Bay 3 is out of service. -/
def outOfService : State :=
  updLoop 3 (fun l => { l with poll := .idle })
    (updTable 3 (fun t => { t with occ := .outOfService, oosRequest := true }) vacant)

/-- Bay 3 is CLEARED in a heat state with a demand. -/
def clearedIn (st : HeatState) : State := updHeat 3 (fun h => { h with state := st, demand := 1 }) cleared

/-- Bay 3 has holds of tags 1 up to the number given. -/
def holding (n : Nat) : State :=
  withClear fun c => { c with holds := (List.range n).map fun i => { tag := i + 1, reason := 0 } }

/-- Bay 3 is REVOKED. -/
def revoked : State := withClear fun c => { c with state := .revoked, reasons := only .blockingFault }

/-- An acknowledgement of SUPPLY. -/
def ackSupply : AckItem := { kind := 17, bays := 0, count := 1 }

/-- An acknowledgement of every kind. -/
def eighteen : List AckItem := (List.range 18).map fun k => { kind := k, bays := 8, count := 1 }

/-- Bay 3 has a stuck contactor's entry. -/
def stuckFault : State := faulty (entryOf 15 1 .blocking .active) coach

/-- That entry is deferred. -/
def deferred : State := faulty (entryOf 15 1 .blocking .deferred) coach

/-- CLEARED bay 3 has a coach's entry in the state given. -/
def coachFault (st : FaultState) : State := faulty (entryOf 13 402 .blocking st) cleared

/-- Bay 3 has a lamp defect. -/
def lampFault : State := faulty (entryOf 14 21 .advisory .active) coach

/-- Bay 3 waits for its fault read. -/
def reading : State := updReader 3 (fun r => { r with state := .queued, passWanted := true }) coach

/-- The line is quiet after bay 3's first attempt. -/
def quietLine : State := { vacant with line := some { sent .poll 1 with quietUntil := some 30200 } }

/-- Bay 3 has failed twice and its poll's second attempt is on the line. -/
def losing : State := onLine .poll 2 (updLoop 3 (fun l => { l with failures := 2 }) cleared)

/-- A LAMP_OFF answered BUSY at 20 ms. -/
def busyEntry : Entry := { asked .lampOff with rejoinAt := some 70000, firstBusy := some 20000 }

/-- Bay 3's LAMP_OFF waits out a BUSY. -/
def busyBay : State := updLane 3 .lamp (fun l => { l with opened := some busyEntry }) coach

/-- Bay 3's plug count. -/
def counted (n : Nat) (s : State) : State := updTable 3 (fun t => { t with plugCount := n }) s

/-- CLEARED bay 3's stuck watch has counted one poll that shows a stage too many. -/
def sticking : State := updPower 3 (fun p => { p with watch := some 1, closed := 1 }) cleared

/-- Bay 3's lamp may be lit, to be put out again at 10.02 s. -/
def litBay : State := updLamp 3 (fun l => { l with lit := true, offRetryAt := some 10020000 }) coach

/-- Bay 3 heads the reader queue. -/
def readerWaits : State := { planned2 reading with readerQueue := [3] }

/-- Bay 3's visit settles until 3.02 s. -/
def settling : State := { reading with visit := some (visitOf .settle (some 3020000) false) }

/-- ARRIVING bay 3's third visit has failed, and its SLEEP is on the line. -/
def exhausted : State :=
  updTable 3 (fun t => { t with occ := .arriving, identity := none, lampPlan := none })
    (updReader 3 (fun r => { r with failedVisits := 2, identityWanted := true, passWanted := true, state := .reading })
      (onLine .sleep 1 { coach with visit := some (visitOf .sleep none true) }))

/-- Bay 3's reader is suspended though the pool has room. -/
def suspendedBay : State :=
  updReader 3 (fun r => { r with passWanted := true, state := .suspended }) { coach with suspended := [3] }

/-- Bay 3's refused relatch is to be asked again. -/
def relatching : State := withClear fun c => { c with relatch := true, relatchAt := some 10020000 }

/-- Bay 3's lamps passed 61 minutes ago. -/
def agedLamps : State := { coach with clock := { coach.clock with minute := 151 } }

/-- PRESENT bay 3 left class A while its poll, due at 1.02 s, was promoted; in class B it would be due a
microsecond from now. -/
def leftPromoted : State := { updLoop 3 (fun l => { l with poll := .held 20000 1020000 true }) coach with time := 4020000 - 1 }

/-- Bay 3's LATCH(open) waits in the pending list. -/
def opening3 : State :=
  updLane 3 .latch (fun l => { l with queued := some (asked (.latch true)) })
    (withClear fun c => { c with state := .releasing, substep := some .unlatching, openAsked := true })

theorem witness_EveryCommandIsCarriedOut :
    Instr.secondsTick ≠ .shedAsserted ∧ Instr.secondsTick ≠ .shedDeasserted ∧ Instr.secondsTick ≠ .reset ∧
      Instr.secondsTick ≠ .resetEnd := by
  decide

theorem witness_ResetEndStartsTheSweepAndOpensThePorts :
    (inResetState true).inReset = true ∧ (inResetState true).shedLine = true ∧ (inResetState false).inReset = true ∧
      (inResetState false).shedLine = false := by
  decide

theorem witness_ResetMeetsEveryLaw :
    { inResetState false with time := 20000 }.inReset = true ∧ (inResetState false).shedLine = false ∧
      (inResetState false).pending = [] ∧ { inResetState false with time := 20000 }.time ≤ 20000 := by
  decide

theorem witness_SecondsTickCountsAndWraps :
    (clocked 7 58).inReset = false ∧ (clocked 7 58).clock.seconds < 59 ∧ 59 ≤ (clocked 16777214 59).clock.seconds ∧
      (clocked 16777214 59).clock.isSet = true ∧ (clocked 16777214 59).clock.minute < 16777215 ∧
      ¬((clocked 16777215 59).clock.isSet = true ∧ (clocked 16777215 59).clock.minute < 16777215) ∧
      (clocked 16777215 59).inReset = false := by
  decide

theorem witness_MinuteAdvanceIsToldToTheFourBlocks :
    (clocked 0 0).inReset = false ∧ (clocked 0 0).clock.isSet = true ∧ (clocked 0 0).clock.minute < 16777215 ∧
      (clocked 16777214 59).clock.minute < 16777215 := by
  decide

theorem witness_ShedEdgesMoveTheSupplyState :
    dawn.inReset = false ∧ dawn.supply.state = .normal ∧ dawn.settings.restoreDelay ≠ 0 ∧
      shedSupply.inReset = false ∧ shedSupply.supply.state = .shed ∧ shedSupply.settings.restoreDelay ≠ 0 ∧
      { shedSupply with settings := { shedSupply.settings with restoreDelay := 0 } }.settings.restoreDelay = 0 ∧
      restoring.inReset = false ∧ restoring.supply.state = .restoring ∧
      restoring.supply.restoreFrom = some 20000 := by
  decide

theorem witness_BudgetAndReserveAreClampedAndTaken :
    takes .schedule dawn ∧
      after (exec (.setBudget .schedule none (some 16001)) dawn) (fun t => effectiveBudget t == effectiveBudget
        dawn) = true ∧
      after (exec (.setBudget .schedule (some 16001) none) dawn) (fun t => effectiveBudget t != effectiveBudget
        dawn) = true := by
  unfold takes; decide

theorem witness_RecomputeWalksTheDemandListWithinTheHeatBudget :
    (departureOrder dawn).Nodup ∧ demandList dawn = [3, 14, 7, 22, 9, 27] ∧ (departureOrder State.reset).Nodup := by
  decide

theorem witness_ChipSelectPeriodShowsTheImageAndReadsTheResponse :
    (portAs .working).inReset = false ∧ ((portAs .working).port .dispatch).state = .working ∧
      ((portAs .working).port .dispatch).inWork = some { bay := 3, body := .release } ∧
      ((portAs .ready).port .dispatch).state = .ready ∧
      ((portAs .ready).port .dispatch).response = some { echo := 11, result := .done, payload := [] } ∧
      ((portAs .read).port .dispatch).state = .read ∧
      ((portAs .read).port .dispatch).response = some { echo := 11, result := .done, payload := [] } := by
  decide

theorem witness_RefusedRequestChangesNothing :
    requestOf (.setClock .schedule 16777216) = some (.schedule, 255, .setClock 16777216) ∧
      takes .schedule State.reset ∧
      after (exec (.setClock .schedule 16777216) State.reset) (fun t => resultOf t .schedule == some .outOfRange)
        = true := by
  unfold takes; decide

theorem witness_PortRoleAndBayFieldAreChecked :
    requestOf (.release .schedule 3) = some (.schedule, 3, .release) ∧ takes .schedule coach ∧
      kindPort (bodyKind .release) = some .dispatch ∧ Port.schedule ≠ Port.dispatch ∧
      requestOf (.release .dispatch 32) = some (.dispatch, 32, .release) ∧ takes .dispatch coach ∧
      permitted .dispatch (bodyKind .release) = true ∧ kindNamesBay (bodyKind .release) = true ∧ 31 < 32 ∧
      requestOf (.configureBayInService .schedule 254) = some (.schedule, 254, .configureBay (some false) none
        none noSettings) ∧
      permitted .schedule 5 = true ∧ bodyKind (.configureBay (some false) none none noSettings) = 5 ∧ 31 < 254 ∧
        254 ≠ 255 := by
  unfold takes; decide

theorem witness_SetOutsideReplansAndReprojects :
    takes .schedule plannedBay ∧ -500 ≤ (-500 : Int) ∧ (-500 : Int) ≤ 500 ∧ -500 ≤ (500 : Int) ∧ (500 : Int) ≤ 500 ∧
      after (exec (.setOutside .schedule (-500)) plannedBay) (fun t => (t.bay 3).heat.state == .planned && (t.bay
        3).heat.profile.isSome && (departureOf t 3).isSome) = true ∧ takes .schedule (heating 3 0 0) ∧
      after (exec (.setOutside .schedule 500) (heating 3 0 0)) (fun t => (t.bay 3).heat.state == .heating) = true
        := by
  unfold takes; decide

theorem witness_LoadProfileReplacesOneProfileWhole :
    takes .schedule coach ∧ 7 < 8 ∧ ¬(1 ≤ 0 ∧ 0 ≤ 4) ∧
      7 ≤ 7 ∧ 1 ≤ 4 ∧ 4 ≤ 4 ∧ 4 ≤ 80 ∧ 80 ≤ 80 ∧ 1 ≤ 100 ∧ 100 ≤ 100 ∧ 255 ≤ 255 ∧ 60 ≤ 60 ∧ 5 ≤ 30 ∧ 30 ≤ 30 ∧
      ¬(81 ≤ 80) ∧ ¬(5 ≤ 4) ∧ ¬(4 ≤ 3) ∧ ¬(101 ≤ 100) ∧ ¬(256 ≤ 255) ∧ ¬(61 ≤ 60) ∧ ¬(31 ≤ 30) := by
  unfold takes; decide

theorem witness_DepotSettingsAreClampedAndTakenAtOnce :
    takes .schedule restoring ∧ ({ noSettings with restoreDelay := some 601 }).restoreDelay.isSome = true ∧
      after (exec (.configureBayDepotSettings .schedule 255 { noSettings with restoreDelay := some 601 })
        restoring) (fun t => (restoreEnd t).isSome) = true ∧ takes .schedule cleared ∧
      after (exec (.configureBayDepotSettings .schedule 255 { noSettings with clearanceValidity := some 0 })
        cleared) (fun t => (t.bay 3).clear.state == .cleared && (validityEnd t 3).isSome) = true ∧
      takes .schedule released ∧
      after (exec (.configureBayDepotSettings .schedule 255 { noSettings with releaseWindow := some 0 }) released)
        (fun t => (t.bay 3).clear.state == .released && (windowEnd t 3).isSome) = true ∧
      takes .schedule agedLamps ∧ ({ noSettings with lampValidity := some 59 }).lampValidity.isSome = true ∧
      after (exec (.configureBayDepotSettings .schedule 255 { noSettings with lampValidity := some 59 }) agedLamps)
        (fun t => (t.bay 3).lamp.stale && t.settings.lampValidity == 60) = true := by
  unfold takes; decide

theorem witness_QuotaAndPlanOverrideAreConfigured :
    takes .schedule coach ∧ 4 ≤ 4 ∧ 4 ≤ 64 ∧ (coach.bay 3).faults.list.length ≤ 4 ∧ takes .schedule manyFaults ∧
      4 ≤ 4 ∧ 4 ≤ 64 ∧ 4 < (manyFaults.bay 3).faults.list.length ∧ 3 < 4 ∧ 64 < 65 ∧
      (∀ k ∈ some 7, k ≤ 7) ∧ (∀ k ∈ (none : Option Nat), k ≤ 7) ∧ (∃ k, k ∈ some 8 ∧ 7 < k) ∧
      takes .schedule noPlan ∧ (noPlan.bay 3).table.occ = .present ∧ (noPlan.bay 3).table.lampPlan = none ∧
        (noPlan.bay 3).lamp.result = .none ∧ checkActive noPlan 3 = false := by
  unfold takes; decide

theorem witness_BayIsTakenOutOfServiceAndBroughtBack :
    takes .schedule coach ∧ occupied coach 3 = true ∧ takes .schedule lostCoach ∧ occupied lostCoach 3 = false ∧
      (lostCoach.bay 3).table.occ ≠ .outOfService ∧ holdsCoach lostCoach 3 = true ∧
      (departureOf lostCoach 3).isSome = true ∧ takes .schedule vacant ∧ occupied vacant 3 = false ∧
      holdsCoach vacant 3 = false ∧ takes .schedule outOfService ∧ occupied outOfService 3 = false ∧
      (outOfService.bay 3).table.occ = .outOfService := by
  unfold takes; decide

theorem witness_SetDepartureReplacesTheRecordWhole :
    takes .schedule cleared ∧ (cleared.bay 3).table.occ ≠ .outOfService ∧ inRelease cleared 3 = false ∧
      16777215 ≤ 16777215 ∧ sameDeparture (askedDeparture 500 200 0) (departureOf cleared 3) = true ∧
      sameDeparture (askedDeparture 16777215 281 7001) (departureOf cleared 3) = false ∧
      (cleared.bay 3).clear.state = .cleared ∧ cleared.clock.isSet = true ∧ 99 < cleared.clock.minute ∧
      after (exec (.setDeparture .schedule 3 99 200 7001) cleared) (fun t => mismatch t 3) = true := by
  unfold takes; decide

theorem witness_CancelDepartureRemovesTheRecord :
    takes .schedule vacant ∧ departureOf vacant 3 = none ∧ takes .schedule cleared ∧ departureOf cleared 3 ≠ none ∧
      inRelease cleared 3 = false ∧ (cleared.bay 3).clear.state = .cleared ∧
      takes .schedule plannedBay ∧ departureOf plannedBay 3 ≠ none ∧ inRelease plannedBay 3 = false ∧
        (plannedBay.bay 3).heat.state = .planned ∧
      takes .schedule (heating 3 0 0) ∧ departureOf (heating 3 0 0) 3 ≠ none ∧ inRelease (heating 3 0 0) 3 = false
        ∧ ((heating 3 0 0).bay 3).heat.state = .heating := by
  unfold takes; decide

theorem witness_RequestClearanceStoresWhatItFinds :
    takes .dispatch State.reset ∧ State.reset.clock.isSet = false ∧ takes .dispatch released ∧
      released.clock.isSet = true ∧ inRelease released 3 = true ∧ takes .dispatch coach ∧ coach.clock.isSet = true ∧
      inRelease coach 3 = false ∧ holdsCoach coach 3 = true ∧ evaluate coach 3 false = 0#18 ∧
      takes .dispatch (holding 1) ∧ (holding 1).clock.isSet = true ∧ inRelease (holding 1) 3 = false ∧
      holdsCoach (holding 1) 3 = true ∧ evaluate (holding 1) 3 false ≠ 0#18 ∧
      takes .dispatch vacant ∧ holdsCoach vacant 3 = false ∧ inRelease vacant 3 = false := by
  unfold takes; decide

theorem witness_CoachIsClearedJustWhenNothingStandsAgainstIt :
    takes .dispatch coach ∧ coach.clock.isSet = true ∧ inRelease coach 3 = false ∧ holdsCoach coach 3 = true := by
  unfold takes; decide

theorem witness_ReleaseBeginsByStoppingHeat :
    takes .dispatch coach ∧ (coach.bay 3).clear.state ≠ .cleared ∧ takes .dispatch cleared ∧
      (cleared.bay 3).clear.state = .cleared ∧
      takes .dispatch (clearedIn .planned) ∧ ((clearedIn .planned).bay 3).clear.state = .cleared ∧ ((clearedIn
        .planned).bay 3).heat.state = .planned ∧
      takes .dispatch (clearedIn .holding) ∧ ((clearedIn .holding).bay 3).clear.state = .cleared ∧ ((clearedIn
        .holding).bay 3).heat.state = .holding := by
  unfold takes; decide

theorem witness_WithdrawClearanceReturnsToIdle :
    takes .dispatch coach ∧ (coach.bay 3).clear.state = .idle ∧ takes .dispatch cleared ∧
      (cleared.bay 3).clear.state ≠ .idle ∧ inRelease cleared 3 = false ∧ takes .dispatch released ∧
      inRelease released 3 = true ∧ (released.bay 3).clear.openAsked = true ∧ reachable released 3 = true := by
  unfold takes; decide

theorem witness_PlaceHoldRecordsTheHoldAndStopsTheClearance :
    takes .workshop vacant ∧ 255 ≠ 0 ∧ 15 ≤ 15 ∧ holdsCoach vacant 3 = false ∧ takes .workshop (holding 4) ∧
      holdsCoach (holding 4) 3 = true ∧ (∀ h ∈ ((holding 4).bay 3).clear.holds, h.tag ≠ 255) ∧
      4 ≤ ((holding 4).bay 3).clear.holds.length ∧ takes .workshop (holding 3) ∧ holdsCoach (holding 3) 3 = true ∧
      (∀ h ∈ ((holding 3).bay 3).clear.holds, h.tag ≠ 255) ∧ ((holding 3).bay 3).clear.holds.length < 4 ∧
      ((holding 3).bay 3).clear.state = .idle ∧
      takes .workshop cleared ∧ holdsCoach cleared 3 = true ∧ (cleared.bay 3).clear.holds = [] ∧ (cleared.bay
        3).clear.state = .cleared ∧
      takes .workshop stopping ∧ holdsCoach stopping 3 = true ∧ (stopping.bay 3).clear.holds = [] ∧ (stopping.bay
        3).clear.state = .releasing ∧
      takes .workshop revoked ∧ holdsCoach revoked 3 = true ∧ (revoked.bay 3).clear.holds = [] ∧ (revoked.bay
        3).clear.state = .revoked := by
  unfold takes; decide

theorem witness_LiftHoldRemovesTheHoldAlone :
    takes .workshop (holding 4) ∧ 1 ≠ 0 ∧ (∃ h ∈ ((holding 4).bay 3).clear.holds, h.tag = 1) ∧
      ∀ h ∈ ((holding 4).bay 3).clear.holds, h.tag ≠ 255 := by
  unfold takes; decide

theorem witness_StartLampCheckStartsTheBaysPlan :
    takes .workshop vacant ∧ (vacant.bay 3).table.occ ≠ .present ∧ takes .workshop slotRuns ∧
      (slotRuns.bay 3).table.occ = .present ∧ inRelease slotRuns 3 = false ∧
      (slotRuns.bay 3).table.lampPlan = some 2 ∧ checkActive slotRuns 3 = true ∧ takes .workshop (planned2 cleared) ∧
      ((planned2 cleared).bay 3).table.occ = .present ∧ inRelease (planned2 cleared) 3 = false ∧
      ((planned2 cleared).bay 3).table.lampPlan = some 2 ∧ checkActive (planned2 cleared) 3 = false ∧
      ((planned2 cleared).bay 3).clear.state = .cleared ∧ planOf (planned2 cleared) 2 ≠ [] ∧
      takes .workshop coach ∧ (coach.bay 3).table.occ = .present ∧ inRelease coach 3 = false ∧ (coach.bay
        3).table.lampPlan = some 2 ∧ checkActive coach 3 = false ∧ planOf coach 2 = [] := by
  unfold takes; decide

theorem witness_AbortLampCheckLeavesNoResult :
    takes .workshop coach ∧ checkActive coach 3 = false ∧ takes .workshop slotRuns ∧ checkActive slotRuns 3 = true ∧
      Inv.lamps slotRuns ∧ takes .workshop queued ∧ checkActive queued 3 = true ∧ Inv.lamps queued := by
  unfold takes Inv.lamps; decide

theorem witness_ReadsAndEventMaskChangeOnlyTheirPort :
    takes .schedule coach ∧ takes .dispatch coach ∧ 262143 < 262144 ∧ 262144 ≤ 262144 ∧ 3 ≤ 3 ∧ 3 ≤ 10 ∧
      3 ≤ 10 ∧ 10 ≤ 10 ∧ 10 < 11 ∧ 1 ≤ coach.departures.length ∧ ¬(2 ≤ coach.departures.length) ∧
      0 ≤ (coach.bay 3).faults.list.length ∧ ¬(1 ≤ (coach.bay 3).faults.list.length) := by
  unfold takes; decide

theorem witness_AckEventsClearsJustWhatItNames :
    takes .schedule State.reset ∧ ¬(1 ≤ ([] : List AckItem).length) ∧
      ¬((List.replicate 2 ackSupply).map AckItem.kind).Nodup ∧ 1 ≤ eighteen.length ∧ eighteen.length ≤ 18 ∧
      (∀ a ∈ eighteen, a.kind ≤ 17) ∧ (eighteen.map AckItem.kind).Nodup ∧
      (∃ a ∈ eighteen, a.kind = 11) ∧ (∃ a ∈ eighteen, a.kind = 12) ∧ ∃ a ∈ eighteen, a.kind = 17 ∧
      1 ≤ [ackSupply].length ∧ (∀ a ∈ [ackSupply], a.kind ≤ 17) ∧ 12 ∉ [ackSupply].map AckItem.kind := by
  unfold takes; decide

theorem witness_AttnFollowsQuietMaskAndPendingFlags :
    takes .schedule State.reset ∧ (State.reset.port .schedule).quiet = false ∧
      attn (post .arrival 3 State.reset) .schedule = true ∧ (post .arrival 3 State.reset).inReset = false := by
  unfold takes; decide

theorem witness_DeferFaultPutsAnActiveEntryOff :
    takes .workshop State.reset ∧ 15 ≤ 15 ∧ 15 < 16 ∧ State.reset.clock.isSet = false ∧
      takes .workshop coach ∧ coach.clock.isSet = true ∧ findEntry coach 3 15 1 = none ∧
      takes .workshop deferred ∧ deferred.clock.isSet = true ∧ findEntry deferred 3 15 1 = some (entryOf 15 1
        .blocking .deferred) ∧ (entryOf 15 1 .blocking .deferred).state ≠ .active ∧
      takes .workshop stuckFault ∧ stuckFault.clock.isSet = true ∧ findEntry stuckFault 3 15 1 = some (entryOf 15
        1 .blocking .active) ∧ (entryOf 15 1 .blocking .active).state = .active ∧ stuckFault.clock.minute < 101 ∧
      100 ≤ stuckFault.clock.minute ∧ stuckFault.clock.minute < 16777216 ∧ 16777215 < 16777216 := by
  unfold takes; decide

theorem witness_ClearFaultAsksTheCoachOrRemovesThePartsEntry :
    takes .workshop coach ∧ 15 ≤ 15 ∧ findEntry coach 3 15 1 = none ∧
      takes .workshop (coachFault .clearPending) ∧ findEntry (coachFault .clearPending) 3 13 402 = some (entryOf
        13 402 .blocking .clearPending) ∧ 13 ≤ 13 ∧ (entryOf 13 402 .blocking .clearPending).state = .clearPending ∧
      takes .workshop (coachFault .stored) ∧ findEntry (coachFault .stored) 3 13 402 = some (entryOf 13 402
        .blocking .stored) ∧ (entryOf 13 402 .blocking .stored).state ≠ .clearPending ∧ (entryOf 13 402 .blocking
        .stored).cls = .blocking ∧ (entryOf 13 402 .blocking .stored).state ≠ .active ∧ ((coachFault .stored).bay
        3).clear.state = .cleared ∧ takes .workshop (updPower 3 (fun p => { p with closed := 1 }) stuckFault) ∧
      findEntry (updPower 3 (fun p => { p with closed := 1 }) stuckFault) 3 15 1 = some (entryOf 15 1 .blocking
        .active) ∧
      ((updPower 3 (fun p => { p with closed := 1 }) stuckFault).bay 3).power.commanded < ((updPower 3 (fun p => {
        p with closed := 1 }) stuckFault).bay 3).power.closed ∧
      takes .workshop stuckFault ∧ (stuckFault.bay 3).power.closed ≤ (stuckFault.bay 3).power.commanded ∧
      takes .workshop lampFault ∧ findEntry lampFault 3 14 21 = some (entryOf 14 21 .advisory .active) := by
  unfold takes; decide

theorem witness_RereadFaultsAsksAFullPass :
    takes .workshop vacant ∧ (vacant.bay 3).table.occ ≠ .present ∧ takes .workshop reading ∧
      (reading.bay 3).table.occ = .present ∧ inRelease reading 3 = false ∧ passAsked reading 3 = true ∧
      takes .workshop cleared ∧ (cleared.bay 3).table.occ = .present ∧ inRelease cleared 3 = false ∧
      passAsked cleared 3 = false ∧ (cleared.bay 3).reader.state = .complete ∧
      (cleared.bay 3).clear.state = .cleared := by
  unfold takes; decide

theorem witness_ArbiterTakesTheFirstOfTheLowestClassAndOldestAge :
    State.reset.inReset = false ∧ State.reset.line = none ∧ candidates State.reset ≠ [] ∧
      candidates (promotionsJudged State.reset) ≠ [] ∧ leftPromoted.inReset = false ∧ leftPromoted.line = none ∧
      candidates leftPromoted ≠ [] ∧ (leftPromoted.bay 3).loop.poll = .held 20000 1020000 true ∧
      classA leftPromoted 3 = false := by
  decide

theorem witness_ArbiterTakesTheFirstOfTheLowestClassAndOldestAge_none :
    candidates (promotionsJudged (forAllBays (fun b => setPoll b (if b = 3 then .held 20000 1020000 true else .idle))
      leftPromoted)) = [] := by
  decide

theorem witness_PollsAndProbesFallDueByTheirPeriods :
    vacant.inReset = false ∧ (vacant.bay 3).loop.poll = .classed 20000 ∧ reachable vacant 3 = true ∧
      lostCoach.inReset = false ∧ (lostCoach.bay 3).loop.poll = .probe 10020000 ∧
      (lostCoach.bay 3).table.occ = .lost := by
  decide

theorem witness_GoodPollIsStoredByItsOwners :
    (onLine .poll 1 vacant).inReset = false ∧ (onLine .poll 1 vacant).line = some (sent .poll 1) ∧
      (sent .poll 1).quietUntil = none ∧ (sent .poll 1).entry.req = .poll ∧
      reachable (onLine .poll 1 vacant) (sent .poll 1).bay = true ∧
      parseReply (sent .poll 1).bay .poll (pollReply 4 800) = some
        (.ok (.poll ⟨.in_, .closed, 4, some 800, .asleep⟩)) ∧
      max (onLine .poll 1 vacant).time ((sent .poll 1).sentEnd + (pollReply 4 800).length * 40) ≤
        (sent .poll 1).sentEnd + 8000 := by
  decide

theorem witness_ThirdFailureLosesTheNode :
    losing.inReset = false ∧ losing.line = some (sent .poll 2) ∧ (sent .poll 2).bay = 3 ∧
      (sent .poll 2).attempt = 2 ∧ (sent .poll 2).quietUntil = none ∧ reachable losing 3 = true ∧
      (losing.bay 3).loop.failures = 2 := by
  decide

theorem witness_BusyTimersRejoinOrEndTheTransaction :
    busyBay.inReset = false ∧ (laneOf busyBay 3 .lamp).opened = some busyEntry ∧ busyEntry.rejoinAt = some 70000 ∧
      busyEntry.firstBusy = some 20000 := by
  decide

theorem witness_ArrivalAsksTheReaderForIdentityAndAFullRead :
    (counted 2 vacant).inReset = false ∧ ((counted 2 vacant).bay 3).table.occ = .vacant ∧
      ((counted 2 vacant).bay 3).table.plugCount = 2 ∧ inRelease (counted 2 vacant) 3 = false := by
  decide

theorem witness_DepartureCleansTheBay :
    (counted 1 released).inReset = false ∧ ((counted 1 released).bay 3).table.occ = .present ∧
      ((counted 1 released).bay 3).clear.state = .released ∧ 1 ≤ ((counted 1 released).bay 3).table.plugCount ∧
      (departureOf (counted 1 released) 3).isSome = true ∧ (counted 2 (holding 4)).inReset = false ∧
      unreleasedCoach (counted 2 (holding 4)) 3 = true ∧ 2 ≤ ((counted 2 (holding 4)).bay 3).table.plugCount ∧
      ((counted 2 (holding 4)).bay 3).clear.holds ≠ [] := by
  decide

theorem witness_StuckContactorIsMarkedAndRecorded :
    sticking.inReset = false ∧ (sticking.bay 3).power.watch = some 1 ∧
      (sticking.bay 3).power.commanded < (sticking.bay 3).power.closed ∧ occupied sticking 3 = true ∧
      (sticking.bay 3).clear.state = .cleared := by
  decide

theorem witness_LampSlotIsTakenAndItsCheckRuns :
    queued.inReset = false ∧ queued.lampQueue = [3] ∧ freeSlotIn queued = some 0 ∧
      planOf queued (checkPlan queued 3) ≠ [] ∧ reservedAmount queued + 8 ≤ effectiveReserve queued ∧
      slotWaits.inReset = false ∧ waits slotWaits (.slot 0) = true ∧
      reservedAmount slotWaits + 8 ≤ effectiveReserve slotWaits ∧
      slotWaits.slots[(0 : Fin 4)] = some (slot3 .waitingPower) ∧
      (planOf slotWaits (slot3 .waitingPower).plan)[(slot3 .waitingPower).stepIndex]? = some step0 ∧
      reachable slotWaits (slot3 .waitingPower).bay = true ∧
      effectiveReserve { queued with supply := State.reset.supply } < reservedAmount { queued with supply :=
        State.reset.supply } + 8 := by
  decide

theorem witness_LampTimersAskTheNextSampleAndTheNextLampOff :
    slotRuns.inReset = false ∧ slotRuns.slots[(0 : Fin 4)] = some (slot3 .sampling) ∧
      (slot3 .sampling).phase = .sampling ∧ (slot3 .sampling).step = some step0 ∧
      (slot3 .sampling).nextAt = some 220000 ∧ reachable slotRuns (slot3 .sampling).bay = true ∧
      litBay.inReset = false ∧ (litBay.bay 3).lamp.lit = true ∧ (litBay.bay 3).lamp.slot = none ∧
      (litBay.bay 3).lamp.offRetryAt = some 10020000 ∧ reachable litBay 3 = true := by
  decide

theorem witness_VisitBeginsWithTheHeadOfTheQueue :
    readerWaits.inReset = false ∧ readerWaits.readerQueue = [3] ∧ readerWaits.visit = none ∧
      holdsReservation readerWaits .reader = false ∧ reservedAmount readerWaits + 6 ≤ effectiveReserve readerWaits ∧
      reachable readerWaits 3 = true ∧ settling.inReset = false ∧
      settling.visit = some (visitOf .settle (some 3020000) false) ∧
      (visitOf .settle (some 3020000) false).phase = .settle ∧
      (visitOf .settle (some 3020000) false).settleUntil = some 3020000 := by
  decide

theorem witness_ReaderGivesUpAfterThreeVisitsAndResumesOnRoom :
    exhausted.inReset = false ∧ exhausted.visit = some (visitOf .sleep none true) ∧
      (visitOf .sleep none true).failed = true ∧ (visitOf .sleep none true).phase = .sleep ∧
      (exhausted.bay (visitOf .sleep none true).bay).reader.failedVisits = 2 ∧
      (exhausted.bay (visitOf .sleep none true).bay).reader.identityWanted = true ∧
      (exhausted.bay (visitOf .sleep none true).bay).table.occ = .arriving ∧
      exhausted.line = some (sent .sleep 1) ∧ (sent .sleep 1).bay = (visitOf .sleep none true).bay ∧
      (sent .sleep 1).entry.req = .sleep ∧ (sent .sleep 1).entry.wanted = true ∧ (sent .sleep 1).quietUntil = none ∧
      max exhausted.time ((sent .sleep 1).sentEnd + 240) ≤ (sent .sleep 1).sentEnd + 8000 ∧ suspendedBay.inReset = false ∧
      0 < suspendedBay.freeCount ∧ 3 ∈ suspendedBay.suspended := by
  decide

/-! #### What a reply's clauses need -/

/-- A reply of bay 3's node to a request. -/
def answer (req : LoopReq) (status : Nat) (payload : List Byte) : List Byte := reply (loopKind req) status payload

/-- A POLL reply: plug, latch and closed count as bytes, the cabin temperature, bridge asleep. -/
def pollAnswer (plug latch closed : Byte) (cabin : Int) : List Byte :=
  reply 1 0 ([plug, latch, closed] ++ temperature cabin ++ [0#8])

/-- What such a reply says. -/
def polled (plug : Plug) (latch : Latch) (closed : Nat) (cabin : Int) : Good :=
  .ok (.poll ⟨plug, latch, closed, some cabin, .asleep⟩)

/-- The transaction is on the line for the first time and this good reply to it is heard. -/
def hears (req : LoopReq) (bytes : List Byte) (good : Good) (s : State) : Prop :=
  replies (sent req 1) bytes good (onLine req 1 s)

/-- The state after reset at a moment. -/
def atSecond (m : Moment) : State := { State.reset with time := m }

/-- Slot 0's context changed. -/
def inSlot (f : Slot → Slot) (s : State) : State := { s with slots := s.slots.set 0 (some (f (slot3 .sampling))) }

/-- Lamp plan 2 has two steps. -/
def twoSteps (s : State) : State := { s with lampPlans := s.lampPlans.set 2 [step0, { step0 with circuit := 31 }] }

/-- Bay 3's heat record changed on a coach that heats with all it asked for. -/
def heats (f : HeatRec → HeatRec) : State := updHeat 3 f (heating 3 3 3)

/-- The reader visits bay 3 in the phase given, with both reads wanted. -/
def inVisit (phase : VisitPhase) (s : State) : State :=
  updReader 3 (fun r => { r with state := .reading, passWanted := true })
    { s with visit := some (visitOf phase none false) }

/-- A suspended visit in its sleep phase, and the pool still full. -/
def noRoomVisit : Visit := { visitOf .sleep none false with suspended := true }

/-- That visit goes on at bay 3. -/
def noRoom : State := { coach with freeCount := 0, visit := some noRoomVisit }

/-- ARRIVING bay 3, not identified, or kept in recovery. -/
def arriving (recovery : Bool) : State :=
  updReader 3 (fun r => { r with identityWanted := true })
    (updTable 3
      (fun t => { t with
        occ := .arriving, recovery := recovery
        identity := if recovery then t.identity else none, lampPlan := if recovery then t.lampPlan else none })
      (inVisit .identity coach))

/-- The reader is in a fault pass of generation 5 with two records, at the cursor given. -/
def fetching (cursor : Nat) : State :=
  updReader 3 (fun r => { r with generation := some 5, recordCount := some 2, cursor := cursor }) (inVisit .fetch coach)

/-- A record of a BLOCKING fault, ACTIVE, seen 256 times. -/
def record402 : Offer := { source := 13, code := 402, cls := .blocking, active := true, occurrences := 256 }

/-- Its bytes in a FETCH reply of a generation. -/
def recordBytes (generation : Byte) : List Byte := [13#8, 0x01#8, 0x92#8, 2#8, 0#8, 0x01#8, 0#8, generation]

/-- Four entries of a class fill bay 3's list. -/
def fullOf (cls : FaultClass) (st : FaultState) (s : State) : State :=
  updFaults 3 (fun f => { f with list := [1, 2, 3, 4].map fun code => entryOf 5 code cls st, quota := 4 })
    { s with freeCount := 508 }

/-- Bay 3 is UNLATCHING and its LATCH(open) has been answered OK. -/
def opened : State := withClear fun c => { c with
  state := .releasing, substep := some .unlatching, latchFrom := some 20000, openAsked := true }

/-- Bay 3 is UNLATCHING and its LATCH(open) is still to be answered. -/
def unanswered : State := withClear fun c => { c with
  state := .releasing, substep := some .unlatching, openAsked := true }

theorem witness_ClockWeatherAndBadRequestsAreTaken :
    takes .schedule State.reset ∧ State.reset.clock.isSet = false ∧ takes .schedule (clocked 7 0) ∧
      16777215 ≤ 16777215 ∧ 16777215 < 16777216 ∧ (-501 : Int) < -500 ∧ (500 : Int) < 501 ∧
      takes .schedule plannedBay ∧ (-500 : Int) ≤ -500 ∧ (500 : Int) ≤ 500 ∧
      after (exec (.setOutside .schedule (-500)) plannedBay)
        (fun t => (t.bay 3).heat.state == .planned && (t.bay 3).heat.profile.isSome && (departureOf t 3).isSome) = true ∧
      takes .schedule outOfService ∧ (outOfService.bay 3).table.occ = .outOfService ∧ takes .schedule released ∧
      inRelease released 3 = true ∧ takes .schedule coach ∧ (coach.bay 3).table.occ ≠ .outOfService ∧
      inRelease coach 3 = false ∧ departureOf released 3 ≠ none ∧ takes .workshop coach ∧ 15 < 16 ∧
      takes .workshop (holding 1) ∧ 1 ≠ 0 ∧ 15 ≤ 15 ∧ holdsCoach (holding 1) 3 = true ∧
      ∃ h ∈ ((holding 1).bay 3).clear.holds, h.tag = 1 := by
  unfold takes; decide

theorem witness_ClockWeatherAndBadRequestsAreTaken_heat :
    (200 : Int) ≤ 200 ∧ (-400 : Int) < 280 ∧
      ((1 : Nat) : Int) * (1 : Nat) ≤ max 0 ((-400 + 280 : Int) / 2 - (-500)) * (255 : Nat) / 1024 ∧
      (-181 : Int) < 180 ∧
      max 0 ((-181 + 180 : Int) / 2 - (-200)) * (36 : Nat) / 1024 < ((1 : Nat) : Int) * (7 : Nat) := by
  decide

theorem witness_RequestFramesAreCheckedAndWorkIsDoneOnAnEmptyQueue :
    State.reset.inReset = false ∧ (State.reset.port .workshop).state ≠ .working ∧ (3#8).toNat = [1#8].length + 2 ∧
      (3#8).toNat ≤ 116 ∧ 1 ≤ (27#8).toNat ∧ (27#8).toNat ≤ 27 ∧
      parseBody (27#8).toNat [1#8] = some (.setQuiet true) ∧ permitted .workshop (27#8).toNat = true ∧
      bayFieldGood (27#8).toNat (255#8).toNat = true ∧
      (116#8).toNat = ([2#8, 16#8] ++ (List.replicate 16 [5#8, 0#8, 40#8, 0#8, 90#8, 20#8, 0#8]).flatten).length + 2 ∧
      permitted .schedule 7 = true ∧ bayFieldGood 7 255 = true ∧
      (1#8).toNat ≠ 0 ∧ ([] : List Byte).length < (1#8).toNat ∧ (117#8).toNat ≠ 0 ∧ 116 < (117#8).toNat ∧
      (0#8).toNat = 0 ∧ 27 < (28#8).toNat ∧ (2#8).toNat = ([] : List Byte).length + 2 ∧
      parseBody (27#8).toNat [] = none ∧ (portAs .ready).inReset = false ∧
      ((portAs .ready).port .dispatch).state ≠ .working ∧ (inResetState false).inReset = true := by
  decide

theorem witness_RequestFramesAreCheckedAndWorkIsDoneOnAnEmptyQueue_step :
    (portAs .working).pending = [] ∧ (portAs .working).inReset = false ∧
      requestOf (.release .dispatch 3) = some (.dispatch, 3, .release) ∧
      ((portAs .working).port .dispatch).state = .working ∧
      ((portAs .working).port .dispatch).inWork = some { bay := 3, body := .release } ∧
      ((portAs .working).port .schedule).state ≠ .working ∧
      (atSecond 1000000).pending = [] ∧ (atSecond 1000000).inReset = false ∧
      (∀ q : Port, ((atSecond 1000000).port q).state ≠ .working) ∧
      (atSecond 1000000).lastSecond + 1000000 ≤ (atSecond 1000000).time ∧
      (inResetState true).pending = [] ∧ (inResetState true).inReset = true := by
  refine ⟨by decide, by decide, by decide, by decide, by decide, by decide, by decide, by decide, ?_, by decide,
    by decide, by decide⟩
  intro q
  cases q <;> decide

theorem witness_RequestFramesAreCheckedAndWorkIsDoneOnAnEmptyQueue_idle :
    (forAllBays (fun b => setPoll b .idle) State.reset).pending = [] ∧
      (forAllBays (fun b => setPoll b .idle) State.reset).inReset = false ∧
      ∀ e ∈ ownEvents, e (forAllBays (fun b => setPoll b .idle) State.reset) = none := by
  decide

theorem witness_LampPlansAndLampOutcomesMoveTheChecks :
    takes .schedule slotRuns ∧ 7 < 8 ∧ 16 < (List.replicate 17 step0).length ∧
      ¬((List.replicate 2 step0).map LampStep.circuit).Nodup ∧ (∃ x ∈ [{ step0 with circuit := 32 }], 31 < x.circuit) ∧
      7 ≤ 7 ∧ stepsInRange [step0] = true ∧ stepsInRange [] = true ∧ planInUse slotRuns 2 = true ∧
      takes .schedule slotWaits ∧ planInUse slotWaits 2 = false ∧ [step0] ≠ [] ∧
      slotWaits.slots[(0 : Fin 4)] = some (slot3 .waitingPower) ∧ (slot3 .waitingPower).plan = 2 ∧
      (slotWaits.bay 3).lamp.check = .waitingPower ∧ Inv.lamps slotWaits ∧
      (∀ k : Fin 4, ∀ x ∈ slotWaits.slots[k], x.plan = 2 → holdsReservation slotWaits (.slot k) = false) := by
  unfold takes Inv.lamps; decide

/-- A sample that is blanked, the first sample that counts, and the third. -/
theorem witness_LampPlansAndLampOutcomesMoveTheChecks_sample :
    hears (.lampSample 5 20) (answer (.lampSample 5 20) 0 [0#8, 60#8]) (.ok (.current (some 60)))
        (updLamp 3 (fun l => { l with latestStage := some 20000 }) slotRuns) ∧
      blanked { updLamp 3 (fun l => { l with latestStage := some 20000 }) slotRuns with
        time := heardAt (sent (.lampSample 5 20) 1) (answer (.lampSample 5 20) 0 [0#8, 60#8]) coach }
        (slot3 .sampling) = true ∧
      hears (.lampSample 5 20) (answer (.lampSample 5 20) 0 [0#8, 40#8]) (.ok (.current (some 40))) slotRuns ∧
      (slotRuns.bay 3).lamp.slot = some 0 ∧ slotRuns.slots[(0 : Fin 4)] = some (slot3 .sampling) ∧
      (slot3 .sampling).bay = 3 ∧ (slot3 .sampling).phase = .sampling ∧ (slot3 .sampling).step = some step0 ∧
      ¬(40 < step0.low) ∧ ¬(step0.high < 90) ∧ (sent (.lampSample 5 20) 1).entry.wanted = true ∧
      blanked { slotRuns with
        time := heardAt (sent (.lampSample 5 20) 1) (answer (.lampSample 5 20) 0 [0#8, 40#8]) coach }
        (slot3 .sampling) = false ∧
      (slot3 .sampling).lastBand ≠ some .in_ ∧ (slot3 .sampling).validSamples < 3 ∧
      { slot3 .sampling with validSamples := 2, lastBand := some .low }.validSamples < 3 := by
  unfold hears replies awaitsReply; decide

/-- A step that is decided with another to follow: IN twice, and three samples that disagree. -/
theorem witness_LampPlansAndLampOutcomesMoveTheChecks_step :
    hears (.lampSample 5 20) (answer (.lampSample 5 20) 0 [0#8, 90#8]) (.ok (.current (some 90)))
        (twoSteps (inSlot (fun c => { c with validSamples := 1, lastBand := some .in_ }) slotRuns)) ∧
      hears (.lampSample 5 20) (answer (.lampSample 5 20) 2 []) .refused
        (twoSteps (inSlot (fun c => { c with validSamples := 3, lastBand := some .low }) slotRuns)) ∧
      (slot3 .sampling).stepIndex + 1 < (planOf (twoSteps slotRuns) (slot3 .sampling).plan).length ∧
      reachable (twoSteps slotRuns) 3 = true ∧
      blanked { twoSteps slotRuns with
        time := heardAt (sent (.lampSample 5 20) 1) (answer (.lampSample 5 20) 0 [0#8, 90#8]) coach }
        { slot3 .sampling with validSamples := 1, lastBand := some .in_ } = false := by
  unfold hears replies awaitsReply; decide

/-- The last step decided, in each band at its bound. -/
theorem witness_LampPlansAndLampOutcomesMoveTheChecks_completion :
    Inv.lamps (inSlot (fun c => { c with validSamples := 1, lastBand := some .low }) slotRuns) ∧
      planOf slotRuns (slot3 .sampling).plan = [step0] ∧ (slot3 .sampling).results = [] ∧
      (planOf slotRuns (slot3 .sampling).plan).length = (slot3 .sampling).stepIndex + 1 ∧
      hears (.lampSample 5 20) (answer (.lampSample 5 20) 0 [0#8, 39#8]) (.ok (.current (some 39)))
        (inSlot (fun c => { c with validSamples := 1, lastBand := some .low }) slotRuns) ∧
      39 < step0.low ∧
      hears (.lampSample 5 20) (answer (.lampSample 5 20) 0 [0#8, 91#8]) (.ok (.current (some 91)))
        (inSlot (fun c => { c with validSamples := 1, lastBand := some .high }) slotRuns) ∧
      step0.high < 91 ∧
      hears (.lampSample 5 20) (answer (.lampSample 5 20) 0 [0xFF#8, 0xFF#8]) (.ok (.current none))
        (inSlot (fun c => { c with validSamples := 1, lastBand := some .none }) slotRuns) ∧
      hears (.lampSample 5 20) (answer (.lampSample 5 20) 0 [0#8, 90#8]) (.ok (.current (some 90)))
        (inSlot (fun c => { c with validSamples := 1, lastBand := some .in_ }) slotRuns) := by
  unfold Inv.lamps hears replies awaitsReply; decide

/-- A sample FAILED, and LAMP_OFF off a slot, between two steps, and FAILED. -/
theorem witness_LampPlansAndLampOutcomesMoveTheChecks_lampOff :
    lastAttempt (sent (.lampSample 5 20) 2) (onLine (.lampSample 5 20) 2 slotRuns) ∧
      hears .lampOff (answer .lampOff 0 []) (.ok .nothing) litBay ∧ hears .lampOff (answer .lampOff 2 []) .refused litBay ∧
      (litBay.bay 3).lamp.slot = none ∧
      hears .lampOff (answer .lampOff 0 []) (.ok .nothing) (slotted .running .betweenSteps) ∧
      ((slotted .running .betweenSteps).bay 3).lamp.slot = some 0 ∧
      (slotted .running .betweenSteps).slots[(0 : Fin 4)] = some (slot3 .betweenSteps) ∧
      (slot3 .betweenSteps).bay = 3 ∧ (slot3 .betweenSteps).phase = .betweenSteps ∧
      (planOf (slotted .running .betweenSteps) (slot3 .betweenSteps).plan)[(slot3 .betweenSteps).stepIndex]? =
        some step0 ∧
      reachable (slotted .running .betweenSteps) 3 = true ∧ lastAttempt (sent .lampOff 2) (onLine .lampOff 2 litBay) ∧
      (litBay.bay 3).lamp.lit = true := by
  unfold lastAttempt hears replies awaitsReply; decide

theorem witness_BusyAndStageOutcomesAreTakenAndIncreasesAsked :
    hears .wake (answer .wake 1 []) .busy coach ∧ sortOf .wake = .reader ∧ (sent .wake 1).entry.firstBusy = none ∧
      hears .lampOff (answer .lampOff 1 []) .busy litBay ∧ sortOf .lampOff = .lamp ∧
      hears (.stage 1 false) (answer (.stage 1 false) 1 []) .busy coach ∧ sortOf (.stage 1 false) = .stage ∧
      (laneOf coach 3 .stage).queued = none ∧
      hears (.stage 1 false) (answer (.stage 1 false) 0 []) (.ok .nothing) coach ∧
      hears (.stage 1 false) (answer (.stage 1 false) 2 []) .refused coach ∧
      hears (.stage 1 true) (answer (.stage 1 true) 0 []) (.ok .nothing) (heating 3 1 0) ∧
      hears (.stage 4 true) (answer (.stage 4 true) 2 []) .refused (heating 3 3 3) ∧
      (laneOf (heating 3 3 3) 3 .stage).queued = none ∧
      ((heating 3 3 3).bay 3).power.closed ≤ ((heating 3 3 3).bay 3).power.grant ∧
      hears (.stage 1 true) (answer (.stage 1 true) 2 []) .refused (heating 1 1 2) ∧
      ((heating 1 1 2).bay 3).power.grant < ((heating 1 1 2).bay 3).power.closed ∧
      reachable (heating 1 1 2) 3 = true ∧ (laneOf (heating 1 1 2) 3 .stage).opened = none ∧
      (laneOf (heating 1 1 2) 3 .stage).queued = none := by
  unfold hears replies awaitsReply; decide

theorem witness_BusyAndStageOutcomesAreTakenAndIncreasesAsked_asked :
    lastAttempt (sent (.stage 1 true) 2) (onLine (.stage 1 true) 2 (heating 3 1 0)) ∧
      lastAttempt (sent (.stage 1 false) 2) (onLine (.stage 1 false) 2 coach) ∧ laneOf coach 3 .stage = .empty ∧
      reachable coach 3 = true ∧
      (laneOf (updLane 3 .stage (fun l => { l with queued := some (asked (.stage 3 true)) }) coach) 3 .stage).queued =
        some (asked (.stage 3 true)) ∧
      (laneOf (updLane 3 .stage (fun l => { l with opened := some (asked (.stage 3 true)) }) coach) 3 .stage).queued =
        none ∧
      (laneOf (updLane 3 .stage (fun l => { l with opened := some (asked (.stage 3 true)) }) coach) 3 .stage).opened =
        some (asked (.stage 3 true)) ∧
      coach.line = none ∧ (heating 3 0 0).inReset = false ∧ (heating 3 0 0).supply.increase = none ∧
      increaseBay (heating 3 0 0) = some 3 ∧ reachable (heating 3 0 0) 3 = true := by
  unfold lastAttempt awaitsReply; decide

/-- A BUSY to a LATCH, and to a STAGE and a LATCH with one waiting behind. -/
theorem witness_BusyAndStageOutcomesAreTakenAndIncreasesAsked_waiting :
    hears (.latch true) (answer (.latch true) 1 []) .busy coach ∧ sortOf (.latch true) = .latch ∧
      (laneOf coach 3 .latch).queued = none ∧
      hears (.stage 3 true) (answer (.stage 3 true) 1 []) .busy
        (updLane 3 .stage (fun l => { l with queued := some (asked (.stage 1 false)) }) coach) ∧
      (laneOf (updLane 3 .stage (fun l => { l with queued := some (asked (.stage 1 false)) }) coach) 3 .stage).queued =
        some (asked (.stage 1 false)) ∧
      hears (.latch true) (answer (.latch true) 1 []) .busy
        (updLane 3 .latch (fun l => { l with queued := some (asked (.latch false)) }) coach) ∧
      (laneOf (updLane 3 .latch (fun l => { l with queued := some (asked (.latch false)) }) coach) 3 .latch).queued =
        some (asked (.latch false)) ∧
      ∀ f ∈ (sent (.latch true) 1).entry.firstBusy, 20440 < f + 10000000 := by
  unfold hears replies awaitsReply; decide

/-- Failed attempts: in time at 200 bytes, late at 201, of a bay that can be reached and of one that cannot. -/
theorem witness_FailedAttemptsAreCountedAndPollsAreTaken :
    awaitsReply (sent .poll 1) (onLine .poll 1 vacant) ∧ (sent .poll 1).attempt = 1 ∧
      parseReply 3 .poll (List.replicate 200 0#8) = none ∧
      heardAt (sent .poll 1) (List.replicate 200 0#8) vacant ≤ (sent .poll 1).sentEnd + 8000 ∧
      (sent .poll 1).sentEnd + 8000 < heardAt (sent .poll 1) (List.replicate 201 0#8) vacant ∧
      quietLine.inReset = false ∧ quietLine.line = some { sent .poll 1 with quietUntil := some 30200 } ∧
      { sent .poll 1 with quietUntil := some 30200 }.quietUntil = some 30200 ∧
      lastAttempt (sent .poll 2) (onLine .poll 2 vacant) ∧ parseReply 3 .poll [] = none ∧
      lastAttempt (sent .poll 2) (onLine .poll 2 (updLoop 3 (fun l => { l with failures := 1 }) vacant)) ∧
      awaitsReply (sent .poll 2) (onLine .poll 2 State.reset) ∧ (sent .poll 2).attempt = 2 ∧
      reachable (onLine .poll 2 State.reset) 3 = false ∧ (sent .poll 2).entry.req = .poll ∧
      ((onLine .poll 2 State.reset).bay 3).table.occ = .lost ∧
      ((onLine .poll 2 State.reset).bay 3).table.discovered = false := by
  unfold lastAttempt awaitsReply; decide

/-- Sweep and probe answers: the first of all, and those of a bay lost VACANT, ARRIVING and PRESENT. -/
theorem witness_FailedAttemptsAreCountedAndPollsAreTaken_lost :
    hears .poll (pollAnswer 0#8 2#8 4#8 (-400)) (polled .out .moving 4 (-400)) State.reset ∧
      hears .poll (pollAnswer 1#8 0#8 0#8 800) (polled .in_ .closed 0 800) State.reset ∧
      (State.reset.bay 3).table.occ = .lost ∧ (State.reset.bay 3).table.discovered = false ∧
      hears .poll (pollAnswer 0#8 0#8 0#8 0) (polled .out .closed 0 0) lostCoach ∧
      hears .poll (pollAnswer 1#8 0#8 0#8 0) (polled .in_ .closed 0 0) lostCoach ∧
      (lostCoach.bay 3).table.occ = .lost ∧ (lostCoach.bay 3).table.discovered = true ∧
      (lostCoach.bay 3).table.beforeLoss = some .present ∧
      hears .poll (pollAnswer 1#8 0#8 0#8 0) (polled .in_ .closed 0 0)
        (updTable 3 (fun t => { t with occ := .lost, beforeLoss := some .vacant }) vacant) ∧
      hears .poll (pollAnswer 0#8 0#8 0#8 0) (polled .out .closed 0 0)
        (updTable 3 (fun t => { t with occ := .lost, beforeLoss := some .arriving }) vacant) := by
  unfold hears replies awaitsReply; decide

/-- The plug count at 1 and at the mark, and excess stages. -/
theorem witness_FailedAttemptsAreCountedAndPollsAreTaken_plug :
    hears .poll (pollAnswer 0#8 0#8 0#8 0) (polled .out .closed 0 0) vacant ∧ (vacant.bay 3).table.occ = .vacant ∧
      hears .poll (pollAnswer 1#8 0#8 0#8 0) (polled .in_ .closed 0 0) (counted 1 vacant) ∧
      hears .poll (pollAnswer 1#8 0#8 0#8 0) (polled .in_ .closed 0 0) (counted 2 vacant) ∧
      hears .poll (pollAnswer 0#8 0#8 0#8 0) (polled .out .closed 0 0) (counted 1 released) ∧
      (released.bay 3).table.occ = .present ∧ (released.bay 3).clear.state = .released ∧
      hears .poll (pollAnswer 0#8 0#8 0#8 0) (polled .out .closed 0 0) (counted 0 released) ∧
      hears .poll (pollAnswer 0#8 0#8 0#8 0) (polled .out .closed 0 0) (counted 2 cleared) ∧
      occupied cleared 3 = true ∧
      hears .poll (pollAnswer 1#8 0#8 1#8 0) (polled .in_ .closed 1 0) coach ∧ occupied coach 3 = true ∧
      (coach.bay 3).heat.state = .off ∧ reachable coach 3 = true ∧ (coach.bay 3).power.commanded < 1 ∧
      laneOf coach 3 .stage = .empty ∧ (coach.bay 3).power.watch = none ∧ (coach.bay 3).power.stuck = false := by
  unfold hears replies awaitsReply; decide

/-- The ready test at its target, and the thermostat at each of its bounds. -/
theorem witness_FailedAttemptsAreCountedAndPollsAreTaken_heat :
    hears .poll (pollAnswer 1#8 0#8 3#8 200) (polled .in_ .closed 3 200) (heating 3 3 3) ∧
      hears .poll (pollAnswer 1#8 0#8 3#8 199) (polled .in_ .closed 3 199) (heating 3 3 3) ∧
      ((heating 3 3 3).bay 3).heat.state = .heating ∧ occupied (heating 3 3 3) 3 = true ∧
      departureOf (heating 3 3 3) 3 = some { minute := 500, target := 200, expected := none, overdue := false } ∧
      ((heats fun h => { h with state := .holding }).bay 3).heat.state = .holding ∧
      ((heats fun h => { h with state := .holding }).bay 3).heat.profile = some profile3 ∧
      departureOf (heats fun h => { h with state := .holding }) 3 =
        some { minute := 500, target := 200, expected := none, overdue := false } ∧
      hears .poll (pollAnswer 1#8 0#8 3#8 200) (polled .in_ .closed 3 200) (heats fun h => { h with state := .holding }) ∧
      hears .poll (pollAnswer 1#8 0#8 3#8 190) (polled .in_ .closed 3 190) (heats fun h => { h with state := .holding }) ∧
      hears .poll (pollAnswer 1#8 0#8 3#8 170) (polled .in_ .closed 3 170) (heats fun h => { h with state := .holding }) ∧
      hears .poll (pollAnswer 1#8 0#8 3#8 169) (polled .in_ .closed 3 169) (heats fun h => { h with state := .holding }) ∧
      (200 : Int) ≤ 200 ∧ (200 - profile3.hysteresis : Int) ≤ 190 ∧ (200 - 3 * profile3.hysteresis : Int) ≤ 170 ∧
      (169 : Int) < 200 - 3 * profile3.hysteresis := by
  unfold hears replies awaitsReply; decide

/-- WAKE and SLEEP. -/
theorem witness_ReaderOutcomesAndThePoolIntakeAreTaken :
    visitAsks (sent .wake 1) (visitOf .wake none false) (onLine .wake 1 (inVisit .wake coach)) ∧
      hears .wake (answer .wake 0 []) (.ok (.reader .nothing)) (inVisit .wake coach) ∧
      hears .sleep (answer .sleep 0 []) (.ok (.reader .nothing))
        (updReader 3 (fun r => { r with passWanted := false }) (inVisit .sleep coach)) ∧
      visitAsks (sent .sleep 1) (visitOf .sleep none false)
        (onLine .sleep 1 (updReader 3 (fun r => { r with passWanted := false }) (inVisit .sleep coach))) ∧
      (inVisit .sleep coach).readerQueue = [] ∧ ((inVisit .sleep coach).bay 3).reader.clears = [] ∧
      visitAsks (sent .sleep 1) noRoomVisit (onLine .sleep 1 noRoom) ∧ noRoomVisit.suspended = true ∧
      hears .sleep (answer .sleep 0 []) (.ok (.reader .nothing)) noRoom ∧ noRoom.freeCount = 0 ∧
      noRoom.readerQueue = [] := by
  unfold visitAsks hears replies awaitsReply; decide

/-- IDENT, refused and answered, of a bay first seen and of one in recovery. -/
theorem witness_ReaderOutcomesAndThePoolIntakeAreTaken_identity :
    visitAsks (sent .ident 1) (visitOf .identity none false) (onLine .ident 1 (arriving false)) ∧
      hears .ident (answer .ident 2 []) .refused (arriving false) ∧ sortOf .ident = .reader ∧
      reachable (arriving false) 3 = true ∧ ((arriving false).bay 3).table.occ = .arriving ∧
      ((arriving false).bay 3).table.recovery = false ∧
      hears .ident (answer .ident 0 [0xFF#8, 0xFF#8, 7#8]) (.ok (.reader (.identity 65535 7))) (arriving false) ∧
      hears .ident (answer .ident 0 [0#8, 0#8, 7#8]) (.ok (.reader (.identity 0 7))) (arriving false) ∧
      hears .ident (answer .ident 0 [0#8, 1#8, 8#8]) (.ok (.reader (.identity 1 8))) (arriving false) ∧
      ((arriving true).bay 3).table.recovery = true ∧
      ((arriving true).bay 3).table.identity = some { fleet := 3310, coachType := 2 } ∧
      hears .ident (answer .ident 0 [0x0C#8, 0xEE#8, 2#8]) (.ok (.reader (.identity 3310 2))) (arriving true) ∧
      hears .ident (answer .ident 0 [0x0C#8, 0xEF#8, 2#8]) (.ok (.reader (.identity 3311 2))) (arriving true) := by
  unfold visitAsks hears replies awaitsReply; decide

/-- SNAPSHOT of no record, with records to fetch, and with the budget spent; FETCH and CLEAR. -/
theorem witness_ReaderOutcomesAndThePoolIntakeAreTaken_pass :
    visitAsks (sent .snapshot 1) (visitOf .snapshot none false) (onLine .snapshot 1 (inVisit .snapshot coach)) ∧
      hears .snapshot (answer .snapshot 0 [0#8, 5#8]) (.ok (.reader (.snapshot 0 5))) (inVisit .snapshot coach) ∧
      hears .snapshot (answer .snapshot 0 [255#8, 255#8]) (.ok (.reader (.snapshot 255 255))) (inVisit .snapshot coach) ∧
      (visitOf .snapshot none false).fetches < (visitOf .snapshot none false).budget ∧
      { visitOf .snapshot none false with fetches := 8 }.budget ≤ { visitOf .snapshot none false with fetches := 8 }.fetches ∧
      visitAsks (sent (.fetch 0) 1) (visitOf .fetch none false) (onLine (.fetch 0) 1 (fetching 0)) ∧
      ((fetching 0).bay 3).reader.cursor = 0 ∧ ((fetching 0).bay 3).reader.generation = some 5 ∧
      hears (.fetch 0) (answer (.fetch 0) 0 (recordBytes 5#8)) (.ok (.reader (.record record402 5))) (fetching 0) ∧
      hears (.fetch 0) (answer (.fetch 0) 0 (recordBytes 6#8)) (.ok (.reader (.record record402 6))) (fetching 0) ∧
      hears (.fetch 1) (answer (.fetch 1) 0 (recordBytes 5#8)) (.ok (.reader (.record record402 5))) (fetching 1) ∧
      some (((fetching 1).bay 3).reader.cursor + 1) = ((fetching 1).bay 3).reader.recordCount ∧
      (offer 3 record402 { onLine (.fetch 0) 1 (fetching 0) with freeCount := 0 }).2 = .noRoom ∧
      (offer 3 record402 (onLine (.fetch 0) 1 (fetching 0))).2 ≠ .noRoom ∧ record402.source ≤ 13 ∧
      visitAsks (sent (.clear 13 402) 1) (visitOf .clears none false)
        (onLine (.clear 13 402) 1 (inVisit .clears (coachFault .clearPending))) ∧
      hears (.clear 13 402) (answer (.clear 13 402) 0 [0#8]) (.ok (.reader (.clear true)))
        (inVisit .clears (coachFault .clearPending)) ∧
      hears (.clear 13 402) (answer (.clear 13 402) 0 [1#8]) (.ok (.reader (.clear false)))
        (inVisit .clears (coachFault .clearPending)) ∧
      findEntry (inVisit .clears (coachFault .clearPending)) 3 13 402 = some (entryOf 13 402 .blocking .clearPending) := by
  unfold visitAsks hears replies awaitsReply; decide

/-- The intake: merged, new, no room, refused for want of room, displacing, and with nothing to displace. -/
theorem witness_ReaderOutcomesAndThePoolIntakeAreTaken_intake :
    findEntry (coachFault .deferred) 3 record402.source record402.code = some (entryOf 13 402 .blocking .deferred) ∧
      findEntry stuckFault 3 15 1 = some (entryOf 15 1 .blocking .active) ∧
      findEntry coach 3 record402.source record402.code = none ∧
      (coach.bay 3).faults.list.length < (coach.bay 3).faults.quota ∧ 0 < coach.freeCount ∧
      { coach with freeCount := 0 }.freeCount = 0 ∧ record402.source ≤ 13 ∧ 14 ≤ 15 ∧
      findEntry (fullOf .info .stored coach) 3 record402.source record402.code = none ∧
      ((fullOf .info .stored coach).bay 3).faults.quota ≤ ((fullOf .info .stored coach).bay 3).faults.list.length ∧
      displacement ((fullOf .info .stored coach).bay 3).faults.list record402.cls = some (entryOf 5 1 .info .stored) ∧
      (∀ x ∈ ((fullOf .blocking .stored coach).bay 3).faults.list, x.cls = .blocking) ∧
      findEntry (fullOf .blocking .stored coach) 3 record402.source record402.code = none := by
  decide

theorem witness_ReleaseTimersAndLatchOutcomesMoveTheRelease :
    stopping.inReset = false ∧ (stopping.bay 3).clear.state = .releasing ∧
      (stopping.bay 3).clear.substep = some .stoppingHeat ∧ (stopping.bay 3).clear.stopFrom = some 20000 ∧
      unlatching.inReset = false ∧ (unlatching.bay 3).clear.state = .releasing ∧
      (unlatching.bay 3).clear.substep = some .unlatching ∧ (unlatching.bay 3).clear.latchFrom = some 20000 ∧
      (unlatching.bay 3).clear.openAsked = true ∧ reachable unlatching 3 = true ∧
      released.inReset = false ∧ (released.bay 3).clear.state = .released ∧
      (released.bay 3).clear.windowFrom = some 20000 ∧ reachable released 3 = true ∧
      relatching.inReset = false ∧ (relatching.bay 3).clear.relatch = true ∧
      (relatching.bay 3).clear.relatchAt = some 10020000 ∧ reachable relatching 3 = true ∧
      cleared.inReset = false ∧ (cleared.bay 3).clear.state = .cleared ∧
      (cleared.bay 3).clear.validityFrom = some 20000 := by
  decide

/-- The polls that end STOPPING_HEAT and UNLATCHING. -/
theorem witness_ReleaseTimersAndLatchOutcomesMoveTheRelease_poll :
    hears .poll (pollAnswer 1#8 0#8 0#8 0) (polled .in_ .closed 0 0) stopping ∧ (stopping.bay 3).table.occ = .present ∧
      (stopping.bay 3).clear.state = .releasing ∧ (stopping.bay 3).clear.substep = some .stoppingHeat ∧
      (stopping.bay 3).clear.latchFrom = none ∧
      hears .poll (pollAnswer 1#8 1#8 0#8 0) (polled .in_ .open_ 0 0) opened ∧ (opened.bay 3).table.occ = .present ∧
      (opened.bay 3).clear.state = .releasing ∧ (opened.bay 3).clear.substep = some .unlatching ∧
      (opened.bay 3).clear.latchFrom = some 20000 ∧ openPending opened 3 = false ∧
      hears .poll (pollAnswer 1#8 1#8 4#8 0) (polled .in_ .open_ 4 0) opened := by
  unfold hears replies awaitsReply; decide

/-- The outcomes of LATCH(open) and of LATCH(close). -/
theorem witness_ReleaseTimersAndLatchOutcomesMoveTheRelease_latch :
    (sent (.latch true) 1).entry.wanted = true ∧ (unanswered.bay 3).clear.state = .releasing ∧
      (unanswered.bay 3).clear.substep = some .unlatching ∧
      hears (.latch true) (answer (.latch true) 0 []) (.ok .nothing) unanswered ∧
      hears (.latch true) (answer (.latch true) 2 []) .refused unanswered ∧
      lastAttempt (sent (.latch true) 2) (onLine (.latch true) 2 unanswered) ∧ (unanswered.bay 3).power.closed = 0 ∧
      lastAttempt (sent (.latch true) 2) (onLine (.latch true) 2 (updPower 3 (fun p => { p with closed := 1 }) unanswered)) ∧
      0 < ((updPower 3 (fun p => { p with closed := 1 }) unanswered).bay 3).power.closed ∧
      hears (.latch false) (answer (.latch false) 0 []) (.ok .nothing) relatching ∧
      hears (.latch false) (answer (.latch false) 2 []) .refused relatching ∧
      (relatching.bay 3).clear.relatch = true := by
  unfold lastAttempt hears replies awaitsReply; decide

theorem witness_StepKeepsThePoolLaw :
    Inv.pool { stuckFault with pending := [.clearFault .workshop 3 15 1] } ∧
      ∃ t, step { stuckFault with pending := [.clearFault .workshop 3 15 1] } = .next t := by
  exact ⟨by unfold Inv.pool poolBalanced listsGood lowFlagTrue; decide, _, rfl⟩

theorem witness_StepKeepsTheDepartureList :
    Inv.departures { coach with pending := [.cancelDeparture .schedule 3] } ∧
      ∃ t, step { coach with pending := [.cancelDeparture .schedule 3] } = .next t := by
  refine ⟨⟨by decide, by decide, fun b m h => ?_⟩, _, rfl⟩
  have listed : ∀ b : Bay, ∀ m ∈ (departureOf coach b).map Departure.minute,
      ({ bay := b, minute := m } : DepartureEntry) ∈ coach.departures := by decide
  exact listed b m h

theorem witness_StepKeepsTheSupplyBooks :
    Inv.supply { slotRuns with pending := [.setReserve .schedule 7] } ∧
      ∃ t, step { slotRuns with pending := [.setReserve .schedule 7] } = .next t := by
  exact ⟨by unfold Inv.supply; decide, _, rfl⟩

theorem witness_StepKeepsTheBayRecords :
    Inv.occupancy { counted 2 cleared with pending := [.unreleasedDeparture 3] } ∧
      ∃ t, step { counted 2 cleared with pending := [.unreleasedDeparture 3] } = .next t := by
  exact ⟨by unfold Inv.occupancy occupancyGood; decide, _, rfl⟩

theorem witness_StepKeepsTheClearanceRecords :
    Inv.occupancy { cleared with pending := [.placeHold .workshop 3 1 0] } ∧
      Inv.clearance { cleared with pending := [.placeHold .workshop 3 1 0] } ∧
      ∃ t, step { cleared with pending := [.placeHold .workshop 3 1 0] } = .next t := by
  exact ⟨by unfold Inv.occupancy occupancyGood; decide, by unfold Inv.clearance ClearRec.good; decide, _, rfl⟩

theorem witness_StepKeepsTheLatchShutOnClosedContactors :
    Inv.occupancy { opening3 with pending := [.withdrawClearance .dispatch 3] } ∧
      Inv.clearance { opening3 with pending := [.withdrawClearance .dispatch 3] } ∧
      Inv.latch { opening3 with pending := [.withdrawClearance .dispatch 3] } ∧ openPending opening3 3 = true ∧
      ∃ t, step { opening3 with pending := [.withdrawClearance .dispatch 3] } = .next t := by
  exact ⟨by unfold Inv.occupancy occupancyGood; decide, by unfold Inv.clearance ClearRec.good; decide,
    by unfold Inv.latch; decide, by decide, _, rfl⟩

theorem witness_StepKeepsTheLampQueueAndSlots :
    Inv.lamps { slotRuns with pending := [.abortLampCheck .workshop 3] } ∧
      ∃ t, step { slotRuns with pending := [.abortLampCheck .workshop 3] } = .next t := by
  exact ⟨by unfold Inv.lamps; decide, _, rfl⟩

end Sys2Proof.Tests
end

section
/-! PROOF. What the blocks may do to the state between two changes of the Bay Table: one relation for the Planner and
the allocator, one for every block, and what each leaves as it was. -/

namespace Sys2Proof.Machine

/-! ### The Planner and the allocator -/

/-- The events of the Planner (spec 10, 10.1). -/
def isHeatEvent : BayEvent → Bool
  | .heatStarted | .heatReady | .heatLate => true
  | _ => false

/-- A commanded target of 0 at a LOST bay stays 0 (spec 03, R67). -/
def lostStaysCold (t : State) (b : Bay) (commanded : Nat) : Prop :=
  (t.bay b).table.occ = .lost → (t.bay b).power.commanded = 0 → commanded = 0

/-- What planning, granting and reducing may do: heat records but for profile and cabin temperature, grants and
commanded targets, STAGE reductions at bays that can be reached, and the Planner's events. -/
inductive Plans (s : State) : State → Prop
  | refl : Plans s s
  | heat {t : State} {b : Bay} {f : HeatRec → HeatRec} (h : Plans s t)
      (hf : ∀ r, (f r).profile = r.profile ∧ (f r).cabin = r.cabin) : Plans s (updHeat b f t)
  | power {t : State} {b : Bay} {f : PowerRec → PowerRec} (h : Plans s t)
      (hf : ∀ r, (f r).closed = r.closed ∧ (f r).watch = r.watch ∧ (f r).lastIncrease = r.lastIncrease)
      (hl : lostStaysCold t b (f (t.bay b).power).commanded) : Plans s (updPower b f t)
  | told {t : State} {b : Bay} {target : Nat} (h : Plans s t) (hl : lostStaysCold t b target) :
      Plans s (noteStage b (updPower b (fun p => { p with commanded := target, watch := none }) t))
  | free {t : State} {b : Bay} (h : Plans s t) : Plans s (freeIncrease b t)
  | join {t : State} {b : Bay} {target : Nat} {increase : Bool} (h : Plans s t) (hr : reachable t b = true) :
      Plans s (joinStage b target increase t)
  | post {t : State} {b : Bay} {e : BayEvent} (h : Plans s t) (he : isHeatEvent e = true) :
      Plans s (post e b t)

namespace Plans

theorem trans {s t u : State} (h : Plans s t) (k : Plans t u) : Plans s u := by
  induction k with
  | refl => exact h
  | heat _ hf ih => exact ih.heat hf
  | power _ hf hl ih => exact ih.power hf hl
  | told _ hl ih => exact ih.told hl
  | free _ ih => exact ih.free
  | join _ hr ih => exact ih.join hr
  | post _ he ih => exact ih.post he

/-- What is done or not. -/
theorem onlyIf {s t : State} {c : Bool} {f : State → State} (h : Plans s t) (hf : c = true → Plans s (f t)) :
    Plans s (onlyIf c f t) := by
  cases c with
  | true => exact hf rfl
  | false => exact h

/-- What is done for every bay. -/
theorem forAllBays {s t : State} {f : Bay → State → State} (hf : ∀ b u, Plans s u → Plans s (f b u))
    (h : Plans s t) : Plans s (forAllBays f t) :=
  forAllBays_keeps (P := Plans s) hf t h

end Plans

/-- Whether a bay can be reached depends on its occupancy alone. -/
theorem reachable_congr {s t : State} {b : Bay} (h : (t.bay b).table.occ = (s.bay b).table.occ) :
    reachable t b = reachable s b := by
  unfold reachable; rw [h]

/-! #### The operations of the allocator -/

section
variable {s t : State} {b : Bay}

theorem stageEnded_plans (h : Plans s t) : Plans s (stageEnded b t) :=
  h.power (by simp) (fun _ hc => hc)

theorem commandClosed_plans (h : Plans s t) (ho : (t.bay b).table.occ ≠ .lost) : Plans s (commandClosed b t) :=
  h.power (by simp) (fun hl => absurd hl ho)

theorem stageUnqueued_plans {increase : Bool} (h : Plans s t) : Plans s (stageUnqueued b increase t) := by
  unfold stageUnqueued
  split
  · exact h.power (by simp) (fun _ _ => rfl)
  · exact h.onlyIf fun _ => commandClosed_plans h ‹_›

theorem askStage_plans {target : Nat} {increase : Bool} (h : Plans s t) (hl : lostStaysCold t b target) :
    Plans s (askStage b target increase t) := by
  unfold askStage
  have told := h.told hl
  split
  · exact told.join ((reachable_congr (s := t) (by simp [noteStage])).trans ‹_›)
  · exact (stageUnqueued_plans (stageEnded_plans told)).onlyIf fun _ => (stageUnqueued_plans (stageEnded_plans told)).free

theorem askReduction_plans {target : Nat} (h : Plans s t) (hl : lostStaysCold t b target) :
    Plans s (askReduction b target t) := by
  unfold askReduction
  refine askStage_plans (h.onlyIf fun _ => h.free) ?_
  unfold onlyIf; split <;> simpa [lostStaysCold, freeIncrease] using hl

theorem reduceBay_plans (h : Plans s t) : Plans s (reduceBay b t) := by
  refine h.onlyIf fun hc => askReduction_plans h fun _ h0 => ?_
  have := of_decide_eq_true hc
  omega

theorem askReductions_plans (h : Plans s t) : Plans s (askReductions t) :=
  Plans.forAllBays (fun _ _ => reduceBay_plans) h

theorem returnCommanded_plans (h : Plans s t) (ho : (t.bay b).table.occ ≠ .lost) :
    Plans s (returnCommanded b t) := by
  unfold returnCommanded
  split
  · exact h
  · exact reduceBay_plans (commandClosed_plans h ho)

theorem stageNotSent_plans {increase : Bool} (h : Plans s t) : Plans s (stageNotSent b increase t) := by
  have ended : Plans s (onlyIf increase (freeIncrease b) (stageEnded b t)) :=
    (stageEnded_plans h).onlyIf fun _ => (stageEnded_plans h).free
  have hocc : ((onlyIf increase (freeIncrease b) (stageEnded b t)).bay b).table.occ = (t.bay b).table.occ := by
    cases increase <;> simp [freeIncrease, stageEnded]
  unfold stageNotSent
  split
  · exact ended.power (by simp) (fun _ _ => rfl)
  · exact ended.onlyIf fun _ => returnCommanded_plans ended (by rw [hocc]; assumption)

/-! #### The operations of the Planner -/

theorem plan_plans (h : Plans s t) : Plans s (plan b t) := by
  unfold plan
  split
  · exact h.heat (by simp)
  · exact h

theorem project_plans (h : Plans s t) : Plans s (project b t) := by
  unfold project
  split
  · exact (h.heat (by simp)).onlyIf fun _ => (h.heat (by simp)).post rfl
  · exact h

theorem judgeStarved_plans (h : Plans s t) : Plans s (judgeStarved b t) := h.heat (by simp)

theorem setGrant_plans {starting : Option Bay} {grant : Nat} (h : Plans s t) :
    Plans s (setGrant starting b grant t) := by
  unfold setGrant
  split
  · exact h
  · have starved := judgeStarved_plans (b := b)
      (h.power (b := b) (f := fun p => { p with grant := grant }) (by simp) (fun _ hc => hc))
    exact starved.onlyIf fun _ => project_plans starved

theorem recomputeBooks_plans {starting : Option Bay} (h : Plans s t) : Plans s (recomputeBooks starting t) :=
  Plans.forAllBays (fun _ _ => setGrant_plans) h

theorem recompute_plans {starting : Option Bay} (h : Plans s t) : Plans s (recompute starting t) :=
  askReductions_plans (recomputeBooks_plans h)

theorem setDemand_plans {starting : Option Bay} {demand : Nat} (h : Plans s t) :
    Plans s (setDemand starting b demand t) := by
  unfold setDemand
  split
  · exact h
  · exact recompute_plans (h.heat (by simp))

theorem beginHeating_plans (h : Plans s t) : Plans s (beginHeating b t) :=
  judgeStarved_plans (setDemand_plans ((h.heat (by simp)).post rfl))

theorem becomeHolding_plans (h : Plans s t) : Plans s (becomeHolding b t) :=
  setDemand_plans ((h.heat (by simp)).post rfl)

theorem readyTest_plans (h : Plans s t) : Plans s (readyTest b t) := by
  unfold readyTest
  split
  · split
    · exact becomeHolding_plans h
    · exact project_plans h
  · exact project_plans h

theorem fireIfDue_plans (h : Plans s t) : Plans s (fireIfDue b t) := by
  unfold fireIfDue
  split
  · split
    · exact readyTest_plans (beginHeating_plans h)
    · exact h
  · exact h

theorem replan_plans (h : Plans s t) : Plans s (replan b t) := fireIfDue_plans (plan_plans h)

theorem judgePlan_plans (h : Plans s t) : Plans s (judgePlan b t) := by
  unfold judgePlan
  split
  · exact replan_plans (h.heat (by simp))
  · exact h

theorem enterOff_plans (h : Plans s t) : Plans s (enterOff b t) := judgePlan_plans (h.heat (by simp))

theorem stoppingToOff_plans (h : Plans s t) : Plans s (stoppingToOff b t) := by
  unfold stoppingToOff
  split
  · exact enterOff_plans h
  · exact h

theorem enterStopping_plans (h : Plans s t) : Plans s (enterStopping b t) :=
  stoppingToOff_plans (setDemand_plans (h.heat (by simp)))

theorem thermostat_plans {reading : Int} (h : Plans s t) : Plans s (thermostat b reading t) := by
  unfold thermostat
  split
  · split
    · exact setDemand_plans h
    split
    · exact h
    split
    · exact setDemand_plans h
    · exact project_plans (beginHeating_plans h)
  · exact h

theorem thermostatNow_plans (h : Plans s t) : Plans s (thermostatNow b t) := by
  unfold thermostatNow
  split
  · exact thermostat_plans h
  · exact h

theorem actOnReading_plans (h : Plans s t) : Plans s (actOnReading b t) := by
  unfold actOnReading
  split
  case h_1 => exact replan_plans h
  case h_2 => exact readyTest_plans h
  case h_3 => exact thermostatNow_plans h
  all_goals exact h

theorem heatDepartureSet_plans (h : Plans s t) : Plans s (heatDepartureSet b t) := by
  unfold heatDepartureSet
  split
  case h_1 => exact judgePlan_plans h
  case h_2 => exact replan_plans h
  case h_3 => exact readyTest_plans h
  case h_4 => exact thermostatNow_plans h
  all_goals exact h

theorem heatWithdrawn_plans (h : Plans s t) : Plans s (heatWithdrawn b t) := by
  unfold heatWithdrawn
  split
  case h_1 => exact enterOff_plans h
  case h_2 => exact enterStopping_plans h
  case h_3 => exact enterStopping_plans h
  all_goals exact h

theorem clearHeatFlags_plans (h : Plans s t) : Plans s (clearHeatFlags b t) := h.heat (by simp)

theorem heatLost_plans {wasPresent : Bool} (h : Plans s t) : Plans s (heatLost wasPresent b t) := by
  unfold heatLost
  split
  · exact setDemand_plans (clearHeatFlags_plans (h.heat (by simp)))
  split
  · exact enterOff_plans h
  · exact h

theorem heatOutOfService_plans (h : Plans s t) : Plans s (heatOutOfService b t) :=
  setDemand_plans (clearHeatFlags_plans (h.heat (by simp)))

theorem outsideChanged_plans (h : Plans s t) : Plans s (outsideChanged b t) := by
  unfold outsideChanged
  split
  case h_1 => exact replan_plans h
  case h_2 => exact project_plans h
  all_goals exact h

end


/-! ### Every block -/

/-- What a command may reach beyond the ordinary work of the blocks: the bays whose record changes freely, the bays a
reply reports on, and the calls that are posted. -/
structure Scope where
  bays : Bay → Prop
  reports : Bay → Prop
  calls : BayEvent → Prop

/-- Nothing beyond the ordinary work. -/
def Scope.none : Scope := ⟨fun _ => False, fun _ => False, fun _ => False⟩

/-- A reply reports on this bay. -/
def Scope.report (b : Bay) : Scope := ⟨fun _ => False, fun x => x = b, fun _ => False⟩

/-- The Bay Table changes this bay, and posts these calls. -/
def Scope.table (b : Bay) (calls : BayEvent → Prop) : Scope := ⟨fun x => x = b, fun x => x = b, calls⟩

/-- The events by which the Bay Table tells of a coach or a node that comes or goes. -/
def isCall : BayEvent → Bool
  | .arrival | .departed | .nodeLost | .nodeBack => true
  | _ => false

/-- The clearance is CLEARED, RELEASING or RELEASED. -/
def ClearState.stands : ClearState → Bool
  | .cleared | .releasing | .released => true
  | _ => false

/-- What a clearance record may become but by a request or at the bay's vacancy: the holds stay, an IDLE one stays IDLE
and whole unless it relatches, and none comes to stand. -/
def ClearRec.Follows (c c' : ClearRec) : Prop :=
  c'.holds = c.holds ∧ (c.state = .idle → c'.state = .idle ∧ (c.relatch = false → c' = c)) ∧
    (c.state.stands = false → c'.state.stands = false)

theorem ClearRec.Follows.refl (c : ClearRec) : c.Follows c := ⟨rfl, fun h => ⟨h, fun _ => rfl⟩, id⟩

theorem ClearRec.Follows.trans {c c' c'' : ClearRec} (h : c.Follows c') (k : c'.Follows c'') : c.Follows c'' := by
  obtain ⟨hh, hi, hs⟩ := h
  obtain ⟨kh, ki, ks⟩ := k
  refine ⟨kh.trans hh, fun h0 => ⟨(ki (hi h0).1).1, fun hr => ?_⟩, fun h0 => ks (hs h0)⟩
  have e := (hi h0).2 hr
  exact ((ki (hi h0).1).2 (by rw [e]; exact hr)).trans e

/-- A clearance that stands, whatever becomes of it with its holds kept. -/
theorem ClearRec.Follows.of_stands {c c' : ClearRec} (h : c.state.stands = true) (hh : c'.holds = c.holds) :
    c.Follows c' :=
  ⟨hh, fun h0 => by rw [h0] at h; exact absurd h (by decide), fun h0 => by rw [h0] at h; exact absurd h (by decide)⟩

/-- A lane with no entry gains none. -/
def keepsEmpty (f : Lane → Lane) : Prop := f .empty = .empty

/-- A change of a bay's record that leaves its booked minute, or its having none. -/
def keepsMinute (f : BayRec → BayRec) : Prop :=
  ∀ r, (f r).table.departure.map Departure.minute = r.table.departure.map Departure.minute

/-- What the blocks may do to the state in their ordinary work, and beyond it what the scope allows. -/
inductive Work (w : Scope) (s : State) : State → Prop
  | refl : Work w s s
  | plans {t u : State} (h : Work w s t) (k : Plans t u) : Work w s u
  | any {t : State} {b : Bay} {f : BayRec → BayRec} (h : Work w s t) (hb : w.bays b) (hf : keepsMinute f) :
      Work w s (updBay b f t)
  | revised {t : State} {b : Bay} (h : Work w s t) (hb : w.bays b) : Work w s (departuresChanged t)
  | written {t : State} {b : Bay} {d : Departure} (h : Work w s t) (hb : w.bays b) : Work w s (writeDeparture b d t)
  | dropped {t : State} {b : Bay} (h : Work w s t) (hb : w.bays b) : Work w s (dropDeparture b t)
  | depot {t : State} (lq : List Bay) (sl : Vector (Option Slot) 4) (fc : Nat) (lf : Bool) (rq su : List Bay)
      (v : Option Visit) (h : Work w s t) :
      Work w s { t with
        lampQueue := lq, slots := sl, freeCount := fc, lowFlag := lf, readerQueue := rq, suspended := su, visit := v }
  | books {t : State} {f : SupplyRec → SupplyRec} (h : Work w s t)
      (hf : ∀ r b, r.increase ≠ some b → (f r).increase ≠ some b) : Work w s (updSupply f t)
  | line {t : State} {f : OnLine → OnLine} (h : Work w s t) : Work w s { t with line := t.line.map f }
  | post {t : State} {b : Bay} {e : BayEvent} (h : Work w s t) (he : isCall e = true → w.calls e) :
      Work w s (post e b t)
  | poolLow {t : State} (h : Work w s t) : Work w s (postPoolLow t)
  | supply {t : State} (h : Work w s t) : Work w s (postSupply t)
  | heat {t : State} {b : Bay} {f : HeatRec → HeatRec} (h : Work w s t)
      (hf : ∀ r, (f r).profile = r.profile) (hr : w.reports b ∨ ∀ r, (f r).cabin = r.cabin) :
      Work w s (updHeat b f t)
  | power {t : State} {b : Bay} {f : PowerRec → PowerRec} (h : Work w s t)
      (hr : w.reports b ∨ (∀ r, (f r).closed = r.closed) ∧ lostStaysCold t b (f (t.bay b).power).commanded) :
      Work w s (updPower b f t)
  | lamp {t : State} {b : Bay} {f : LampRec → LampRec} (h : Work w s t) : Work w s (updLamp b f t)
  | faults {t : State} {b : Bay} {f : FaultRec → FaultRec} (h : Work w s t) (hf : ∀ r, (f r).quota = r.quota) :
      Work w s (updFaults b f t)
  | reader {t : State} {b : Bay} {f : ReaderRec → ReaderRec} (h : Work w s t) : Work w s (updReader b f t)
  | clear {t : State} {b : Bay} {f : ClearRec → ClearRec} (h : Work w s t)
      (hf : (t.bay b).clear.Follows (f (t.bay b).clear)) : Work w s (updClear b f t)
  | lane {t : State} {b : Bay} {sort : LoopSort} {f : Lane → Lane} (h : Work w s t)
      (hr : w.reports b ∨ reachable t b = true ∨ keepsEmpty f) : Work w s (updLane b sort f t)

namespace Work

variable {w : Scope} {s t u : State} {b : Bay}

theorem trans (h : Work w s t) (k : Work w t u) : Work w s u := by
  induction k with
  | refl => exact h
  | plans _ k ih => exact ih.plans k
  | any _ hb hf ih => exact ih.any hb hf
  | revised _ hb ih => exact ih.revised hb
  | written _ hb ih => exact ih.written hb
  | dropped _ hb ih => exact ih.dropped hb
  | depot lq sl fc lf rq su v _ ih => exact ih.depot lq sl fc lf rq su v
  | books _ hf ih => exact ih.books hf
  | line _ ih => exact ih.line
  | post _ he ih => exact ih.post he
  | poolLow _ ih => exact ih.poolLow
  | supply _ ih => exact ih.supply
  | heat _ hf hr ih => exact ih.heat hf hr
  | power _ hr ih => exact ih.power hr
  | lamp _ ih => exact ih.lamp
  | faults _ hf ih => exact ih.faults hf
  | reader _ ih => exact ih.reader
  | clear _ hf ih => exact ih.clear hf
  | lane _ hr ih => exact ih.lane hr

/-- A change of a bay's record within the scope. -/
theorem bay {f : BayRec → BayRec} (h : Work w s t) (hb : w.bays b) (hf : keepsMinute f := by exact fun _ => rfl) :
    Work w s (updBay b f t) := h.any hb hf

theorem onlyIf {c : Bool} {f : State → State} (h : Work w s t) (hf : c = true → Work w s (f t)) :
    Work w s (onlyIf c f t) := by
  cases c with
  | true => exact hf rfl
  | false => exact h

theorem forAllBays {f : Bay → State → State} (hf : ∀ b u, Work w s u → Work w s (f b u)) (h : Work w s t) :
    Work w s (forAllBays f t) := forAllBays_keeps (P := Work w s) hf t h

theorem forBays {f : Bay → State → State} {bs : List Bay} (hf : ∀ b u, Work w s u → Work w s (f b u))
    (h : Work w s t) : Work w s (forBays bs f t) := forBays_keeps (P := Work w s) hf bs t h

theorem foldl {α : Type} {l : List α} {f : State → α → State} (hf : ∀ a u, Work w s u → Work w s (f u a))
    (h : Work w s t) : Work w s (l.foldl f t) := by
  induction l generalizing t with
  | nil => exact h
  | cons a l ih => exact ih (hf a t h)

theorem slot {i : Fin 4} {f : Slot → Slot} (h : Work w s t) : Work w s (updSlot i f t) := h.depot _ _ _ _ _ _ _

theorem visit {f : Visit → Visit} (h : Work w s t) : Work w s (updVisit f t) := h.depot _ _ _ _ _ _ _

end Work

/-! ### What it leaves -/

/-- The Bay Table's part of a bay no scope names, and what goes with it. -/
structure Rests (s t : State) (b : Bay) : Prop where
  table : (t.bay b).table = (s.bay b).table
  profile : (t.bay b).heat.profile = (s.bay b).heat.profile
  quota : (t.bay b).faults.quota = (s.bay b).faults.quota
  clear : (s.bay b).clear.Follows (t.bay b).clear
  failures : (t.bay b).loop.failures = (s.bay b).loop.failures
  poll : (t.bay b).loop.poll = (s.bay b).loop.poll

namespace Rests

variable {s t u : State} {b : Bay}

theorem refl : Rests s s b := ⟨rfl, rfl, rfl, .refl _, rfl, rfl⟩

theorem trans (h : Rests s t b) (k : Rests t u b) : Rests s u b :=
  ⟨k.table.trans h.table, k.profile.trans h.profile, k.quota.trans h.quota, h.clear.trans k.clear,
    k.failures.trans h.failures, k.poll.trans h.poll⟩

/-- A bay whose record is as it was rests. -/
theorem of_bay_eq (h : t.bay b = s.bay b) : Rests s t b := by
  refine ⟨?_, ?_, ?_, ?_, ?_, ?_⟩
  case refine_4 => rw [h]; exact .refl _
  all_goals rw [h]

/-- A change of one bay rests at every bay where it rests at that one. -/
theorem updBay {x : Bay} {f : BayRec → BayRec} (h : b = x → Rests s (updBay x f s) x) : Rests s (updBay x f s) b := by
  by_cases hb : b = x
  · subst hb; exact h rfl
  · exact of_bay_eq (updBay_bay_ne hb f s)

theorem updHeat {x : Bay} {f : HeatRec → HeatRec} (hf : ∀ r, (f r).profile = r.profile) :
    Rests s (updHeat x f s) b := by
  refine updBay fun _ => ?_
  constructor <;> simp [hf, ClearRec.Follows.refl]

theorem updPower {x : Bay} {f : PowerRec → PowerRec} : Rests s (updPower x f s) b := by
  refine updBay fun _ => ?_
  constructor <;> simp [ClearRec.Follows.refl]

theorem updLamp {x : Bay} {f : LampRec → LampRec} : Rests s (updLamp x f s) b := by
  refine updBay fun _ => ?_
  constructor <;> simp [ClearRec.Follows.refl]

theorem updLane {x : Bay} {sort : LoopSort} {f : Lane → Lane} : Rests s (updLane x sort f s) b := by
  unfold Machine.updLane updLoop
  refine updBay fun _ => ?_
  constructor <;> cases sort <;> simp [LoopRec.setLane, ClearRec.Follows.refl]

end Rests

/-- Writing one bay's departure record leaves the others' records. -/
theorem writeDeparture_bay_ne {s : State} {b x : Bay} {d : Departure} (h : b ≠ x) :
    (writeDeparture x d s).bay b = s.bay b :=
  updBay_bay_ne h (fun r => { r with table := { r.table with departure := some d } })
    { s with departures := insertDeparture { bay := x, minute := d.minute } (withoutBay x s.departures) }

/-- Taking away one bay's departure record leaves the others' records. -/
theorem dropDeparture_bay_ne {s : State} {b x : Bay} (h : b ≠ x) : (dropDeparture x s).bay b = s.bay b :=
  updBay_bay_ne h (fun r => { r with table := { r.table with departure := none } })
    { s with departures := withoutBay x s.departures }

theorem Plans.rests {s t : State} (h : Plans s t) (b : Bay) : Rests s t b := by
  induction h with
  | refl => exact .refl
  | heat _ hf ih => exact ih.trans (.updHeat fun r => (hf r).1)
  | power _ _ _ ih => exact ih.trans .updPower
  | told _ _ ih => exact (ih.trans .updPower).trans .updLamp
  | free _ ih => exact ih.trans (.of_bay_eq rfl)
  | join _ _ ih => exact ih.trans .updLane
  | post _ _ ih => exact ih.trans (.of_bay_eq rfl)

theorem Work.rests {w : Scope} {s t : State} (h : Work w s t) {b : Bay} (hb : ¬w.bays b) : Rests s t b := by
  induction h with
  | refl => exact .refl
  | plans _ k ih => exact ih.trans (k.rests b)
  | any _ h _ ih => exact ih.trans (.updBay fun e => absurd (e ▸ h) hb)
  | written _ h ih => exact ih.trans (.of_bay_eq (writeDeparture_bay_ne fun e => hb (by rw [e]; exact h)))
  | dropped _ h ih => exact ih.trans (.of_bay_eq (dropDeparture_bay_ne fun e => hb (by rw [e]; exact h)))
  | heat _ hf _ ih => exact ih.trans (.updHeat hf)
  | power _ _ ih => exact ih.trans .updPower
  | lamp _ ih => exact ih.trans .updLamp
  | faults _ hf ih =>
    refine ih.trans (.updBay fun _ => ?_)
    constructor <;> simp [hf, ClearRec.Follows.refl]
  | reader _ ih =>
    refine ih.trans (.updBay fun _ => ?_)
    constructor <;> simp [ClearRec.Follows.refl]
  | clear _ hf ih =>
    refine ih.trans (.updBay fun _ => ?_)
    constructor <;> simp [hf]
  | lane _ _ ih => exact ih.trans .updLane
  | _ => rename_i ih; exact ih.trans (.of_bay_eq rfl)

end Sys2Proof.Machine
end

section
/-! PROOF. Every operation of the blocks is work of the scope it names: the part of the blocks below the Bay Table. -/

namespace Sys2Proof.Machine

section
variable {w : Scope} {s t : State} {b : Bay}

/-! ### Events, reasons and the pending list -/

/-- An event that is no call may be posted in every scope. -/
theorem Work.news {e : BayEvent} (h : Work w s t) (he : isCall e = false) : Work w s (Machine.post e b t) :=
  h.post fun hc => by rw [he] at hc; exact absurd hc (by decide)

theorem postClearance_work (h : Work w s t) : Work w s (postClearance b t) := h.news rfl

theorem clearanceNews_work {r : Reason} (h : Work w s t) : Work w s (clearanceNews b r t) := by
  unfold clearanceNews
  split
  case h_1 hs => exact postClearance_work (h.clear (.of_stands (by rw [hs]; rfl) rfl))
  case h_2 hs => exact h.clear ⟨rfl, fun h0 => by rw [hs] at h0; exact absurd h0 (by decide), fun h0 => h0⟩
  all_goals exact h

theorem disownLine_work {sort : LoopSort} (h : Work w s t) : Work w s (disownLine b sort t) := h.line

theorem withdrawAll_work {sort : LoopSort} (h : Work w s t) : Work w s (withdrawAll b sort t) :=
  disownLine_work (h.lane (.inr (.inr rfl)))

theorem abandon_work {sort : LoopSort} (h : Work w s t) : Work w s (abandon b sort t) :=
  disownLine_work (h.lane (.inr (.inr rfl)))

theorem askReplacing_work {req : LoopReq} (h : Work w s t) : Work w s (askReplacing b req t) := by
  unfold askReplacing
  split
  · exact h.lane (.inr (.inl ‹_›))
  · exact h

/-! ### The allocator -/

theorem startWatch_work (h : Work w s t) : Work w s (startWatch b t) :=
  h.power (.inr ⟨fun _ => rfl, fun _ hc => hc⟩)

theorem stepEnded_work (h : Work w s t) : Work w s (stepEnded b t) :=
  h.power (.inr ⟨fun _ => rfl, fun _ hc => hc⟩)

theorem increaseEnded_work (h : Work w s t) : Work w s (increaseEnded b t) :=
  ((h.power (.inr (by exact ⟨fun _ => rfl, fun _ hc => hc⟩))).books (by exact fun _ _ hi => hi)).plans (.free .refl)

theorem returnCommanded_work (h : Work w s t) (ho : w.reports b ∨ (t.bay b).table.occ ≠ .lost) :
    Work w s (returnCommanded b t) := by
  obtain hr | ho := ho
  · unfold returnCommanded
    split
    · exact h
    · exact (h.power (.inl hr)).plans (reduceBay_plans .refl)
  · exact h.plans (returnCommanded_plans .refl ho)

theorem increaseRefused_work (h : Work w s t) (ho : w.reports b ∨ (t.bay b).table.occ ≠ .lost) :
    Work w s (increaseRefused b t) := by
  have marked : Work w s (updPower b (fun p => { p with refused := true }) t) :=
    h.power (.inr ⟨fun _ => rfl, fun _ hc => hc⟩)
  refine returnCommanded_work (marked.onlyIf fun _ => marked.news rfl) (ho.imp_right fun ho => ?_)
  unfold onlyIf
  split <;> simpa using ho

theorem stageOutcome_work {increase : Bool} {o : Handed} (h : Work w s t)
    (ho : w.reports b ∨ (t.bay b).table.occ ≠ .lost ∨ o ≠ .refused) : Work w s (stageOutcome b increase o t) := by
  have ended : Work w s (stageEnded b t) := h.plans (stageEnded_plans .refl)
  unfold stageOutcome
  split
  · exact startWatch_work ended
  · exact startWatch_work ended
  · exact ended.plans (askReduction_plans .refl fun _ hc => by simpa [stageEnded] using hc)
  · exact h.plans (stageNotSent_plans .refl)
  · exact startWatch_work ((increaseEnded_work ended).power (.inr ⟨fun _ => rfl, fun _ hc => hc⟩))
  · refine increaseRefused_work (startWatch_work (increaseEnded_work ended)) (ho.imp_right fun ho => ?_)
    simpa [startWatch, increaseEnded, freeIncrease, stageEnded] using ho.resolve_right fun h => h rfl
  · exact increaseEnded_work ended
  · exact h.plans (stageNotSent_plans .refl)

theorem stepBegan_work (h : Work w s t) : Work w s (stepBegan b t) := by
  have held : Work w s (updPower b (fun p => { p with stepHold := true }) t) :=
    h.power (.inr ⟨fun _ => rfl, fun _ hc => hc⟩)
  unfold stepBegan
  dsimp only
  split
  · exact (held.lane (.inr (.inr (by rfl)))).plans (stageNotSent_plans .refl)
  · exact held

theorem allocatorLost_work (h : Work w s t) : Work w s (allocatorLost b t) :=
  (h.power (.inr (by exact ⟨fun _ => rfl, fun _ _ => rfl⟩))).plans (.free .refl)

/-! ### Reservations, slots and visits -/

theorem addReservation_work {o : Holder} (h : Work w s t) : Work w s (addReservation o b t) :=
  h.books fun _ _ hi => hi

theorem joinWaiting_work {o : Holder} (h : Work w s t) : Work w s (joinWaiting o t) := by
  unfold joinWaiting
  split
  · exact h
  · exact h.books fun _ _ hi => hi

theorem leaveWaiting_work {o : Holder} (h : Work w s t) : Work w s (leaveWaiting o t) :=
  h.books fun _ _ hi => hi

theorem dropReservation_work {o : Holder} (h : Work w s t) : Work w s (dropReservation o t) :=
  h.books fun _ _ hi => hi

theorem disownLamp_work (h : Work w s t) : Work w s (disownLamp b t) :=
  disownLine_work (h.lane (.inr (.inr rfl)))

theorem askSample_work {i : Fin 4} (h : Work w s t) : Work w s (askSample i t) := by
  unfold askSample
  split
  · split
    · exact (askReplacing_work h.lamp).slot
    · exact h
  · exact h

theorem stepBegins_work {i : Fin 4} (h : Work w s t) : Work w s (stepBegins i t) := by
  unfold stepBegins
  split
  · split
    · exact askSample_work (disownLamp_work (stepBegan_work h.slot))
    · exact h
  · exact h

theorem slotGranted_work {i : Fin 4} (h : Work w s t) : Work w s (slotGranted i t) := by
  unfold slotGranted
  split
  · exact stepBegins_work h.lamp
  · exact h

theorem askReader_work {req : LoopReq} (h : Work w s t) : Work w s (askReader b req t) :=
  askReplacing_work (h.lane (.inr (.inr rfl)))

theorem visitBegins_work {rest : List Bay} (h : Work w s t) : Work w s (visitBegins b rest t) :=
  askReader_work (h.depot _ _ _ _ _ _ _).reader

theorem grantHolder_work {o : Holder} (h : Work w s t) : Work w s (grantHolder o t) := by
  unfold grantHolder
  split
  · split
    · exact slotGranted_work (addReservation_work h)
    · exact h
  · split
    · exact visitBegins_work (addReservation_work h)
    · exact h

theorem requestPower_work {o : Holder} (h : Work w s t) : Work w s (requestPower o t) := by
  unfold requestPower
  split
  · exact grantHolder_work h
  · exact joinWaiting_work h

theorem passTurn_work {o : Holder} (h : Work w s t) : Work w s (passTurn t o) := by
  unfold passTurn
  split
  · exact grantHolder_work h
  · exact h

theorem grantPass_work (h : Work w s t) : Work w s (grantPass t) := h.foldl fun _ _ => passTurn_work

theorem giveBack_work {o : Holder} (h : Work w s t) : Work w s (giveBack o t) := by
  unfold giveBack
  split
  · exact grantPass_work (dropReservation_work h)
  · exact leaveWaiting_work h

theorem askVisit_work (h : Work w s t) : Work w s (askVisit t) := by
  unfold askVisit
  split
  · exact leaveWaiting_work h
  · split
    · exact h
    · exact requestPower_work h
  · exact h

theorem markQueued_work (h : Work w s t) : Work w s (markQueued b t) := h.onlyIf fun _ => h.reader

theorem placeTail_work (h : Work w s t) : Work w s (placeTail b t) := by
  unfold placeTail
  split
  · split
    · exact askVisit_work (markQueued_work h)
    · exact askVisit_work (markQueued_work (h.depot _ _ _ _ _ _ _))
  · exact h

theorem leaveQueues_work (h : Work w s t) : Work w s (leaveQueues b t) := askVisit_work (h.depot _ _ _ _ _ _ _)

theorem readerResume_work (h : Work w s t) : Work w s (readerResume t) :=
  askVisit_work (Work.visit (Work.forBays (fun _ _ k => k.reader) (h.depot _ _ _ _ _ _ _)))

/-! ### The Fault Pool -/

theorem updEntry_work {source code : Nat} {f : FaultEntry → FaultEntry} (h : Work w s t) :
    Work w s (updEntry b source code f t) := h.faults fun _ => rfl

theorem tellIfBlocks_work {before after : Bool} (h : Work w s t) : Work w s (tellIfBlocks b before after t) :=
  h.onlyIf fun _ => clearanceNews_work h

theorem judgeLow_work (h : Work w s t) : Work w s (judgeLow t) := by
  unfold judgeLow
  split
  · split
    · exact h
    · exact (h.depot _ _ _ _ _ _ _).poolLow
  · exact h.depot _ _ _ _ _ _ _

theorem removeEntries_work {unwanted : FaultEntry → Bool} (h : Work w s t) :
    Work w s (removeEntries b unwanted t) := by
  unfold removeEntries
  dsimp only
  split
  · exact h
  · have removed := judgeLow_work ((h.depot t.lampQueue t.slots
      (t.freeCount + ((t.bay b).faults.list.filter unwanted).length) t.lowFlag t.readerQueue t.suspended t.visit).faults
      (b := b) (f := fun r => { r with
        list := r.list.filter (fun e => !unwanted e)
        revision := (r.revision + ((t.bay b).faults.list.filter unwanted).length) % 256 }) fun _ => rfl)
    exact removed.onlyIf fun _ => readerResume_work removed

theorem mergeInto_work {o : Offer} {e : FaultEntry} (h : Work w s t) : Work w s (mergeInto b o e t) :=
  tellIfBlocks_work ((updEntry_work h).onlyIf fun _ => (updEntry_work h).news rfl)

theorem makeEntry_work {o : Offer} (h : Work w s t) : Work w s (makeEntry b o t) :=
  tellIfBlocks_work (judgeLow_work (((h.depot _ _ _ _ _ _ _).faults (by simp)).news (by rfl)))

theorem displace_work {o : Offer} {old : FaultEntry} (h : Work w s t) : Work w s (displace b o old t) :=
  tellIfBlocks_work ((h.faults (by simp)).news (by rfl))

theorem refuseRecord_work (h : Work w s t) : Work w s (refuseRecord b t) :=
  have refused := h.faults (b := b) (f := fun r => { r with incomplete := true, refusal := true }) fun _ => rfl
  refused.onlyIf fun _ => clearanceNews_work refused

theorem offer_work {o : Offer} (h : Work w s t) : Work w s (offer b o t).1 := by
  unfold offer
  split
  · exact mergeInto_work h
  · split
    · split
      · exact makeEntry_work h
      · split
        · exact h
        · exact refuseRecord_work h
    · split
      · exact displace_work h
      · exact refuseRecord_work h

theorem offerPart_work {source code : Nat} {cls : FaultClass} (h : Work w s t) :
    Work w s (offerPart b source code cls t) := offer_work h

theorem recordStuck_work (h : Work w s t) : Work w s (recordStuck b t) := offerPart_work h

theorem passBegun_work (h : Work w s t) : Work w s (passBegun b t) := h.faults fun _ => rfl

theorem passCompleted_work (h : Work w s t) : Work w s (passCompleted b t) :=
  (removeEntries_work h).faults fun _ => rfl

theorem clearAnswered_work {source code : Nat} {a : ClearAnswer} (h : Work w s t) :
    Work w s (clearAnswered b source code a t) := by
  unfold clearAnswered
  split
  · split
    · split
      · exact removeEntries_work h
      · have told : Work w s (post .faultNew b (updEntry b source code FaultEntry.reactivated t)) :=
          (updEntry_work h).news rfl
        exact told.onlyIf fun _ => clearanceNews_work told
      · exact updEntry_work h
    · exact h
  · exact h

theorem handClear_work {source code : Nat} (h : Work w s t) : Work w s (handClear b source code t) := by
  unfold handClear
  dsimp only
  split
  · exact h.reader
  · exact placeTail_work h.reader

theorem askClear_work {e : FaultEntry} (h : Work w s t) : Work w s (askClear b e t) :=
  handClear_work (tellIfBlocks_work (updEntry_work h))

theorem expireDeferrals_work (h : Work w s t) : Work w s (expireDeferrals b t) := by
  unfold expireDeferrals
  exact Work.onlyIf (h.faults fun _ => rfl) fun _ => clearanceNews_work (h.faults fun _ => rfl)

theorem emptyFaults_work (h : Work w s t) : Work w s (emptyFaults b t) :=
  (removeEntries_work h).faults fun _ => rfl

/-! ### Contactors -/

theorem foundStuck_work (h : Work w s t) : Work w s (foundStuck b t) := by
  have marked : Work w s (post .equipment b (updPower b (fun p => { p with stuck := true, watch := none }) t)) :=
    Work.news (h.power (.inr ⟨fun _ => rfl, fun _ hc => hc⟩)) rfl
  exact clearanceNews_work (marked.onlyIf fun _ => recordStuck_work marked)

theorem watchPoll_work (h : Work w s t) : Work w s (watchPoll b t) := by
  unfold watchPoll
  split
  · exact h
  · split
    · exact h.power (.inr ⟨fun _ => rfl, fun _ hc => hc⟩)
    split
    · exact h.power (.inr ⟨fun _ => rfl, fun _ hc => hc⟩)
    · exact foundStuck_work h

theorem judgeStuckMark_work (h : Work w s t) : Work w s (judgeStuckMark b t) :=
  h.onlyIf fun _ => h.power (.inr ⟨fun _ => rfl, fun _ hc => hc⟩)

theorem reduceExcess_work (h : Work w s t) : Work w s (reduceExcess b t) :=
  h.onlyIf fun _ => h.plans (askReduction_plans .refl fun _ hc => hc)

theorem allocatorCount_work {count : Nat} (h : Work w s t) (hr : w.reports b) :
    Work w s (allocatorCount b count t) :=
  reduceExcess_work (watchPoll_work (judgeStuckMark_work (h.power (.inl hr))))

theorem closedCount_work {count : Nat} (h : Work w s t) (hr : w.reports b) : Work w s (closedCount b count t) :=
  (allocatorCount_work h hr).plans (stoppingToOff_plans .refl)

/-! ### Lamp checks -/

theorem judgeStale_work (h : Work w s t) : Work w s (judgeStale b t) :=
  h.lamp.onlyIf fun _ => clearanceNews_work h.lamp

theorem lampOffFailed_work (h : Work w s t) : Work w s (lampOffFailed b t) := h.lamp

theorem lampOffTaken_work (h : Work w s t) : Work w s (lampOffTaken b t) := h.lamp

theorem askLampOff_work (h : Work w s t) : Work w s (askLampOff b t) := by
  unfold askLampOff
  split
  · exact askReplacing_work h.lamp
  · exact lampOffFailed_work h

theorem lampLeft_work (h : Work w s t) : Work w s (lampLeft b t) :=
  (abandon_work h).onlyIf fun _ => askLampOff_work (abandon_work h)

theorem removeDisproved_work {r : LampStep × Band} (h : Work w s t) : Work w s (removeDisproved b r t) :=
  removeEntries_work h

theorem offerDefect_work {r : LampStep × Band} (h : Work w s t) : Work w s (offerDefect b r t) := by
  unfold offerDefect
  split
  · exact offerPart_work h
  · exact h

theorem writeDefects_work {results : List (LampStep × Band)} (h : Work w s t) :
    Work w s (writeDefects b results t) :=
  (h.foldl fun _ _ => removeDisproved_work).foldl fun _ _ => offerDefect_work

theorem recordResult_work {blocking advisory : Nat} (h : Work w s t) :
    Work w s (recordResult b blocking advisory t) := judgeStale_work h.lamp

theorem completeEmpty_work (h : Work w s t) : Work w s (completeEmpty b t) := (recordResult_work h).news rfl

theorem freeSlot_work {i : Fin 4} (h : Work w s t) : Work w s (freeSlot i t) := h.depot _ _ _ _ _ _ _

theorem completeSlot_work {i : Fin 4} {c : Slot} (h : Work w s t) : Work w s (completeSlot i c t) :=
  (giveBack_work (lampLeft_work (freeSlot_work (writeDefects_work (recordResult_work h))))).news rfl

theorem takeSlot_work {i : Fin 4} (h : Work w s t) : Work w s (takeSlot i b t) :=
  requestPower_work (h.depot _ _ _ _ _ _ _).lamp

theorem takeHead_work (h : Work w s t) : Work w s (takeHead t) := by
  unfold takeHead
  split
  · split
    · exact completeEmpty_work (h.depot _ _ _ _ _ _ _)
    · exact takeSlot_work (h.depot _ _ _ _ _ _ _)
  · exact h

theorem takeHeads_work {n : Nat} (h : Work w s t) : Work w s (takeHeads n t) := by
  induction n generalizing t with
  | zero => exact h
  | succ n ih => exact ih (takeHead_work h)

theorem takeSlots_work (h : Work w s t) : Work w s (takeSlots t) := takeHeads_work h

theorem joinLampQueue_work (h : Work w s t) : Work w s (joinLampQueue b t) := h.depot _ _ _ _ _ _ _

theorem startCheck_work {plan : Nat} (h : Work w s t) : Work w s (startCheck b plan t) := by
  unfold startCheck
  dsimp only
  split
  · exact completeEmpty_work (clearanceNews_work h.lamp)
  · exact takeSlots_work (joinLampQueue_work (clearanceNews_work h.lamp)).lamp

theorem autoCheck_work (h : Work w s t) : Work w s (autoCheck b t) := by
  unfold autoCheck
  split
  · split
    · exact startCheck_work h
    · exact h
  · exact h

theorem abortSlot_work {i : Fin 4} {c : Slot} (h : Work w s t) : Work w s (abortSlot i c t) :=
  giveBack_work (lampLeft_work (freeSlot_work (h.onlyIf fun _ => stepEnded_work h)))

theorem abortCheck_work {check : CheckState} (h : Work w s t) : Work w s (abortCheck b check t) := by
  unfold abortCheck
  dsimp only
  split
  · split
    · split
      · exact takeSlots_work (abortSlot_work h.lamp)
      · exact h.lamp
    · exact h.lamp.depot _ _ _ _ _ _ _
  · exact h

theorem lampCleanup_work (h : Work w s t) : Work w s (lampCleanup b t) := (abortCheck_work h).lamp

theorem lampPowerWithdrawn_work {i : Fin 4} (h : Work w s t) : Work w s (lampPowerWithdrawn i t) := by
  unfold lampPowerWithdrawn
  split
  · dsimp only
    split
    · exact askLampOff_work (disownLamp_work (stepEnded_work h.lamp.slot))
    · exact h.lamp.slot
  · exact h

theorem nextSample_work {i : Fin 4} (h : Work w s t) : Work w s (nextSample i t) := h.slot

theorem decideStep_work {i : Fin 4} {c : Slot} {st : LampStep} {band : Band} (h : Work w s t) :
    Work w s (decideStep i c st band t) := by
  unfold decideStep
  dsimp only
  split
  · exact takeSlots_work (completeSlot_work (stepEnded_work h.slot))
  split
  · exact askLampOff_work (stepEnded_work h.slot)
  · exact stepBegins_work (lampOffFailed_work (stepEnded_work h.slot))

theorem validSample_work {i : Fin 4} {c : Slot} {st : LampStep} {reading : Option Nat} (h : Work w s t) :
    Work w s (validSample i c st reading t) := by
  unfold validSample
  dsimp only
  split
  · exact decideStep_work h
  split
  · exact decideStep_work h
  · exact nextSample_work h.slot

theorem takeSample_work {i : Fin 4} {outcome : Option (Option Nat)} (h : Work w s t) :
    Work w s (takeSample i outcome t) := by
  unfold takeSample
  split
  · split
    · split
      · exact nextSample_work h
      · exact validSample_work h
    · exact nextSample_work h
    · exact h
  · exact h

theorem sampleOutcome_work {wanted : Bool} {o : Handed} {reading : Option Nat} (h : Work w s t) :
    Work w s (sampleOutcome b wanted o reading t) := by
  unfold sampleOutcome
  split
  · exact takeSample_work h
  · exact h

theorem litAfterOff_work {o : Handed} (h : Work w s t) : Work w s (litAfterOff b o t) := by
  cases o
  · exact lampOffTaken_work h
  · exact lampOffTaken_work h
  · exact lampOffFailed_work h
  · exact lampOffFailed_work h

theorem nextStep_work (h : Work w s t) : Work w s (nextStep b t) := by
  unfold nextStep
  split
  · split
    · split
      · exact stepBegins_work h
      · exact h
    · exact h
  · exact h

theorem lampOffOutcome_work {wanted : Bool} {o : Handed} (h : Work w s t) :
    Work w s (lampOffOutcome b wanted o t) :=
  (litAfterOff_work h).onlyIf fun _ => nextStep_work (litAfterOff_work h)

theorem restartSlot_work {n : Nat} {i : Fin 4} (h : Work w s t) : Work w s (restartSlot n i t) := by
  unfold restartSlot
  split
  · split
    · dsimp only
      split
      · exact completeSlot_work h.slot
      · exact h.slot
    · exact h
  · exact h

/-! ### Visits ended from outside -/

theorem cutVisit_work (h : Work w s t) : Work w s (cutVisit b t) := withdrawAll_work (h.depot _ _ _ _ _ _ _)

theorem endVisitOutside_work (h : Work w s t) : Work w s (endVisitOutside b t) := by
  unfold endVisitOutside
  split
  · exact giveBack_work (cutVisit_work h)
  · exact h

theorem partingSleep_work (h : Work w s t) : Work w s (partingSleep b t) := by
  unfold partingSleep
  split
  · exact h.lane (.inr (.inl ‹_›))
  · exact h

theorem placeHead_work (h : Work w s t) : Work w s (placeHead b t) := by
  unfold placeHead
  split
  · exact markQueued_work (h.depot _ _ _ _ _ _ _)
  · exact h

theorem visitWithdrawn_work (h : Work w s t) : Work w s (visitWithdrawn t) := by
  unfold visitWithdrawn
  split
  · exact askVisit_work (partingSleep_work (placeHead_work (cutVisit_work h)).reader)
  · exact h

theorem readerLost_work (h : Work w s t) : Work w s (readerLost b t) :=
  leaveQueues_work (endVisitOutside_work h).reader

theorem readerRelease_work (h : Work w s t) : Work w s (readerRelease b t) :=
  leaveQueues_work ((endVisitOutside_work h).onlyIf fun _ => partingSleep_work (endVisitOutside_work h))

theorem readerReleaseEnded_work (h : Work w s t) : Work w s (readerReleaseEnded b t) :=
  h.onlyIf fun _ => placeTail_work h

theorem readerCleanup_work (h : Work w s t) : Work w s (readerCleanup b t) :=
  leaveQueues_work (endVisitOutside_work h).reader

theorem readerCleanupInVisit_work (h : Work w s t) : Work w s (readerCleanupInVisit b t) :=
  leaveQueues_work h.reader

theorem needsReading_work (h : Work w s t) : Work w s (needsReading b t) := placeTail_work h.reader

/-! ### The Clearance Unit -/

/-- A clearance that relatches, its holds, state and relatch mark aside. -/
theorem ClearRec.Follows.of_relatch {c c' : ClearRec} (h : c.relatch = true) (hh : c'.holds = c.holds)
    (hs : c'.state = c.state) : c.Follows c' :=
  ⟨hh, fun h0 => ⟨hs.trans h0, fun hr => by rw [h] at hr; exact absurd hr (by decide)⟩, fun h0 => by rw [hs]; exact h0⟩

/-- A bay in release holds a clearance that stands. -/
theorem stands_of_inRelease (h : inRelease t b = true) : (t.bay b).clear.state.stands = true := by
  unfold inRelease at h
  split at h <;> simp_all [ClearState.stands]

theorem withdrawOpen_work (h : Work w s t) : Work w s (withdrawOpen b t) := h.lane (.inr (.inr rfl))

theorem disownOpen_work (h : Work w s t) : Work w s (disownOpen b t) := h.line

theorem joinLatch_work {open_ : Bool} (h : Work w s t) (hr : reachable t b = true) : Work w s (joinLatch b open_ t) :=
  h.lane (.inr (.inl hr))

/-- What a clearance change leaves of whether a bay can be reached. -/
theorem reachable_updClear {f : ClearRec → ClearRec} : reachable (updClear b f t) b = reachable t b :=
  reachable_congr (by simp)

theorem askOpen_work (h : Work w s t) (hs : (t.bay b).clear.state.stands = true) : Work w s (askOpen b t) := by
  unfold askOpen
  dsimp only
  split
  · exact joinLatch_work (h.clear (.of_stands hs rfl)) (reachable_updClear.trans ‹_›)
  · exact h.clear (.of_stands hs rfl)

theorem askClose_work (h : Work w s t) (hr : (t.bay b).clear.relatch = true) : Work w s (askClose b t) := by
  unfold askClose
  split
  · exact joinLatch_work (h.clear (.of_relatch hr rfl rfl)) (reachable_updClear.trans ‹_›)
  · exact h.clear (.of_relatch hr rfl rfl)

theorem stopHeat_work (h : Work w s t) (hs : (t.bay b).clear.state.stands = true) : Work w s (stopHeat b t) :=
  h.clear (.of_stands hs rfl)

/-- Two changes of one clearance record are one. -/
theorem updClear_updClear (f g : ClearRec → ClearRec) : updClear b f (updClear b g t) = updClear b (f ∘ g) t := by
  simp [updClear, updBay, State.bay]

theorem beginRelease_work (h : Work w s t) (hs : (t.bay b).clear.state = .cleared) :
    Work w s (beginRelease b t) := by
  have released : Work w s (stopHeat b (updClear b (fun c => { c with state := .releasing, validityFrom := none }) t)) := by
    unfold stopHeat
    rw [updClear_updClear]
    exact h.clear (.of_stands (by rw [hs]; rfl) rfl)
  exact readerRelease_work (abortCheck_work ((postClearance_work released).plans (heatWithdrawn_plans .refl)))

/-- The record of a release that ends, and its relatch. -/
theorem relatchAfter_ended_work {open_ : Bool} {state : ClearState} {reasons : ReasonSet} (h : Work w s t)
    (hs : inRelease t b = true) :
    Work w s (relatchAfter open_ b (updClear b (ClearRec.ended state reasons) t)) := by
  have hs := stands_of_inRelease hs
  unfold relatchAfter
  split
  · have hr : reachable t b = true := by
      rw [Bool.and_eq_true, reachable_updClear] at *
      exact (‹_ ∧ _› : _ ∧ _).2
    unfold askClose
    rw [if_pos (by rw [reachable_updClear, reachable_updClear]; exact hr), updClear_updClear, updClear_updClear]
    exact joinLatch_work (h.clear (.of_stands hs rfl)) (reachable_updClear.trans hr)
  · exact h.clear (.of_stands hs rfl)

theorem endRelease_work {state : ClearState} {reasons : ReasonSet} (h : Work w s t) (hs : inRelease t b = true) :
    Work w s (endRelease b state reasons t) :=
  readerReleaseEnded_work
    ((postClearance_work (disownOpen_work (withdrawOpen_work (relatchAfter_ended_work h hs)))).plans
      (judgePlan_plans .refl))

/-- A RELEASING or RELEASED clearance is in release. -/
theorem inRelease_of_state (h : (t.bay b).clear.state = .releasing ∨ (t.bay b).clear.state = .released) :
    inRelease t b = true := by
  unfold inRelease
  obtain h | h := h <;> rw [h]

theorem clearanceCount_work {count : Nat} (h : Work w s t) : Work w s (clearanceCount b count t) := by
  unfold clearanceCount
  split
  case h_1 hs _ =>
    split
    · exact askOpen_work (h.clear (.of_stands (by rw [hs]; rfl) rfl)) (by simp [hs, ClearState.stands])
    · exact h
  case h_2 hs _ =>
    split
    · exact stopHeat_work (withdrawOpen_work h) (by simp [withdrawOpen, updLane, hs, ClearState.stands])
    · exact h
  · exact h

theorem clearanceLatch_work {latch : Latch} (h : Work w s t) : Work w s (clearanceLatch b latch t) := by
  unfold clearanceLatch
  split
  case h_1 hs _ _ => exact postClearance_work (h.clear (.of_stands (by rw [hs]; rfl) rfl))
  · exact h

theorem openOutcome_work {o : Handed} (h : Work w s t) (hs : (t.bay b).clear.state = .releasing) :
    Work w s (openOutcome b o t) := by
  have stands : (t.bay b).clear.state.stands = true := by rw [hs]; rfl
  unfold openOutcome
  split
  · exact h.clear (.of_stands stands rfl)
  · exact endRelease_work (h.news rfl) (inRelease_of_state (.inl hs))
  · split
    · exact askOpen_work h stands
    · exact stopHeat_work h stands
  · exact h

theorem closeOutcome_work {o : Handed} (h : Work w s t) (hr : (t.bay b).clear.relatch = true) :
    Work w s (closeOutcome b o t) := by
  have follows : ∀ f : ClearRec → ClearRec, (∀ c, (f c).holds = c.holds ∧ (f c).state = c.state) →
      Work w s (updClear b f t) := fun f hf => h.clear (.of_relatch hr (hf _).1 (hf _).2)
  unfold closeOutcome
  split
  · exact follows _ fun _ => ⟨rfl, rfl⟩
  · exact askClose_work h hr
  · have refused := follows (fun c => { c with relatchRefused := true, relatchAt := some (t.time + relatchDelay) })
      fun _ => ⟨rfl, rfl⟩
    exact refused.onlyIf fun _ => refused.news rfl
  · exact follows _ fun _ => ⟨rfl, rfl⟩

theorem latchOutcome_work {open_ wanted : Bool} {o : Handed} (h : Work w s t) :
    Work w s (latchOutcome b open_ wanted o t) := by
  unfold latchOutcome
  split
  · split
    case isTrue hs => exact openOutcome_work h hs.2.1
    · exact h
  · split
    · exact closeOutcome_work h ‹_›
    · exact h

theorem validityExpires_work (h : Work w s t) (hs : (t.bay b).clear.state = .cleared) :
    Work w s (validityExpires b t) := postClearance_work (h.clear (.of_stands (by rw [hs]; rfl) rfl))

theorem stopLimitExpires_work (h : Work w s t) (hs : inRelease t b = true) : Work w s (stopLimitExpires b t) := by
  have stuck : Work w s (updPower b (fun p => { p with stuck := true }) (endRelease b .revoked (only .equipment) t)) :=
    (endRelease_work h hs).power (.inr ⟨fun _ => rfl, fun _ hc => hc⟩)
  exact recordStuck_work (stuck.news rfl)

theorem latchLimitExpires_work (h : Work w s t) (hs : inRelease t b = true) : Work w s (latchLimitExpires b t) :=
  endRelease_work (h.news rfl) hs

theorem windowExpires_work (h : Work w s t) (hs : inRelease t b = true) : Work w s (windowExpires b t) :=
  endRelease_work h hs

theorem withdrawClearance_work (h : Work w s t) : Work w s (withdrawClearance b t) := by
  unfold withdrawClearance
  split
  · exact endRelease_work h ‹_›
  split
  · exact h
  case isFalse hi =>
    exact postClearance_work (h.clear ⟨rfl, fun h0 => absurd h0 hi, fun _ => rfl⟩)

theorem clearanceLost_work (h : Work w s t) : Work w s (clearanceLost b t) := by
  unfold clearanceLost
  split
  case h_1 hs => exact endRelease_work h (inRelease_of_state (.inl hs))
  case h_2 hs => exact endRelease_work h (inRelease_of_state (.inr hs))
  case h_3 => exact clearanceNews_work h
  case h_4 => exact clearanceNews_work h
  all_goals exact h

theorem holdPlaced_work (h : Work w s t) : Work w s (holdPlaced b t) := by
  unfold holdPlaced
  split
  case h_1 hs => exact endRelease_work h (inRelease_of_state (.inl hs))
  case h_2 => exact clearanceNews_work h
  case h_3 => exact clearanceNews_work h
  all_goals exact h

end

end Sys2Proof.Machine
end

section
/-! PROOF. Every operation of the Bay Table, the visits, the supply and the loop is work of the scope it names. -/

namespace Sys2Proof.Machine

section
variable {w : Scope} {s t : State} {b : Bay}

/-! ### Departures and the Bay Table -/

theorem Work.table {f : TableRec → TableRec} (h : Work w s t) (hb : w.bays b)
    (hf : ∀ r, (f r).departure.map Departure.minute = r.departure.map Departure.minute := by exact fun _ => rfl) :
    Work w s (updTable b f t) := h.any hb fun _ => hf _

theorem testMismatch_work (h : Work w s t) : Work w s (testMismatch b t) := h.onlyIf fun _ => h.news rfl

theorem writeDeparture_work {d : Departure} (h : Work w s t) (hb : w.bays b) : Work w s (writeDeparture b d t) :=
  h.written hb

theorem dropDeparture_work (h : Work w s t) (hb : w.bays b) : Work w s (dropDeparture b t) :=
  h.dropped hb

theorem removeDeparture_work (h : Work w s t) (hb : w.bays b) : Work w s (removeDeparture b t) := by
  unfold removeDeparture
  split
  · exact (dropDeparture_work h hb).plans (recompute_plans .refl)
  · exact h

theorem judgeOverdue_work (h : Work w s t) (hb : w.bays b) : Work w s (judgeOverdue b t) := by
  unfold judgeOverdue
  split
  · exact Work.news ((h.table hb (by intro r; rw [Option.map_map]; rfl)).revised hb) rfl
  · exact h

theorem replaceDeparture_work {d : Departure} (h : Work w s t) (hb : w.bays b) :
    Work w s (replaceDeparture b d t) :=
  judgeOverdue_work
    (testMismatch_work (clearanceNews_work
      ((writeDeparture_work h hb).plans (recompute_plans (heatDepartureSet_plans .refl))))) hb

theorem cancelDeparture_work (h : Work w s t) (hb : w.bays b) : Work w s (cancelDeparture b t) :=
  clearanceNews_work ((dropDeparture_work h hb).plans (recompute_plans (heatWithdrawn_plans .refl)))

theorem cleanupReader_work {carryVisit : Bool} (h : Work w s t) : Work w s (cleanupReader carryVisit b t) := by
  unfold cleanupReader
  split
  · exact readerCleanupInVisit_work h
  · exact readerCleanup_work h

theorem clearanceCleanup_work (h : Work w s t) (hb : w.bays b) : Work w s (clearanceCleanup b t) := by
  have emptied : Work w s
      (updClear b (fun _ => .reset)
        (disownOpen b (withdrawOpen b (onlyIf (!(t.bay b).clear.holds.isEmpty) (post .hold b) t)))) :=
    (disownOpen_work (withdrawOpen_work (h.onlyIf fun _ => h.news rfl))).bay hb
  exact emptied.onlyIf fun _ => postClearance_work emptied

theorem heatCleanup_work (h : Work w s t) (hb : w.bays b) : Work w s (heatCleanup b t) := by
  have bare : Work w s (updHeat b (fun r => { r with profile := none }) t) := h.bay hb
  unfold heatCleanup
  refine Work.plans ?_ (setDemand_plans (clearHeatFlags_plans .refl))
  split
  case h_4 => exact bare.plans (enterOff_plans .refl)
  case h_5 => exact bare
  case h_6 => exact bare
  all_goals exact bare.plans (enterStopping_plans .refl)

theorem vacancyCleanup_work {keepDeparture carryVisit : Bool} (h : Work w s t) (hb : w.bays b) :
    Work w s (vacancyCleanup keepDeparture carryVisit b t) := by
  have cold := heatCleanup_work ((lampCleanup_work (b := b) (clearanceCleanup_work
    (cleanupReader_work (b := b) (carryVisit := carryVisit) (emptyFaults_work (b := b) h)) hb)).table hb
      (f := fun t => { t with identity := none, lampPlan := none, recovery := false })) hb
  exact cold.onlyIf fun _ => removeDeparture_work cold hb

theorem departs_work {kind : DepartureKind} {keepDeparture carryVisit : Bool} (h : Work w s t) (hb : w.bays b)
    (hd : w.calls .departed) : Work w s (departs kind keepDeparture carryVisit b t) :=
  vacancyCleanup_work (Work.post (h.table hb) fun _ => hd) hb

theorem becomeVacant_work (h : Work w s t) (hb : w.bays b) : Work w s (becomeVacant b t) := h.table hb

theorem cleanDeparture_work (h : Work w s t) (hb : w.bays b) (hd : w.calls .departed) :
    Work w s (cleanDeparture b t) := becomeVacant_work (departs_work h hb hd) hb

theorem unreleasedDeparture_work (h : Work w s t) (hb : w.bays b) (hd : w.calls .departed) :
    Work w s (unreleasedDeparture b t) := becomeVacant_work (departs_work h hb hd) hb

theorem becomeArriving_work (h : Work w s t) (hb : w.bays b) (ha : w.calls .arrival) :
    Work w s (becomeArriving b t) :=
  needsReading_work (Work.post ((h.table hb).bay hb) fun _ => ha)

theorem becomePresent_work {identity : Option Identity} (h : Work w s t) (hb : w.bays b) :
    Work w s (becomePresent b identity t) := (h.table hb).news rfl

theorem copyProfile_work {coachType : Nat} (h : Work w s t) (hb : w.bays b) :
    Work w s (copyProfile b coachType t) := by
  unfold copyProfile
  split
  · exact h.bay hb
  · exact h

theorem identified_work {i : Identity} (h : Work w s t) (hb : w.bays b) : Work w s (identified b i t) :=
  testMismatch_work (autoCheck_work ((copyProfile_work (becomePresent_work h hb) hb).plans (judgePlan_plans .refl)))

theorem unidentified_work (h : Work w s t) (hb : w.bays b) : Work w s (unidentified b t) :=
  testMismatch_work (autoCheck_work (becomePresent_work h hb))

theorem otherCoach_work {carryVisit : Bool} (h : Work w s t) (hb : w.bays b) (hd : w.calls .departed)
    (ha : w.calls .arrival) : Work w s (otherCoach carryVisit b t) :=
  (departs_work h hb hd).post fun _ => ha

theorem sameCoach_work (h : Work w s t) (hb : w.bays b) : Work w s (sameCoach b t) :=
  testMismatch_work (autoCheck_work
    (((h.table hb).news rfl).reader.plans (enterOff_plans .refl)))

theorem takeIdentity_work {identity : Option Identity} (h : Work w s t) (hb : w.bays b) :
    Work w s (takeIdentity b identity t) := by
  unfold takeIdentity
  split
  · exact identified_work h hb
  · exact unidentified_work h hb

theorem recoveredIdentity_work {identity : Option Identity} (h : Work w s t) (hb : w.bays b)
    (hd : w.calls .departed) (ha : w.calls .arrival) : Work w s (recoveredIdentity b identity t) := by
  unfold recoveredIdentity
  split
  · split
    · exact sameCoach_work h hb
    · exact takeIdentity_work (otherCoach_work h hb hd ha) hb
  · exact takeIdentity_work (otherCoach_work h hb hd ha) hb

theorem identityRead_work {fleet coachType : Nat} (h : Work w s t) (hb : w.bays b) (hd : w.calls .departed)
    (ha : w.calls .arrival) : Work w s (identityRead b fleet coachType t) := by
  unfold identityRead
  split
  · split
    · exact recoveredIdentity_work h hb hd ha
    · exact takeIdentity_work h hb
  · exact takeIdentity_work h hb
  all_goals exact h

theorem identityFailed_work (h : Work w s t) (hb : w.bays b) (hd : w.calls .departed) (ha : w.calls .arrival) :
    Work w s (identityFailed b t) := by
  unfold identityFailed
  split
  · split
    · exact unidentified_work (otherCoach_work h hb hd ha).reader hb
    · exact unidentified_work h hb
  · exact unidentified_work h hb
  all_goals exact h

theorem storePolled_work {plug : Plug} {latch : Latch} (h : Work w s t) (hb : w.bays b) :
    Work w s (storePolled b plug latch t) := h.table hb

theorem plugTransition_work (h : Work w s t) (hb : w.bays b) (hd : w.calls .departed) (ha : w.calls .arrival) :
    Work w s (plugTransition b t) := by
  unfold plugTransition
  split
  · exact becomeArriving_work h hb ha
  · exact unreleasedDeparture_work h hb hd
  · split
    · exact cleanDeparture_work h hb hd
    · exact unreleasedDeparture_work h hb hd
  all_goals exact h

theorem countPlug_work {plug : Plug} (h : Work w s t) (hb : w.bays b) (hd : w.calls .departed)
    (ha : w.calls .arrival) : Work w s (countPlug b plug t) := by
  unfold countPlug
  split
  · split
    · exact plugTransition_work (h.table hb) hb hd ha
    · exact h.table hb
  · exact h.table hb

theorem tablePoll_work {plug : Plug} {latch : Latch} (h : Work w s t) (hb : w.bays b) (hd : w.calls .departed)
    (ha : w.calls .arrival) : Work w s (tablePoll b plug latch t) :=
  countPlug_work (storePolled_work h hb) hb hd ha

theorem sweepAnswered_work {plug : Plug} {latch : Latch} (h : Work w s t) (hb : w.bays b)
    (ha : w.calls .arrival) : Work w s (sweepAnswered b plug latch t) := by
  unfold sweepAnswered
  cases plug
  · exact becomeVacant_work (storePolled_work (h.table hb) hb) hb
  · exact becomeArriving_work (storePolled_work (h.table hb) hb) hb ha

theorem sweepFailed_work (h : Work w s t) (hb : w.bays b) (hl : w.calls .nodeLost) : Work w s (sweepFailed b t) :=
  (h.table hb).post fun _ => hl

theorem probeOut_work (h : Work w s t) (hb : w.bays b) (hd : w.calls .departed) : Work w s (probeOut b t) := by
  unfold probeOut
  split
  · exact becomeVacant_work (departs_work h hb hd) hb
  · exact becomeVacant_work h hb

theorem probeIn_work (h : Work w s t) (hb : w.bays b)
    (ha : (t.bay b).table.beforeLoss ≠ some .present → (t.bay b).table.beforeLoss ≠ some .arriving →
      w.calls .arrival) : Work w s (probeIn b t) := by
  unfold probeIn
  split
  · exact needsReading_work (h.table hb)
  · exact needsReading_work (h.table hb)
  case h_3 hp hr => exact becomeArriving_work h hb (ha hp hr)

theorem probeAnswered_work {plug : Plug} {latch : Latch} (h : Work w s t) (hb : w.bays b)
    (hn : w.calls .nodeBack) (hd : plug = .out → w.calls .departed)
    (ha : plug = .in_ → (t.bay b).table.beforeLoss ≠ some .present → (t.bay b).table.beforeLoss ≠ some .arriving →
      w.calls .arrival) : Work w s (probeAnswered b plug latch t) := by
  have back : Work w s (post .nodeBack b (storePolled b plug latch t)) := (storePolled_work h hb).post fun _ => hn
  have hl : ((post .nodeBack b (storePolled b plug latch t)).bay b).table.beforeLoss = (t.bay b).table.beforeLoss := by
    have : (post .nodeBack b (storePolled b plug latch t)).bay b = (storePolled b plug latch t).bay b := rfl
    rw [this]; simp [storePolled]
  unfold probeAnswered
  cases plug
  · exact probeOut_work back hb (hd rfl)
  · exact probeIn_work back hb (by rw [hl]; exact ha rfl)

theorem bayLost_work (h : Work w s t) (hb : w.bays b) (hl : w.calls .nodeLost) : Work w s (bayLost b t) :=
  clearanceLost_work (readerLost_work (abortCheck_work
    ((allocatorLost_work (Work.post (h.table hb) fun _ => hl)).plans (heatLost_plans .refl))))

theorem entryNotSent_work {e : Entry} (h : Work w s t) : Work w s (entryNotSent b e t) := by
  unfold entryNotSent
  split
  · exact stageOutcome_work h (.inr (.inr (by decide)))
  · exact latchOutcome_work h
  · exact sampleOutcome_work h
  · exact lampOffOutcome_work h
  all_goals exact h

theorem dropPending_work (h : Work w s t) (hb : w.bays b) : Work w s (dropPending b t) :=
  Work.foldl (fun _ _ => entryNotSent_work) (h.bay hb)

theorem becomeOutOfService_work (h : Work w s t) (hb : w.bays b) : Work w s (becomeOutOfService b t) :=
  (dropPending_work (Work.bay (Work.table (removeDeparture_work h hb) hb) hb) hb).plans (heatOutOfService_plans .refl)

theorem takeOutOfService_work (h : Work w s t) (hb : w.bays b) (hd : holdsCoach t b = true → w.calls .departed) :
    Work w s (takeOutOfService b t) := by
  unfold takeOutOfService
  split
  · exact h
  split
  · exact becomeOutOfService_work (departs_work h hb (hd ‹_›)) hb
  · exact becomeOutOfService_work h hb

theorem bringIntoService_work (h : Work w s t) (hb : w.bays b) : Work w s (bringIntoService b t) := by
  unfold bringIntoService setPoll updLoop
  split
  · exact Work.bay (allocatorLost_work (h.table hb)) hb
  · exact h

theorem setOverride_work {o : Option Nat} (h : Work w s t) (hb : w.bays b) : Work w s (setOverride b o t) :=
  Work.onlyIf (h.table hb) fun _ => autoCheck_work (h.table hb)

/-! ### The visit, phase by phase -/

theorem enterPhase_work {phase : VisitPhase} {req : LoopReq} (h : Work w s t) :
    Work w s (enterPhase b phase req t) := askReader_work h.visit

theorem goSleep_work (h : Work w s t) : Work w s (goSleep b t) := enterPhase_work h

theorem visitFails_work (h : Work w s t) : Work w s (visitFails b t) := goSleep_work h.visit

theorem progress_work (h : Work w s t) : Work w s (progress b t) := h.reader

theorem nextClear_work (h : Work w s t) : Work w s (nextClear b t) := by
  unfold nextClear
  split
  · exact enterPhase_work h
  · split
    · exact enterPhase_work h
    · exact goSleep_work h

theorem afterWake_work (h : Work w s t) : Work w s (afterWake b t) := by
  unfold afterWake
  split
  · exact enterPhase_work h
  · exact nextClear_work h

theorem fetchNext_work (h : Work w s t) : Work w s (fetchNext b t) := by
  unfold fetchNext
  split
  · split
    · exact (enterPhase_work h).visit
    · exact goSleep_work h
  · exact h

theorem passCompletes_work (h : Work w s t) : Work w s (passCompletes b t) :=
  goSleep_work (Work.news (passCompleted_work h).reader rfl)

theorem fetchOrComplete_work (h : Work w s t) : Work w s (fetchOrComplete b t) := by
  unfold fetchOrComplete
  split
  · exact passCompletes_work h
  · exact fetchNext_work h

theorem wakeDone_work (h : Work w s t) : Work w s (wakeDone t) := h.visit

theorem clearTaken_work {source code : Nat} {a : ClearAnswer} (h : Work w s t) :
    Work w s (clearTaken b source code a t) := clearAnswered_work h.reader

theorem snapshotDone_work {count generation : Nat} (h : Work w s t) :
    Work w s (snapshotDone b count generation t) :=
  fetchOrComplete_work (Work.onlyIf (progress_work h).reader fun _ => passBegun_work (progress_work h).reader)

theorem suspendVisit_work (h : Work w s t) : Work w s (suspendVisit b t) := goSleep_work h.reader.visit

theorem fetchedRecord_work {o : Offer} (h : Work w s t) : Work w s (fetchedRecord b o t) := by
  have offered := offer_work (b := b) (o := o) h
  unfold fetchedRecord
  split <;> rename_i heq <;> rw [heq] at offered
  · exact suspendVisit_work offered
  all_goals exact fetchOrComplete_work offered.reader

theorem fetchDone_work {o : Offer} {generation : Nat} (h : Work w s t) :
    Work w s (fetchDone b o generation t) := by
  unfold fetchDone
  dsimp only
  split
  · exact fetchedRecord_work (progress_work h)
  · exact enterPhase_work (progress_work h)

theorem identDone_work {fleet coachType : Nat} (h : Work w s t) (hb : w.bays b) (hd : w.calls .departed)
    (ha : w.calls .arrival) : Work w s (identDone b fleet coachType t) :=
  nextClear_work (identityRead_work (progress_work h).reader hb hd ha).reader

theorem dropClears_work (h : Work w s t) : Work w s (dropClears b t) := h.foldl fun _ _ => clearTaken_work

theorem visitsExhausted_work (h : Work w s t) (hb : w.bays b) (hd : w.calls .departed) (ha : w.calls .arrival) :
    Work w s (visitsExhausted b t) :=
  Work.onlyIf (dropClears_work h.reader) fun _ => identityFailed_work (dropClears_work h.reader) hb hd ha

theorem placeIfWanted_work (h : Work w s t) : Work w s (placeIfWanted b t) := h.onlyIf fun _ => placeTail_work h

theorem failedVisitEnds_work (h : Work w s t) (hb : w.bays b) (hd : w.calls .departed) (ha : w.calls .arrival) :
    Work w s (failedVisitEnds b t) := by
  unfold failedVisitEnds
  split
  · exact placeIfWanted_work h.reader
  · exact visitsExhausted_work h hb hd ha

theorem suspendedVisitEnds_work (h : Work w s t) : Work w s (suspendedVisitEnds b t) := by
  unfold suspendedVisitEnds
  split
  · exact h.depot _ _ _ _ _ _ _
  · exact placeTail_work h

/-- The visit that ends has given its reservation back. -/
theorem visitLeft_work (h : Work w s t) : Work w s (giveBack .reader { t with visit := none }) :=
  giveBack_work (h.depot _ _ _ _ _ _ _)

theorem visitEnds_work {v : Visit} (h : Work w s t)
    (hv : v.failed = true → w.bays v.bay ∧ w.calls .departed ∧ w.calls .arrival) : Work w s (visitEnds v t) := by
  unfold visitEnds
  refine askVisit_work ?_
  split
  case isTrue hf =>
    obtain ⟨hb, hd, ha⟩ := hv hf
    exact failedVisitEnds_work (visitLeft_work h) hb hd ha
  · split
    · exact suspendedVisitEnds_work (visitLeft_work h)
    · exact placeIfWanted_work (visitLeft_work h)

theorem readerNotDone_work {req : LoopReq} {v : Visit} (h : Work w s t)
    (hv : v.failed = true → w.bays v.bay ∧ w.calls .departed ∧ w.calls .arrival) :
    Work w s (readerNotDone b req v t) := by
  unfold readerNotDone
  split
  · exact visitEnds_work h hv
  · exact visitFails_work h

theorem readerDone_work {req : LoopReq} {reply : ReaderReply} {v : Visit} (h : Work w s t) (hb : w.bays b)
    (hd : w.calls .departed) (ha : w.calls .arrival) (hv : v.bay = b) : Work w s (readerDone b req reply v t) := by
  unfold readerDone
  split
  · exact wakeDone_work h
  · exact identDone_work h hb hd ha
  · exact nextClear_work (clearTaken_work (progress_work h))
  · exact snapshotDone_work h
  · exact fetchDone_work h
  · exact visitEnds_work h fun _ => ⟨hv ▸ hb, hd, ha⟩
  · exact h

theorem visitOutcome_work {req : LoopReq} {o : Handed} {reply : ReaderReply} {v : Visit} (h : Work w s t)
    (hb : w.bays b) (hd : w.calls .departed) (ha : w.calls .arrival) (hv : v.bay = b) :
    Work w s (visitOutcome b req o reply v t) := by
  cases o
  · exact readerDone_work h hb hd ha hv
  · exact readerNotDone_work h fun _ => ⟨hv ▸ hb, hd, ha⟩
  · exact readerNotDone_work h fun _ => ⟨hv ▸ hb, hd, ha⟩
  · exact h

theorem lateOutcome_work {req : LoopReq} {o : Handed} {reply : ReaderReply} (h : Work w s t) :
    Work w s (lateOutcome b req o reply t) := by
  unfold lateOutcome
  split
  · exact clearTaken_work h
  · exact h

theorem readerOutcome_work {req : LoopReq} {wanted : Bool} {o : Handed} {reply : ReaderReply} (h : Work w s t)
    (hb : w.bays b) (hd : w.calls .departed) (ha : w.calls .arrival) :
    Work w s (readerOutcome b req wanted o reply t) := by
  unfold readerOutcome
  split
  · split
    · exact visitOutcome_work h hb hd ha ‹_›
    · exact lateOutcome_work h
  · exact lateOutcome_work h

theorem bridgeReported_work {bridge : Bridge} (h : Work w s t) : Work w s (bridgeReported b bridge t) := by
  unfold bridgeReported
  split
  · split
    · cases bridge
      · exact visitFails_work h
      · exact visitFails_work h
      · exact afterWake_work h
      · exact visitFails_work h
    · exact h
  · exact h

/-! ### Supply changes -/

theorem withdrawn_work {o : Holder} (h : Work w s t) : Work w s (withdrawn o t) := by
  cases o
  · exact lampPowerWithdrawn_work (joinWaiting_work h)
  · exact visitWithdrawn_work h

theorem withdrawNewest_work {n : Nat} (h : Work w s t) : Work w s (withdrawNewest n t) := by
  induction n generalizing t with
  | zero => exact h
  | succ n ih =>
    unfold withdrawNewest
    split
    · exact h
    · split
      · exact ih (withdrawn_work (dropReservation_work h))
      · exact h

theorem withdrawExcess_work (h : Work w s t) : Work w s (withdrawExcess t) := withdrawNewest_work h

theorem supplyChanged_work {tellsMasters : Bool} (h : Work w s t) : Work w s (supplyChanged tellsMasters t) := by
  have granted : Work w s (grantPass (recomputeBooks none (withdrawExcess t))) :=
    grantPass_work ((withdrawExcess_work h).plans (recomputeBooks_plans .refl))
  exact (granted.onlyIf fun _ => granted.supply).plans (askReductions_plans .refl)

theorem switchSupply_work {state : SupplyState} (h : Work w s t) : Work w s (switchSupply state t) :=
  supplyChanged_work (h.books (by exact fun _ _ hi => hi))

theorem shedAsserts_work (h : Work w s t) : Work w s (shedAsserts t) := by
  unfold shedAsserts
  split
  · exact switchSupply_work h
  · exact h.books fun _ _ hi => hi
  · exact h

theorem shedDeasserts_work (h : Work w s t) : Work w s (shedDeasserts t) := by
  unfold shedDeasserts
  split
  · split
    · exact switchSupply_work h
    · exact h.books fun _ _ hi => hi
  · exact h
  · exact h

theorem restoreEnds_work (h : Work w s t) : Work w s (restoreEnds t) := switchSupply_work h

theorem setBudget_work {normal shed : Option Nat} (h : Work w s t) : Work w s (setBudget normal shed t) := by
  unfold setBudget
  dsimp only
  split
  · exact h.books fun _ _ hi => hi
  · exact supplyChanged_work (h.books (by exact fun _ _ hi => hi))

theorem setReserve_work {units : Nat} (h : Work w s t) : Work w s (setReserve units t) :=
  supplyChanged_work (h.books (by exact fun _ _ hi => hi))

/-! ### Outcomes of the loop -/

theorem cabinReading_work {reading : Option Int} (h : Work w s t) (hr : w.reports b) :
    Work w s (cabinReading b reading t) :=
  Work.plans (h.heat (by exact fun _ => rfl) (.inl hr)) (actOnReading_plans .refl)

theorem pollContents_work {r : PollReply} (h : Work w s t) (hr : w.reports b) : Work w s (pollContents b r t) :=
  clearanceLatch_work (clearanceCount_work (bridgeReported_work (closedCount_work (cabinReading_work h hr) hr)))

theorem storeCount_work {count : Nat} (h : Work w s t) (hr : w.reports b) : Work w s (storeCount b count t) :=
  h.power (.inl hr)

theorem pollEnded_work (h : Work w s t) (hb : w.bays b) : Work w s (pollEnded b t) := by
  unfold pollEnded setPoll
  split <;> exact h.bay hb

end

end Sys2Proof.Machine
end

section
/-! PROOF. The departure list: its order, and that every block's work keeps it in agreement with the records (spec 01,
R24). -/

namespace Sys2Proof.Machine

/-! ### The order -/

theorem before_iff {x y : DepartureEntry} :
    x.before y = true ↔ x.minute < y.minute ∨ x.minute = y.minute ∧ x.bay < y.bay := by
  simp [DepartureEntry.before]

theorem before_trans {x y z : DepartureEntry} (h : x.before y = true) (k : y.before z = true) :
    x.before z = true := by
  simp only [before_iff, Fin.lt_def] at *
  omega

/-- Of two entries of different bays one stands before the other. -/
theorem before_of_not {x y : DepartureEntry} (hb : x.bay ≠ y.bay) (h : ¬x.before y = true) : y.before x = true := by
  simp only [before_iff, Fin.lt_def] at *
  have : x.bay.val ≠ y.bay.val := fun e => hb (Fin.ext e)
  omega

theorem mem_withoutBay {b : Bay} {e : DepartureEntry} {l : List DepartureEntry} :
    e ∈ withoutBay b l ↔ e ∈ l ∧ e.bay ≠ b := by
  simp [withoutBay]

theorem mem_insertDeparture {e x : DepartureEntry} {l : List DepartureEntry} :
    x ∈ insertDeparture e l ↔ x = e ∨ x ∈ l := by
  induction l with
  | nil => simp [insertDeparture]
  | cons y l ih =>
    unfold insertDeparture
    split
    · simp
    · simp only [List.mem_cons, ih]
      tauto

/-- An entry of a bay that has none joins the list at its place. -/
theorem insertDeparture_ordered {e : DepartureEntry} {l : List DepartureEntry}
    (h : l.Pairwise (fun x y => x.before y = true)) (hb : ∀ x ∈ l, x.bay ≠ e.bay) :
    (insertDeparture e l).Pairwise (fun x y => x.before y = true) := by
  induction l with
  | nil => simp [insertDeparture]
  | cons y l ih =>
    obtain ⟨hy, hl⟩ := List.pairwise_cons.mp h
    unfold insertDeparture
    split
    case isTrue he =>
      refine List.pairwise_cons.mpr ⟨fun x hx => ?_, h⟩
      obtain rfl | hx := List.mem_cons.mp hx
      · exact he
      · exact before_trans he (hy x hx)
    case isFalse he =>
      refine List.pairwise_cons.mpr ⟨fun x hx => ?_, ih hl fun x hx => hb x (.tail _ hx)⟩
      obtain rfl | hx := mem_insertDeparture.mp hx
      · exact before_of_not (fun e => hb y (.head _) e.symm) he
      · exact hy x hx

/-! ### The law -/

/-- A bay's booked minute. -/
def bookedMinute (s : State) (b : Bay) : Option Nat := (s.bay b).table.departure.map Departure.minute

/-- The two states hold the same list and the same booked minutes. -/
def SameList (s t : State) : Prop := t.departures = s.departures ∧ ∀ b, bookedMinute t b = bookedMinute s b

/-- The law, by membership. -/
theorem departures_iff {s : State} :
    Inv.departures s ↔
      s.departures.Pairwise (fun x y => x.before y = true) ∧
        ∀ e : DepartureEntry, e ∈ s.departures ↔ bookedMinute s e.bay = some e.minute := by
  unfold Inv.departures bookedMinute departureOf
  constructor
  · rintro ⟨ho, hm, hr⟩
    exact ⟨ho, fun e => ⟨hm e, hr e.bay e.minute⟩⟩
  · rintro ⟨ho, hm⟩
    exact ⟨ho, fun e => (hm e).mp, fun b m => (hm ⟨b, m⟩).mpr⟩

theorem SameList.departures {s t : State} (h : SameList s t) (hd : Inv.departures s) : Inv.departures t := by
  obtain ⟨hl, hm⟩ := h
  rw [departures_iff] at *
  rw [hl]
  exact ⟨hd.1, fun e => by rw [hm]; exact hd.2 e⟩

theorem SameList.trans {s t u : State} (h : SameList s t) (k : SameList t u) : SameList s u :=
  ⟨k.1.trans h.1, fun b => (k.2 b).trans (h.2 b)⟩

/-- A change of one bay's record that leaves its booked minute. -/
theorem SameList.updBay {s : State} {b : Bay} {f : BayRec → BayRec}
    (hf : (f (s.bay b)).table.departure.map Departure.minute = (s.bay b).table.departure.map Departure.minute) :
    SameList s (updBay b f s) := by
  refine ⟨rfl, fun x => ?_⟩
  unfold bookedMinute
  by_cases h : x = b
  · subst h; rw [updBay_bay_self]; exact hf
  · rw [updBay_bay_ne h]

theorem bookedMinute_writeDeparture {s : State} {b x : Bay} {d : Departure} :
    bookedMinute (writeDeparture b d s) x = if x = b then some d.minute else bookedMinute s x := by
  split
  case isTrue h => subst h; simp [bookedMinute, writeDeparture, departuresChanged, updTable, updBay, State.bay]
  case isFalse h => unfold bookedMinute; rw [writeDeparture_bay_ne h]

theorem bookedMinute_dropDeparture {s : State} {b x : Bay} :
    bookedMinute (dropDeparture b s) x = if x = b then none else bookedMinute s x := by
  split
  case isTrue h => subst h; simp [bookedMinute, dropDeparture, departuresChanged, updTable, updBay, State.bay]
  case isFalse h => unfold bookedMinute; rw [dropDeparture_bay_ne h]

theorem writeDeparture_departures {s : State} {b : Bay} {d : Departure} (h : Inv.departures s) :
    Inv.departures (writeDeparture b d s) := by
  rw [departures_iff] at *
  obtain ⟨ho, hm⟩ := h
  refine ⟨insertDeparture_ordered (ho.filter _) fun x hx => (mem_withoutBay.mp hx).2, fun e => ?_⟩
  have mem : e ∈ (writeDeparture b d s).departures ↔
      e = { bay := b, minute := d.minute } ∨ e ∈ s.departures ∧ e.bay ≠ b := by
    rw [← mem_withoutBay, ← mem_insertDeparture]; rfl
  rw [mem, bookedMinute_writeDeparture, hm]
  obtain ⟨bay, minute⟩ := e
  by_cases hb : bay = b
  · simp [hb, eq_comm]
  · simp [hb]

theorem dropDeparture_departures {s : State} {b : Bay} (h : Inv.departures s) :
    Inv.departures (dropDeparture b s) := by
  rw [departures_iff] at *
  obtain ⟨ho, hm⟩ := h
  refine ⟨ho.filter _, fun e => ?_⟩
  have mem : e ∈ (dropDeparture b s).departures ↔ e ∈ s.departures ∧ e.bay ≠ b := by rw [← mem_withoutBay]; rfl
  rw [mem, bookedMinute_dropDeparture, hm]
  by_cases hb : e.bay = b <;> simp [hb]

theorem Plans.sameList {s t : State} (h : Plans s t) : SameList s t := by
  refine ⟨?_, fun b => by unfold bookedMinute; rw [(h.rests b).table]⟩
  induction h with
  | refl => rfl
  | join _ _ ih => exact ih
  | _ => rename_i ih; exact ih

/-- Every block's work keeps the departure list in order and in agreement with the records. -/
theorem Work.departures {w : Scope} {s t : State} (h : Work w s t) (hd : Inv.departures s) : Inv.departures t := by
  induction h with
  | refl => exact hd
  | plans _ k ih => exact k.sameList.departures ih
  | any _ _ hf ih => exact (SameList.updBay (hf _)).departures ih
  | written _ _ ih => exact writeDeparture_departures ih
  | dropped _ _ ih => exact dropDeparture_departures ih
  | heat _ _ _ ih => exact (SameList.updBay rfl).departures ih
  | power _ _ ih => exact (SameList.updBay rfl).departures ih
  | lamp _ ih => exact (SameList.updBay rfl).departures ih
  | faults _ _ ih => exact (SameList.updBay rfl).departures ih
  | reader _ ih => exact (SameList.updBay rfl).departures ih
  | clear _ _ ih => exact (SameList.updBay rfl).departures ih
  | lane _ _ ih => exact (SameList.updBay rfl).departures ih
  | _ => rename_i ih; exact SameList.departures ⟨rfl, fun _ => rfl⟩ ih

end Sys2Proof.Machine
end

section
/-! PROOF. What each operation of the Bay Table leaves of a bay's record, and that it leaves one that agrees with its
occupancy (spec 01, R1, R12, R13, R16, R20). -/

namespace Sys2Proof.Machine

/-! ### Records that rest -/

section
variable {s t u : State} {b : Bay}

theorem holdsCoach_congr (h : (t.bay b).table = (s.bay b).table) : holdsCoach t b = holdsCoach s b := by
  unfold holdsCoach occupied; rw [h]

/-- A record that agrees with its occupancy does so still where the bay rests. -/
theorem Rests.occupancyGood (h : Rests s t b) (hg : occupancyGood s b) : occupancyGood t b := by
  obtain ⟨htable, hprofile, -, ⟨hholds, hidle, -⟩, hfailures, -⟩ := h
  have hcoach := holdsCoach_congr htable
  have hreach := reachable_congr (congrArg TableRec.occ htable)
  unfold Machine.occupancyGood at *
  rw [htable, hprofile, hfailures, hholds, hcoach, hreach]
  obtain ⟨h1, h2, h3, h4, h5, h6, h7, h8, h9, h10, hempty⟩ := hg
  exact ⟨h1, h2, h3, h4, h5, h6, h7, h8, h9, h10, fun hn =>
    ⟨(hempty hn).1, (hempty hn).2.1, (hidle (hempty hn).2.2.1).1, (hempty hn).2.2.2⟩⟩

/-- The ordinary work of the blocks rests at every bay. -/
theorem Work.resting (h : Work .none s t) (b : Bay) : Rests s t b := h.rests (fun hb => hb)

/-! ### The vacancy cleanup -/

/-- What the vacancy cleanup leaves of a bay's record (spec 01, R12). -/
structure Vacated (keepDeparture : Bool) (s t : State) (b : Bay) : Prop where
  table : (t.bay b).table =
    { (s.bay b).table with
      identity := none, lampPlan := none, recovery := false
      departure := if keepDeparture then (s.bay b).table.departure else none }
  profile : (t.bay b).heat.profile = none
  clear : (t.bay b).clear = .reset
  quota : (t.bay b).faults.quota = (s.bay b).faults.quota
  failures : (t.bay b).loop.failures = (s.bay b).loop.failures
  poll : (t.bay b).loop.poll = (s.bay b).loop.poll

/-- A clearance record at reset follows only itself. -/
theorem ClearRec.Follows.of_reset {c c' : ClearRec} (h : c.Follows c') (hc : c = .reset) : c' = .reset := by
  subst hc
  exact (h.2.1 rfl).2 rfl

theorem Vacated.of_rests {k : Bool} (h : Rests s t b) (v : Vacated k t u b) : Vacated k s u b :=
  ⟨by rw [v.table, h.table], v.profile, v.clear, v.quota.trans h.quota, v.failures.trans h.failures,
    v.poll.trans h.poll⟩

theorem Vacated.then_rests {k : Bool} (v : Vacated k s t b) (h : Rests t u b) : Vacated k s u b :=
  ⟨h.table.trans v.table, h.profile.trans v.profile, h.clear.of_reset v.clear, h.quota.trans v.quota,
    h.failures.trans v.failures, h.poll.trans v.poll⟩

theorem clearanceCleanup_bay :
    ∃ x : State, Rests s x b ∧ ((clearanceCleanup b s).bay b) = { x.bay b with clear := .reset } := by
  have work : Work .none s (disownOpen b (withdrawOpen b (onlyIf (!(s.bay b).clear.holds.isEmpty) (post .hold b) s))) :=
    disownOpen_work (withdrawOpen_work (Work.refl.onlyIf fun _ => Work.refl.news rfl))
  refine ⟨_, work.resting b, ?_⟩
  unfold clearanceCleanup onlyIf
  split <;> simp [postClearance]

theorem heatCleanup_rests : Rests (updHeat b (fun r => { r with profile := none }) s) (heatCleanup b s) b := by
  have plans : Plans (updHeat b (fun r => { r with profile := none }) s) (heatCleanup b s) := by
    unfold heatCleanup
    refine setDemand_plans (clearHeatFlags_plans ?_)
    split
    case h_4 => exact enterOff_plans .refl
    case h_5 => exact .refl
    case h_6 => exact .refl
    all_goals exact enterStopping_plans .refl
  exact plans.rests b

theorem dropDeparture_bay {x : Bay} :
    (dropDeparture b s).bay x = (updTable b (fun t => { t with departure := none }) s).bay x := rfl

theorem removeDeparture_rests :
    Rests (updTable b (fun t => { t with departure := none }) s) (removeDeparture b s) b := by
  unfold removeDeparture
  split
  · have recomputed : Plans (dropDeparture b s) (recompute none (dropDeparture b s)) := recompute_plans .refl
    exact (Rests.of_bay_eq dropDeparture_bay).trans (recomputed.rests b)
  case isFalse h =>
    refine Rests.of_bay_eq ?_
    have none_ : (s.bay b).table.departure = none := by simpa [departureOf] using h
    simp [← none_]

theorem vacancyCleanup_vacated {k c : Bool} : Vacated k s (vacancyCleanup k c b s) b := by
  have unread : Rests s (cleanupReader c b (emptyFaults b s)) b :=
    (cleanupReader_work (emptyFaults_work .refl)).resting b
  refine .of_rests unread ?_
  unfold vacancyCleanup
  dsimp only
  generalize cleanupReader c b (emptyFaults b s) = s
  obtain ⟨x, hx, hclear⟩ := clearanceCleanup_bay (s := s) (b := b)
  refine .of_rests hx ?_
  have checked : Rests (clearanceCleanup b s) (lampCleanup b (clearanceCleanup b s)) b :=
    (lampCleanup_work .refl).resting b
  generalize lampCleanup b (clearanceCleanup b s) = y at *
  have reset : (y.bay b).clear = .reset := checked.clear.of_reset (by rw [hclear])
  have cold := heatCleanup_rests (b := b)
    (s := updTable b (fun t => { t with identity := none, lampPlan := none, recovery := false }) y)
  have kept : Vacated true x
      (heatCleanup b (updTable b (fun t => { t with identity := none, lampPlan := none, recovery := false }) y)) b := by
    refine Vacated.then_rests ⟨?_, ?_, ?_, ?_, ?_, ?_⟩ cold
    · simp [checked.table, hclear]
    · simp
    · simp [reset]
    · simp [checked.quota, hclear]
    · simp [checked.failures, hclear]
    · simp [checked.poll, hclear]
  cases k
  case true => exact kept
  case false =>
    refine Vacated.then_rests ⟨?_, ?_, ?_, ?_, ?_, ?_⟩ removeDeparture_rests
    · simp [kept.table]
    · simp [kept.profile]
    · simp [kept.clear]
    · simp [kept.quota]
    · simp [kept.failures]
    · simp [kept.poll]

end

end Sys2Proof.Machine
end

section
/-! PROOF. Every operation of the Bay Table, and what asks it, leaves a bay whose record agrees with its occupancy. -/

namespace Sys2Proof.Machine

section
variable {s t u : State} {b : Bay}

/-! ### Records by occupancy -/

/-- Posting an event rests at every bay. -/
theorem Rests.post {e : BayEvent} {x : Bay} : Rests s (Machine.post e x s) b := .of_bay_eq (post_bay e x s b)

/-- An occupied bay's record agrees with it. -/
theorem occupancyGood_of_occupied (ho : occupied t b = true) (hl : (t.bay b).table.beforeLoss = none)
    (hd : (t.bay b).table.discovered = true)
    (hr : (t.bay b).table.recovery = true → (t.bay b).table.occ = .arriving)
    (hp : (t.bay b).table.plugCount ≤ 2)
    (hn : (t.bay b).table.lampPlan = lampPlanFor (t.bay b).table.planOverride (t.bay b).table.identity)
    (hf : (t.bay b).loop.failures ≤ 2) : occupancyGood t b := by
  have hc : holdsCoach t b = true := by simp [holdsCoach, ho]
  have hreach : reachable t b = true := by unfold occupied at ho; unfold reachable; split at ho <;> simp_all
  have hlost : (t.bay b).table.occ ≠ .lost := fun h => by simp [occupied, h] at ho
  simpa [Machine.occupancyGood, hl, hd, hp, hn, hf, hc, hreach, hlost] using hr

/-- The record of a bay in which no coach stands, its occupancy aside. -/
structure Bare (t : State) (b : Bay) : Prop where
  recovery : (t.bay b).table.recovery = false
  identity : (t.bay b).table.identity = none
  lampPlan : (t.bay b).table.lampPlan = none
  profile : (t.bay b).heat.profile = none
  clear : (t.bay b).clear.state = .idle
  holds : (t.bay b).clear.holds = []

theorem Vacated.bare {k : Bool} (v : Vacated k s t b) : Bare t b := by
  refine ⟨?_, ?_, ?_, v.profile, ?_, ?_⟩
  case refine_4 => rw [v.clear]; rfl
  case refine_5 => rw [v.clear]; rfl
  all_goals rw [v.table]

theorem Bare.of_rests (h : Bare s b) (k : Rests s t b) : Bare t b :=
  ⟨by rw [k.table]; exact h.recovery, by rw [k.table]; exact h.identity, by rw [k.table]; exact h.lampPlan,
    k.profile.trans h.profile, (k.clear.2.1 h.clear).1, k.clear.1.trans h.holds⟩

/-- A bay that holds no coach is bare. -/
theorem bare_of_occupancyGood (hg : occupancyGood s b) (hc : holdsCoach s b = false) : Bare s b := by
  obtain ⟨-, -, -, -, -, hr, -, hn, -, -, hempty⟩ := hg
  obtain ⟨hi, hp, hs, hh⟩ := hempty hc
  refine ⟨?_, hi, by simpa [hc] using hn, hp, hs, hh⟩
  by_contra h
  have : (s.bay b).table.occ = .arriving := hr (by simpa using h)
  simp [holdsCoach, occupied, this] at hc

/-- The parts of a bare record that only its table decides. -/
theorem Bare.occupancyGood (h : Bare t b) (hc : holdsCoach t b = false)
    (hl : (t.bay b).table.beforeLoss.isSome ↔ (t.bay b).table.occ = .lost)
    (hv : (t.bay b).table.occ = .lost → (t.bay b).table.beforeLoss = some .vacant)
    (hd : (t.bay b).table.discovered = false →
      (t.bay b).table.occ = .lost ∨ (t.bay b).table.occ = .outOfService)
    (hp : (t.bay b).table.plugCount ≤ 2) (hf : (t.bay b).loop.failures ≤ 2)
    (hr : reachable t b = false → (t.bay b).loop.failures = 0) : occupancyGood t b := by
  have stored : ∀ o, o ≠ .vacant → (t.bay b).table.beforeLoss ≠ some o := fun o ho h0 =>
    ho (Option.some.inj (h0.symm.trans (hv (hl.mp (by rw [h0]; rfl)))))
  refine ⟨hl, stored _ (by decide), stored _ (by decide), fun _ => hv, hd, fun h0 => ?_, hp, ?_, hf, hr, fun _ =>
    ⟨h.identity, h.profile, h.clear, h.holds⟩⟩
  · rw [h.recovery] at h0; exact absurd h0 (by decide)
  · simp [hc, h.lampPlan]

/-- A bay that can be reached has been discovered. -/
theorem discovered_of_reachable (hg : occupancyGood s b) (hr : reachable s b = true) :
    (s.bay b).table.discovered = true := by
  obtain ⟨-, -, -, -, hd, -⟩ := hg
  by_contra h
  obtain h | h := hd (by simpa using h) <;> simp [reachable, h] at hr

theorem failures_le (hg : occupancyGood s b) : (s.bay b).loop.failures ≤ 2 := by
  obtain ⟨-, -, -, -, -, -, -, -, hf, -⟩ := hg
  exact hf

theorem plugCount_le (hg : occupancyGood s b) : (s.bay b).table.plugCount ≤ 2 := by
  obtain ⟨-, -, -, -, -, -, hp, -⟩ := hg
  exact hp

theorem beforeLoss_of_reachable (hg : occupancyGood s b) (hr : reachable s b = true) :
    (s.bay b).table.beforeLoss = none := by
  obtain ⟨hl, -⟩ := hg
  by_contra h
  have := hl.mp (Option.isSome_iff_ne_none.mpr h)
  simp [reachable, this] at hr

theorem reachable_of_occupied (h : occupied s b = true) : reachable s b = true := by
  unfold occupied at h
  unfold reachable
  split at h <;> simp_all

theorem holdsCoach_of_occupied (h : occupied s b = true) : holdsCoach s b = true := by simp [holdsCoach, h]

/-! ### Departure, arrival and identification -/

theorem becomeVacant_good (h : Bare s b) (hd : (s.bay b).table.discovered = true)
    (hf : (s.bay b).loop.failures ≤ 2) : occupancyGood (becomeVacant b s) b := by
  have bare : Bare (becomeVacant b s) b := by
    obtain ⟨hr, hi, hn, hp, hs, hh⟩ := h
    constructor <;> simpa [becomeVacant]
  refine bare.occupancyGood ?_ ?_ ?_ ?_ ?_ ?_ ?_ <;>
    simp [becomeVacant, holdsCoach, occupied, reachable, hd, hf]

theorem departs_vacated {kind : DepartureKind} {k c : Bool} :
    Vacated k (updTable b (fun t => { t with lastDeparture := some kind }) s) (departs kind k c b s) b :=
  .of_rests .post vacancyCleanup_vacated

theorem departs_bare {kind : DepartureKind} {k c : Bool} : Bare (departs kind k c b s) b := departs_vacated.bare

theorem departs_discovered {kind : DepartureKind} {k c : Bool} :
    ((departs kind k c b s).bay b).table.discovered = (s.bay b).table.discovered := by
  rw [departs_vacated.table]; simp

theorem departs_failures {kind : DepartureKind} {k c : Bool} :
    ((departs kind k c b s).bay b).loop.failures = (s.bay b).loop.failures := by
  rw [departs_vacated.failures]; simp

theorem departed_good {kind : DepartureKind} {k c : Bool} (hd : (s.bay b).table.discovered = true)
    (hf : (s.bay b).loop.failures ≤ 2) : occupancyGood (becomeVacant b (departs kind k c b s)) b :=
  becomeVacant_good departs_bare (departs_discovered.trans hd) (departs_failures.trans_le hf)

theorem needsReading_rests : Rests s (needsReading b s) b := (needsReading_work .refl).resting b

/-- ARRIVING, before the reader is asked (spec 01, R6). -/
def arrived (b : Bay) (s : State) : State :=
  post .arrival b
    (updHeat b (fun h => { h with profile := none })
      (updTable b
        (fun t => { t with
          occ := .arriving, beforeLoss := none, recovery := false, plugCount := 0, identity := none,
          lampPlan := t.planOverride })
        s))

theorem becomeArriving_rests : Rests (arrived b s) (becomeArriving b s) b := needsReading_rests

theorem becomeArriving_good (hd : (s.bay b).table.discovered = true) (hf : (s.bay b).loop.failures ≤ 2) :
    occupancyGood (becomeArriving b s) b := by
  refine becomeArriving_rests.occupancyGood ?_
  refine occupancyGood_of_occupied ?_ ?_ ?_ ?_ ?_ ?_ ?_ <;> simp [arrived, occupied, hd, hf]
  cases (s.bay b).table.planOverride <;> rfl

theorem becomePresent_good {identity : Option Identity} (hd : (s.bay b).table.discovered = true)
    (hl : (s.bay b).table.beforeLoss = none) (hp : (s.bay b).table.plugCount ≤ 2)
    (hf : (s.bay b).loop.failures ≤ 2) : occupancyGood (becomePresent b identity s) b := by
  refine occupancyGood_of_occupied ?_ ?_ ?_ ?_ ?_ ?_ ?_ <;>
    simp [becomePresent, occupied, hd, hl, hp, hf]

/-- A profile is copied to a bay that holds a coach. -/
theorem copyProfile_good {coachType : Nat} (hg : occupancyGood s b) (hc : holdsCoach s b = true) :
    occupancyGood (copyProfile b coachType s) b := by
  unfold copyProfile
  split
  · have hc' : holdsCoach (updHeat b (fun r => { r with profile := some (s.profiles[coachType]) }) s) b = true :=
      (holdsCoach_congr (by simp)).trans hc
    simp only [Machine.occupancyGood, hc', hc, reachable, updHeat_table, updHeat_loop] at *
    simpa using hg
  · exact hg

theorem unidentified_rests : Rests (becomePresent b none s) (unidentified b s) b :=
  (testMismatch_work (autoCheck_work .refl)).resting b

theorem identified_rests {i : Identity} :
    Rests (copyProfile b i.coachType (becomePresent b (some i) s)) (identified b i s) b :=
  (testMismatch_work (autoCheck_work (Work.refl.plans (judgePlan_plans .refl)))).resting b

theorem holdsCoach_becomePresent {i : Option Identity} : holdsCoach (becomePresent b i s) b = true := by
  simp [becomePresent, holdsCoach, occupied]

theorem takeIdentity_good {identity : Option Identity} (hd : (s.bay b).table.discovered = true)
    (hl : (s.bay b).table.beforeLoss = none) (hp : (s.bay b).table.plugCount ≤ 2)
    (hf : (s.bay b).loop.failures ≤ 2) : occupancyGood (takeIdentity b identity s) b := by
  unfold takeIdentity
  split
  · exact identified_rests.occupancyGood
      (copyProfile_good (becomePresent_good hd hl hp hf) holdsCoach_becomePresent)
  · exact unidentified_rests.occupancyGood (becomePresent_good hd hl hp hf)

theorem otherCoach_table {c : Bool} :
    ((otherCoach c b s).bay b).table =
      { (s.bay b).table with
        lastDeparture := some .unobserved, identity := none, lampPlan := none, recovery := false } := by
  have v : Vacated true (updTable b (fun t => { t with lastDeparture := some .unobserved }) s) (otherCoach c b s) b :=
    departs_vacated.then_rests .post
  rw [v.table]; simp

theorem otherCoach_failures {c : Bool} : ((otherCoach c b s).bay b).loop.failures = (s.bay b).loop.failures := by
  unfold otherCoach
  rw [post_bay]
  exact departs_failures

theorem sameCoach_rests :
    Rests (updTable b (fun t => { t with occ := .present, recovery := false }) s) (sameCoach b s) b :=
  Rests.post.trans ((testMismatch_work (autoCheck_work
    (Work.refl.reader.plans (enterOff_plans .refl)))).resting b)

theorem sameCoach_good (hg : occupancyGood s b) (ho : occupied s b = true) : occupancyGood (sameCoach b s) b := by
  have hr := reachable_of_occupied ho
  have hd := discovered_of_reachable hg hr
  have hl := beforeLoss_of_reachable hg hr
  have hp := plugCount_le hg
  have hf := failures_le hg
  have hn : (s.bay b).table.lampPlan = lampPlanFor (s.bay b).table.planOverride (s.bay b).table.identity := by
    obtain ⟨-, -, -, -, -, -, -, hn, -⟩ := hg
    simpa [holdsCoach_of_occupied ho] using hn
  refine sameCoach_rests.occupancyGood (occupancyGood_of_occupied ?_ ?_ ?_ ?_ ?_ ?_ ?_) <;>
    simp [occupied, hd, hl, hp, hf, hn]

theorem takeIdentity_good_of_occupied {identity : Option Identity} (hg : occupancyGood s b)
    (ho : occupied s b = true) : occupancyGood (takeIdentity b identity s) b :=
  have hr := reachable_of_occupied ho
  takeIdentity_good (discovered_of_reachable hg hr) (beforeLoss_of_reachable hg hr) (plugCount_le hg) (failures_le hg)

theorem otherCoach_identity_good {identity : Option Identity} {c : Bool} (hg : occupancyGood s b)
    (ho : occupied s b = true) : occupancyGood (takeIdentity b identity (otherCoach c b s)) b := by
  have hr := reachable_of_occupied ho
  refine takeIdentity_good ?_ ?_ ?_ (otherCoach_failures.trans_le (failures_le hg))
  · rw [otherCoach_table]; exact discovered_of_reachable hg hr
  · rw [otherCoach_table]; exact beforeLoss_of_reachable hg hr
  · rw [otherCoach_table]; exact plugCount_le hg

theorem identityRead_good {fleet coachType : Nat} (hg : occupancyGood s b) :
    occupancyGood (identityRead b fleet coachType s) b := by
  have occ : ∀ o, (s.bay b).table.occ = o → o = .arriving ∨ o = .present → occupied s b = true := by
    rintro o ho (rfl | rfl) <;> simp [occupied, ho]
  unfold identityRead
  split
  case h_1 ho =>
    have ho := occ _ ho (.inl rfl)
    split
    · unfold recoveredIdentity
      split
      · split
        · exact sameCoach_good hg ho
        · exact otherCoach_identity_good hg ho
      · exact otherCoach_identity_good hg ho
    · exact takeIdentity_good_of_occupied hg ho
  case h_2 ho => exact takeIdentity_good_of_occupied hg (occ _ ho (.inr rfl))
  all_goals exact hg

/-- An identity that cannot be read is none, taken. -/
theorem unidentified_eq : unidentified b s = takeIdentity b none s := rfl

theorem identityFailed_good (hg : occupancyGood s b) : occupancyGood (identityFailed b s) b := by
  unfold identityFailed
  split
  case h_1 ho =>
    have hocc : occupied s b = true := by simp [occupied, ho]
    have hr := reachable_of_occupied hocc
    split
    · rw [unidentified_eq]
      have rests : Rests (otherCoach false b s)
          (updReader b (fun r => { r with state := .failed }) (otherCoach false b s)) b :=
        (Work.refl.reader).resting b
      refine takeIdentity_good ?_ ?_ ?_ (rests.failures.trans_le (otherCoach_failures.trans_le (failures_le hg)))
      · rw [rests.table, otherCoach_table]; exact discovered_of_reachable hg hr
      · rw [rests.table, otherCoach_table]; exact beforeLoss_of_reachable hg hr
      · rw [rests.table, otherCoach_table]; exact plugCount_le hg
    · exact takeIdentity_good_of_occupied (identity := none) hg hocc
  case h_2 ho => exact takeIdentity_good_of_occupied (identity := none) hg (by simp [occupied, ho])
  all_goals exact hg

end

end Sys2Proof.Machine
end

section
/-! PROOF. Plugs, probes, node loss, service and requests leave a bay whose record agrees with its occupancy, and what
every operation keeps: the departure list's law and that of each bay's record. -/

namespace Sys2Proof.Machine

section
variable {s t u : State} {b : Bay}

/-! ### Changes the law does not see -/

/-- The law of a bay's record speaks of its table, profile, clearance and failures. -/
theorem occupancyGood_congr (htable : (t.bay b).table = (s.bay b).table)
    (hprofile : (t.bay b).heat.profile = (s.bay b).heat.profile) (hclear : (t.bay b).clear = (s.bay b).clear)
    (hfailures : (t.bay b).loop.failures = (s.bay b).loop.failures) (hg : occupancyGood s b) :
    occupancyGood t b := by
  have hcoach := holdsCoach_congr htable
  have hreach := reachable_congr (congrArg TableRec.occ htable)
  unfold Machine.occupancyGood at *
  rwa [htable, hprofile, hfailures, hclear, hcoach, hreach]

/-- The failure count moves within its bounds. -/
theorem updLoop_good {f : LoopRec → LoopRec} (hg : occupancyGood s b)
    (hf : (f (s.bay b).loop).failures ≤ 2)
    (hr : reachable s b = false → (f (s.bay b).loop).failures = 0) : occupancyGood (updLoop b f s) b := by
  have hcoach : holdsCoach (updLoop b f s) b = holdsCoach s b := holdsCoach_congr (by simp [updLoop])
  have hreach : reachable (updLoop b f s) b = reachable s b := reachable_congr (by simp [updLoop])
  obtain ⟨h1, h2, h3, h4, h5, h6, h7, h8, -, -, h11⟩ := hg
  unfold Machine.occupancyGood
  rw [hcoach, hreach]
  simp only [updLoop, updBay_bay_self]
  exact ⟨h1, h2, h3, h4, h5, h6, h7, h8, hf, hr, h11⟩

theorem clearFailures_good (hg : occupancyGood s b) : occupancyGood (clearFailures b s) b :=
  updLoop_good hg (Nat.zero_le 2) fun _ => rfl

theorem setPoll_good {p : PollPlan} (hg : occupancyGood s b) : occupancyGood (setPoll b p s) b :=
  occupancyGood_congr (by simp [setPoll, updLoop]) (by simp [setPoll, updLoop]) (by simp [setPoll, updLoop])
    (by simp [setPoll, updLoop]) hg

theorem pollEnded_good (hg : occupancyGood s b) : occupancyGood (pollEnded b s) b := by
  unfold pollEnded
  split <;> exact setPoll_good hg

/-- The clearance of a bay that holds a coach may be any. -/
theorem updClear_good {f : ClearRec → ClearRec} (hg : occupancyGood s b) (hc : holdsCoach s b = true) :
    occupancyGood (updClear b f s) b := by
  have hcoach : holdsCoach (updClear b f s) b = true := (holdsCoach_congr (by simp)).trans hc
  have hreach : reachable (updClear b f s) b = reachable s b := reachable_congr (by simp)
  simp only [Machine.occupancyGood, hcoach, hreach, hc, updClear_table, updClear_loop] at *
  simpa using hg

/-! ### Plugs, sweep and probes -/

/-- What a table change leaves of whether a bay can be reached or holds a coach, where the occupancy stays. -/
theorem setCount_good {n : Nat} (hg : occupancyGood s b) (hn : n ≤ 2) :
    occupancyGood (updTable b (fun t => { t with plugCount := n }) s) b := by
  simp only [Machine.occupancyGood, holdsCoach, occupied, reachable, updTable_bay_self] at *
  obtain ⟨h1, h2, h3, h4, h5, h6, -, h8, h9, h10, h11⟩ := hg
  exact ⟨h1, h2, h3, h4, h5, h6, hn, h8, h9, h10, h11⟩

theorem storePolled_good {plug : Plug} {latch : Latch} (hg : occupancyGood s b) :
    occupancyGood (storePolled b plug latch s) b := by
  simp only [storePolled, Machine.occupancyGood, holdsCoach, occupied, reachable, updTable_bay_self] at *
  exact hg

/-- A bay's departure where it can be reached. -/
theorem reachable_departed_good {kind : DepartureKind} {k c : Bool} (hg : occupancyGood s b)
    (hr : reachable s b = true) : occupancyGood (becomeVacant b (departs kind k c b s)) b :=
  departed_good (discovered_of_reachable hg hr) (failures_le hg)

theorem plugTransition_good (hg : occupancyGood s b) : occupancyGood (plugTransition b s) b := by
  unfold plugTransition
  split
  case h_1 ho => exact becomeArriving_good (discovered_of_reachable hg (by simp [reachable, ho])) (failures_le hg)
  case h_2 ho => exact reachable_departed_good hg (by simp [reachable, ho])
  case h_3 ho =>
    have hr : reachable s b = true := by simp [reachable, ho]
    split
    · exact reachable_departed_good hg hr
    · exact reachable_departed_good hg hr
  all_goals exact hg

theorem plugMark_le : plugMark s b ≤ 3 := by
  unfold plugMark
  split <;> decide

theorem countPlug_good {plug : Plug} (hg : occupancyGood s b) : occupancyGood (countPlug b plug s) b := by
  unfold countPlug
  split
  · split
    · exact plugTransition_good (setCount_good hg (Nat.zero_le 2))
    case isFalse h =>
      have := plugMark_le (s := s) (b := b)
      have count : updTable b (fun t => { t with plugCount := t.plugCount + 1 }) s =
          updTable b (fun t => { t with plugCount := (s.bay b).table.plugCount + 1 }) s := by
        unfold updTable updBay; rfl
      rw [count]
      exact setCount_good hg (by omega)
  · exact setCount_good hg (Nat.zero_le 2)

theorem tablePoll_good {plug : Plug} {latch : Latch} (hg : occupancyGood s b) :
    occupancyGood (tablePoll b plug latch s) b := countPlug_good (storePolled_good hg)

/-- A bay that has not been discovered holds no coach. -/
theorem holdsCoach_of_undiscovered (hg : occupancyGood s b) (ho : (s.bay b).table.occ = .lost)
    (hd : (s.bay b).table.discovered = false) : holdsCoach s b = false := by
  obtain ⟨-, -, -, hv, -⟩ := hg
  simp [holdsCoach, occupied, ho, hv hd ho]

/-- A bay found with nothing plugged in. -/
theorem Bare.found {plug : Plug} {latch : Latch} (h : Bare s b) :
    Bare (storePolled b plug latch (updTable b (fun t => { t with discovered := true }) s)) b := by
  obtain ⟨hr, hi, hn, hp, hs, hh⟩ := h
  constructor <;> simpa [storePolled]

theorem sweepAnswered_good {plug : Plug} {latch : Latch} (hg : occupancyGood s b)
    (ho : (s.bay b).table.occ = .lost) (hd : (s.bay b).table.discovered = false) :
    occupancyGood (sweepAnswered b plug latch s) b := by
  have bare := (bare_of_occupancyGood hg (holdsCoach_of_undiscovered hg ho hd)).found (plug := plug) (latch := latch)
  have failures := failures_le hg
  unfold sweepAnswered
  cases plug
  · exact becomeVacant_good bare (by simp [storePolled]) (by simpa [storePolled] using failures)
  · exact becomeArriving_good (by simp [storePolled]) (by simpa [storePolled] using failures)

theorem sweepFailed_good (hg : occupancyGood s b) : occupancyGood (sweepFailed b s) b := by
  refine Rests.post.occupancyGood ?_
  simp only [Machine.occupancyGood, holdsCoach, occupied, reachable, updTable_bay_self] at *
  obtain ⟨h1, h2, h3, -, -, h6, h7, h8, h9, h10, h11⟩ := hg
  exact ⟨h1, h2, h3, fun h => absurd h (by decide), fun h => absurd h (by decide), h6, h7, h8, h9, h10, h11⟩

theorem probeOut_good (hg : occupancyGood s b) (ho : (s.bay b).table.occ = .lost)
    (hd : (s.bay b).table.discovered = true) : occupancyGood (probeOut b s) b := by
  unfold probeOut
  split
  · exact departed_good hd (failures_le hg)
  case isFalse h =>
    refine becomeVacant_good (bare_of_occupancyGood hg ?_) hd (failures_le hg)
    simpa [holdsCoach, occupied, ho] using h

theorem probeIn_good (hg : occupancyGood s b) (ho : (s.bay b).table.occ = .lost)
    (hd : (s.bay b).table.discovered = true) : occupancyGood (probeIn b s) b := by
  have hf := failures_le hg
  have hn : holdsCoach s b = true →
      (s.bay b).table.lampPlan = lampPlanFor (s.bay b).table.planOverride (s.bay b).table.identity := by
    obtain ⟨-, -, -, -, -, -, -, hn, -⟩ := hg
    intro hc
    simpa [hc] using hn
  unfold probeIn
  split
  case h_1 hl =>
    have hn := hn (by simp [holdsCoach, ho, hl])
    refine needsReading_rests.occupancyGood (occupancyGood_of_occupied ?_ ?_ ?_ ?_ ?_ ?_ ?_) <;>
      simp [occupied, hd, hf, hn]
  case h_2 hl =>
    have hn := hn (by simp [holdsCoach, ho, hl])
    refine needsReading_rests.occupancyGood (occupancyGood_of_occupied ?_ ?_ ?_ ?_ ?_ ?_ ?_) <;>
      simp [occupied, hd, hf, hn]
  · exact becomeArriving_good hd hf

theorem probeAnswered_good {plug : Plug} {latch : Latch} (hg : occupancyGood s b)
    (ho : (s.bay b).table.occ = .lost) (hd : (s.bay b).table.discovered = true) :
    occupancyGood (probeAnswered b plug latch s) b := by
  have back : occupancyGood (post .nodeBack b (storePolled b plug latch s)) b :=
    Rests.post.occupancyGood (storePolled_good hg)
  unfold probeAnswered
  cases plug
  · exact probeOut_good back (by simp [storePolled, ho]) (by simp [storePolled, hd])
  · exact probeIn_good back (by simp [storePolled, ho]) (by simp [storePolled, hd])

/-! ### Node loss and service -/

theorem bayLost_rests : Rests (updTable b TableRec.lost s) (bayLost b s) b := by
  refine Rests.trans (Rests.post (e := .nodeLost) (x := b)) (Work.resting ?_ b)
  exact clearanceLost_work (readerLost_work (abortCheck_work
    ((allocatorLost_work .refl).plans (heatLost_plans .refl))))

theorem lost_good (hg : occupancyGood s b) (hr : reachable s b = true) (hf : (s.bay b).loop.failures = 0) :
    occupancyGood (updTable b TableRec.lost s) b := by
  have hd := discovered_of_reachable hg hr
  have hocc : (s.bay b).table.occ = .vacant ∨ (s.bay b).table.occ = .arriving ∨ (s.bay b).table.occ = .present := by
    unfold reachable at hr; split at hr <;> simp_all
  have coach : holdsCoach (updTable b TableRec.lost s) b = holdsCoach s b := by
    obtain ho | ho | ho := hocc
    case inl => simp [holdsCoach, occupied, TableRec.lost, storedBeforeLoss, ho]; rfl
    all_goals
      cases hrec : (s.bay b).table.recovery <;>
        simp [holdsCoach, occupied, TableRec.lost, storedBeforeLoss, ho, hrec]
  have stored : storedBeforeLoss (s.bay b).table ≠ .lost ∧ storedBeforeLoss (s.bay b).table ≠ .outOfService := by
    unfold storedBeforeLoss
    obtain ho | ho | ho := hocc <;> rw [ho] <;> split <;> decide
  obtain ⟨-, -, -, -, -, -, -, hn, -, -, hempty⟩ := hg
  unfold Machine.occupancyGood
  rw [coach]
  simpa [TableRec.lost, hd, hf, stored, hn] using hempty

theorem dropPending_good (hg : occupancyGood s b) : occupancyGood (dropPending b s) b := by
  have dropped : occupancyGood (updLoop b (fun l => .reset l.poll) s) b :=
    updLoop_good hg (Nat.zero_le 2) fun _ => rfl
  exact ((Work.foldl (w := .none) (fun _ _ => entryNotSent_work) .refl).resting b).occupancyGood dropped

theorem becomeOutOfService_good (h : Bare s b) : occupancyGood (becomeOutOfService b s) b := by
  have removed : Bare (removeDeparture b s) b := by
    refine Bare.of_rests ?_ removeDeparture_rests
    obtain ⟨hr, hi, hn, hp, hs, hh⟩ := h
    constructor <;> simpa
  unfold becomeOutOfService
  refine (Plans.rests (heatOutOfService_plans .refl) b).occupancyGood ?_
  refine ((Work.foldl (w := .none) (fun _ _ => entryNotSent_work) .refl).resting b).occupancyGood ?_
  refine Bare.occupancyGood ?_ ?_ ?_ ?_ ?_ ?_ ?_ ?_
  · obtain ⟨hr, hi, hn, hp, hs, hh⟩ := removed
    constructor <;> simpa [updLoop, setPoll]
  all_goals simp [updLoop, setPoll, holdsCoach, occupied, LoopRec.reset]

theorem takeOutOfService_good (hg : occupancyGood s b) : occupancyGood (takeOutOfService b s) b := by
  unfold takeOutOfService
  split
  · exact hg
  split
  · exact becomeOutOfService_good departs_bare
  case isFalse hc => exact becomeOutOfService_good (bare_of_occupancyGood hg (by simpa using hc))

theorem bringIntoService_good (hg : occupancyGood s b) : occupancyGood (bringIntoService b s) b := by
  unfold bringIntoService
  split
  case isTrue ho =>
    have hr : reachable s b = false := by simp [reachable, ho]
    have bare := bare_of_occupancyGood hg (by simp [holdsCoach, occupied, ho])
    obtain ⟨-, -, -, -, -, -, -, -, -, hf, -⟩ := hg
    have hf := hf hr
    refine setPoll_good (((allocatorLost_work (w := .none) .refl).resting b).occupancyGood ?_)
    refine Bare.occupancyGood ?_ ?_ ?_ ?_ ?_ ?_ ?_ ?_
    · obtain ⟨hr, hi, hn, hp, hs, hh⟩ := bare
      constructor <;> simpa
    all_goals simp [holdsCoach, occupied, hf]
  · exact hg

theorem setOverride_good {o : Option Nat} (hg : occupancyGood s b) : occupancyGood (setOverride b o s) b := by
  have written : occupancyGood
      (updTable b
        (fun t => { t with
          planOverride := o
          lampPlan := if holdsCoach s b then lampPlanFor o t.identity else t.lampPlan }) s) b := by
    have coach : holdsCoach
        (updTable b
          (fun t => { t with
            planOverride := o
            lampPlan := if holdsCoach s b then lampPlanFor o t.identity else t.lampPlan }) s) b = holdsCoach s b := by
      simp [holdsCoach, occupied]
    obtain ⟨h1, h2, h3, h4, h5, h6, h7, hn, h9, h10, h11⟩ := hg
    simp only [Machine.occupancyGood, coach, reachable, updTable_bay_self] at *
    refine ⟨h1, h2, h3, h4, h5, h6, h7, ?_, h9, h10, h11⟩
    cases hc : holdsCoach s b <;> simp [hc] at hn ⊢
    exact hn
  unfold setOverride
  exact (Work.resting (Work.refl.onlyIf fun _ => autoCheck_work .refl) b).occupancyGood written

/-! ### Clearance requests -/

theorem storeEvaluation_good {waive : Bool} (hg : occupancyGood s b) : occupancyGood (storeEvaluation b waive s) b := by
  unfold storeEvaluation
  split
  case isTrue hc => exact Rests.post.occupancyGood (updClear_good hg hc)
  · exact hg

theorem placeHold_good {h : Hold} (hg : occupancyGood s b) (hc : holdsCoach s b = true) :
    occupancyGood (placeHold b h s) b :=
  ((holdPlaced_work .refl).resting b).occupancyGood (Rests.post.occupancyGood (updClear_good hg hc))

theorem liftHold_good {tag : Nat} (hg : occupancyGood s b) (hh : (s.bay b).clear.holds ≠ []) :
    occupancyGood (liftHold b tag s) b := by
  have hc : holdsCoach s b = true := by
    obtain ⟨-, -, -, -, -, -, -, -, -, -, hempty⟩ := hg
    by_contra h
    exact hh (hempty (by simpa using h)).2.2.2
  exact Rests.post.occupancyGood (updClear_good hg hc)

end

end Sys2Proof.Machine
end

section
/-! PROOF. What every operation keeps of the laws of the departure list and of the bay records: the loop's outcomes, the
requests, the part's own events and every command. -/

namespace Sys2Proof.Machine

/-- The second state meets the laws of the departure list and of each bay's record where the first does. -/
structure Lawful (s t : State) : Prop where
  departures : Inv.departures s → Inv.departures t
  records : ∀ x, occupancyGood s x → occupancyGood t x

namespace Lawful

variable {s t u : State} {b : Bay}

theorem refl : Lawful s s := ⟨id, fun _ => id⟩

theorem trans (h : Lawful s t) (k : Lawful t u) : Lawful s u :=
  ⟨fun hd => k.departures (h.departures hd), fun x hx => k.records x (h.records x hx)⟩

theorem onlyIf {c : Bool} {f : State → State} (hf : c = true → Lawful s (f s)) : Lawful s (onlyIf c f s) := by
  cases c with
  | true => exact hf rfl
  | false => exact refl

theorem forAllBays {f : Bay → State → State} (hf : ∀ b s, Lawful s (f b s)) : Lawful s (forAllBays f s) :=
  forAllBays_keeps (P := Lawful s) (fun b u h => h.trans (hf b u)) s refl

/-- Work that reaches no bay's record. -/
theorem of_work {w : Scope} (h : Work w s t) (hb : ∀ x, ¬w.bays x) : Lawful s t :=
  ⟨h.departures, fun x => (h.rests (hb x)).occupancyGood⟩

/-- The ordinary work of the blocks. -/
theorem work (h : Work .none s t) : Lawful s t := of_work h fun _ hb => hb

/-- Work on a reply of a bay. -/
theorem report (h : Work (.report b) s t) : Lawful s t := of_work h fun _ hb => hb

/-- Work on one bay's record that leaves it in agreement with its occupancy. -/
theorem table (h : Work (.table b fun _ => True) s t) (hg : occupancyGood s b → occupancyGood t b) : Lawful s t := by
  refine ⟨h.departures, fun x hx => ?_⟩
  by_cases hb : x = b
  · subst hb; exact hg hx
  · exact (h.rests (by exact hb)).occupancyGood hx

/-- A change outside the bays and the departure list. -/
theorem aside (hb : t.bays = s.bays) (hd : t.departures = s.departures) : Lawful s t := by
  have bay : ∀ x, t.bay x = s.bay x := fun x => by unfold State.bay; rw [hb]
  refine ⟨SameList.departures ⟨hd, fun x => ?_⟩, fun x => Rests.occupancyGood (.of_bay_eq (bay x))⟩
  unfold bookedMinute; rw [bay]

/-- The polls of all bays. -/
theorem polls {p : Bay → PollPlan} : Lawful s (setPolls p s) := by
  refine ⟨SameList.departures ⟨?_, fun x => ?_⟩, fun x => occupancyGood_congr ?_ ?_ ?_ ?_⟩
  · obtain ⟨_, h⟩ := setPolls_eq s p; rw [h]
  · unfold bookedMinute; rw [setPolls_bay]
  all_goals rw [setPolls_bay]

theorem timeTo {m : Moment} : Lawful s (timeTo m s) := aside rfl rfl

/-- Something that comes at a moment, where there is one. -/
theorem atMoment {m : Option Moment} {f : State → State}
    (hf : ∀ k, m = some k → Lawful (Machine.timeTo k s) (f (Machine.timeTo k s))) :
    Lawful s (Machine.atMoment m f s) := by
  cases m with
  | none => exact refl
  | some k => exact timeTo.trans (hf k rfl)

end Lawful

section
variable {s t : State} {b : Bay}

/-! ### The visit -/

theorem identityRead_lawful {fleet coachType : Nat} : Lawful s (identityRead b fleet coachType s) :=
  .table (identityRead_work .refl rfl trivial trivial) identityRead_good

theorem identityFailed_lawful : Lawful s (identityFailed b s) :=
  .table (identityFailed_work .refl rfl trivial trivial) identityFailed_good

theorem identDone_lawful {fleet coachType : Nat} : Lawful s (identDone b fleet coachType s) :=
  ((Lawful.work (progress_work .refl).reader).trans identityRead_lawful).trans (.work (nextClear_work Work.refl.reader))

theorem visitsExhausted_lawful : Lawful s (visitsExhausted b s) :=
  (Lawful.work (dropClears_work Work.refl.reader)).trans (.onlyIf fun _ => identityFailed_lawful)

theorem failedVisitEnds_lawful : Lawful s (failedVisitEnds b s) := by
  unfold failedVisitEnds
  split
  · exact .work (placeIfWanted_work Work.refl.reader)
  · exact visitsExhausted_lawful

theorem visitEnds_lawful {v : Visit} : Lawful s (visitEnds v s) := by
  have left : Lawful s (giveBack .reader { s with visit := none }) := .work (visitLeft_work .refl)
  unfold visitEnds
  refine (left.trans ?_).trans (.work (askVisit_work .refl))
  split
  · exact failedVisitEnds_lawful
  · split
    · exact .work (suspendedVisitEnds_work .refl)
    · exact .work (placeIfWanted_work .refl)

theorem readerNotDone_lawful {req : LoopReq} {v : Visit} : Lawful s (readerNotDone b req v s) := by
  unfold readerNotDone
  split
  · exact visitEnds_lawful
  · exact .work (visitFails_work .refl)

theorem readerDone_lawful {req : LoopReq} {reply : ReaderReply} {v : Visit} :
    Lawful s (readerDone b req reply v s) := by
  unfold readerDone
  split
  · exact .work (wakeDone_work .refl)
  · exact identDone_lawful
  · exact .work (nextClear_work (clearTaken_work (progress_work .refl)))
  · exact .work (snapshotDone_work .refl)
  · exact .work (fetchDone_work .refl)
  · exact visitEnds_lawful
  · exact .refl

theorem visitOutcome_lawful {req : LoopReq} {o : Handed} {reply : ReaderReply} {v : Visit} :
    Lawful s (visitOutcome b req o reply v s) := by
  cases o
  · exact readerDone_lawful
  · exact readerNotDone_lawful
  · exact readerNotDone_lawful
  · exact .refl

theorem readerOutcome_lawful {req : LoopReq} {wanted : Bool} {o : Handed} {reply : ReaderReply} :
    Lawful s (readerOutcome b req wanted o reply s) := by
  have late : Lawful s (lateOutcome b req o reply s) := .work (lateOutcome_work .refl)
  unfold readerOutcome
  split
  · split
    · exact visitOutcome_lawful
    · exact late
  · exact late

/-! ### Outcomes of the loop -/

theorem pollContents_lawful {r : PollReply} : Lawful s (pollContents b r s) := .report (pollContents_work .refl rfl)

theorem storeCount_lawful {n : Nat} : Lawful s (storeCount b n s) := .report (storeCount_work .refl rfl)

theorem pollEnded_lawful : Lawful s (pollEnded b s) := .table (pollEnded_work .refl rfl) pollEnded_good

theorem tablePoll_lawful {plug : Plug} {latch : Latch} : Lawful s (tablePoll b plug latch s) :=
  .table (tablePoll_work .refl rfl trivial trivial) tablePoll_good

theorem probeAnswered_lawful {plug : Plug} {latch : Latch} (ho : (s.bay b).table.occ = .lost)
    (hd : (s.bay b).table.discovered = true) : Lawful s (probeAnswered b plug latch s) :=
  .table (probeAnswered_work .refl rfl trivial (fun _ => trivial) fun _ _ _ => trivial) fun hg =>
    probeAnswered_good hg ho hd

theorem sweepAnswered_lawful {plug : Plug} {latch : Latch} (ho : (s.bay b).table.occ = .lost)
    (hd : (s.bay b).table.discovered = false) : Lawful s (sweepAnswered b plug latch s) :=
  .table (sweepAnswered_work .refl rfl trivial) fun hg => sweepAnswered_good hg ho hd

/-- The contents of a poll, once the Bay Table has taken it, and the end of the poll. -/
theorem pollTaken_lawful {r : PollReply} (h : Lawful s t) : Lawful s (pollEnded b (pollContents b r t)) :=
  (h.trans pollContents_lawful).trans pollEnded_lawful

theorem pollDone_lawful {r : PollReply} : Lawful s (pollDone b r s) := by
  unfold pollDone
  split
  case h_2 ho =>
    have ho' : ((storeCount b r.closed s).bay b).table.occ = .lost := by simpa [storeCount] using ho
    split
    case isTrue hd =>
      exact pollTaken_lawful (storeCount_lawful.trans (probeAnswered_lawful ho' (by simpa [storeCount] using hd)))
    case isFalse hd =>
      exact pollTaken_lawful (storeCount_lawful.trans (sweepAnswered_lawful ho' (by simpa [storeCount] using hd)))
  · exact pollEnded_lawful
  all_goals exact pollTaken_lawful tablePoll_lawful

theorem pollFailed_lawful : Lawful s (pollFailed b s) := by
  unfold pollFailed
  split
  case h_1 =>
    refine Lawful.trans ?_ pollEnded_lawful
    split
    · exact .refl
    · exact .table (sweepFailed_work .refl rfl trivial) sweepFailed_good
  all_goals exact pollEnded_lawful

theorem pollOutcome_lawful {c : Contents} : Lawful s (pollOutcome b c s) := by
  unfold pollOutcome
  split
  · exact pollDone_lawful
  all_goals exact pollFailed_lawful

theorem ownerOutcome_lawful {e : Entry} {o : Handed} {c : Contents} : Lawful s (ownerOutcome b e o c s) := by
  unfold ownerOutcome
  split
  · exact pollOutcome_lawful
  · exact .report (stageOutcome_work .refl (.inl rfl))
  · exact .work (latchOutcome_work .refl)
  · exact .work (sampleOutcome_work .refl)
  · exact .work (lampOffOutcome_work .refl)
  all_goals exact readerOutcome_lawful

theorem busyReply_lawful {e : Entry} : Lawful s (busyReply b e s) := by
  unfold busyReply
  dsimp only
  split
  · exact ownerOutcome_lawful
  · exact (Lawful.onlyIf fun _ => .work (Work.refl.plans (Plans.free .refl))).trans
      (.report (Work.refl.lane (.inl rfl)))

theorem updLoop_lawful {f : LoopRec → LoopRec} (hg : occupancyGood s b → occupancyGood (updLoop b f s) b) :
    Lawful s (updLoop b f s) := .table (Work.refl.bay rfl) hg

theorem clearFailures_lawful : Lawful s (clearFailures b s) := updLoop_lawful clearFailures_good

theorem leaveLine_lawful : Lawful s (leaveLine s) := .aside rfl rfl

theorem goodReply_lawful {l : OnLine} {good : Good} : Lawful s (goodReply l good s) := by
  have free : Lawful s (clearFailures l.bay (leaveLine s)) := leaveLine_lawful.trans clearFailures_lawful
  unfold goodReply
  cases good
  · exact free.trans ownerOutcome_lawful
  · exact free.trans busyReply_lawful
  · exact free.trans ownerOutcome_lawful

/-- The loss of a node, to the end of its bay's poll. -/
theorem bayLost_lawful (hr : reachable s b = true) : Lawful s (bayLost b (clearFailures b s)) := by
  have cleared : Work (.table b fun _ => True) s (clearFailures b s) := by
    unfold clearFailures updLoop
    exact Work.refl.bay rfl
  refine .table (bayLost_work cleared rfl trivial) fun hg => bayLost_rests.occupancyGood ?_
  refine lost_good (clearFailures_good hg) ?_ (by simp [clearFailures, updLoop])
  exact (reachable_congr (by simp [clearFailures, updLoop])).trans hr

theorem dropPending_lawful : Lawful s (dropPending b s) := .table (dropPending_work .refl rfl) dropPending_good

theorem nodeLost_lawful {e : Entry} (hr : reachable s b = true) : Lawful s (nodeLost b e s) :=
  (((bayLost_lawful hr).trans (updLoop_lawful setPoll_good)).trans ownerOutcome_lawful).trans dropPending_lawful

theorem countedFailure_lawful {l : OnLine} : Lawful s (countedFailure l s) := by
  unfold countedFailure
  dsimp only
  split
  case isTrue hr =>
    split
    case isTrue hf =>
      refine (leaveLine_lawful.trans (updLoop_lawful fun hg => updLoop_good hg ?_ ?_)).trans ownerOutcome_lawful
      · exact Nat.le_of_lt_succ hf
      · intro h
        have : reachable (leaveLine s) l.bay = reachable s l.bay := rfl
        rw [this, hr] at h
        exact absurd h (by decide)
    · exact leaveLine_lawful.trans (nodeLost_lawful hr)
  · exact leaveLine_lawful.trans ownerOutcome_lawful

theorem attemptFails_lawful {l : OnLine} : Lawful s (attemptFails l s) := by
  unfold attemptFails
  split
  · exact .aside rfl rfl
  · exact countedFailure_lawful

theorem noReply_lawful {l : OnLine} : Lawful s (noReply l s) := Lawful.timeTo.trans attemptFails_lawful

theorem judgeReply_lawful {l : OnLine} {bytes : List Byte} : Lawful s (judgeReply bytes l s) := by
  unfold judgeReply
  split
  · split
    · exact Lawful.timeTo.trans goodReply_lawful
    · exact Lawful.timeTo.trans attemptFails_lawful
  · exact noReply_lawful

theorem heard_lawful {bytes : List Byte} : Lawful s (heard bytes s) := by
  unfold heard
  split
  · split
    · exact .refl
    · exact judgeReply_lawful
  · exact .refl

theorem timesOut_lawful : Lawful s (timesOut s) := by
  unfold timesOut
  split
  · split
    · exact .refl
    · exact noReply_lawful
  · exact .refl

theorem quietEnds_lawful : Lawful s (quietEnds s) := by
  unfold quietEnds
  split
  · split
    · exact .aside rfl rfl
    · exact .refl
  · exact .refl

theorem busyWaitEnds_lawful {sort : LoopSort} : Lawful s (busyWaitEnds b sort s) := by
  unfold busyWaitEnds
  split
  · split
    · exact Lawful.timeTo.trans (.report (Work.refl.lane (.inl rfl)))
    · exact .refl
  · exact .refl

theorem busyPersists_lawful {sort : LoopSort} : Lawful s (busyPersists b sort s) := by
  unfold busyPersists
  split
  · split
    · exact (Lawful.timeTo.trans (.report (Work.refl.lane (.inl rfl)))).trans ownerOutcome_lawful
    · exact .refl
  · exact .refl

theorem putOnLine_lawful {c : Candidate} : Lawful s (putOnLine c s) := by
  have unlisted : Lawful s (unlist c.bay c.sort s) := by
    unfold unlist
    split
    · exact updLoop_lawful setPoll_good
    all_goals exact .report (b := c.bay) (Work.refl.lane (.inl rfl))
  exact unlisted.trans (.aside rfl rfl)

theorem arbiterChooses_lawful : Lawful s (arbiterChooses s) := by
  unfold arbiterChooses
  split
  · have judged : Lawful s (promotionsJudged s) := .polls
    refine judged.trans ?_
    unfold takeChoice
    split
    · exact putOnLine_lawful
    · exact .refl
  · exact .refl

/-- A STAGE asked of a bay, whatever its target. -/
theorem askStage_work {target : Nat} {increase : Bool} : Work (.report b) s (askStage b target increase s) := by
  have told : Work (.report b) s (noteStage b (updPower b (fun p => { p with commanded := target, watch := none }) s)) :=
    (Work.refl.power (.inl rfl)).lamp
  unfold askStage
  split
  · refine told.plans (Plans.join .refl ((reachable_congr (s := s) (by simp [noteStage])).trans ‹_›))
  · exact (told.plans (stageUnqueued_plans (stageEnded_plans .refl))).onlyIf fun _ =>
      told.plans (stageUnqueued_plans (stageEnded_plans .refl)).free

theorem askIncrease_lawful : Lawful s (askIncrease b s) := by
  have noted : Lawful s (updSupply (fun p => { p with increase := some b }) s) := .aside rfl rfl
  exact noted.trans (.report askStage_work)

theorem stageIncrease_lawful : Lawful s (stageIncrease s) := by
  unfold stageIncrease
  split
  · split
    · exact Lawful.timeTo.trans askIncrease_lawful
    · exact .refl
  · exact .refl

/-! ### The requests -/

theorem placeHold_lawful {h : Hold} (hc : holdsCoach s b = true) : Lawful s (placeHold b h s) := by
  refine .table ?_ fun hg => placeHold_good hg hc
  have held : Work (.table b fun _ => True) s (updClear b (fun c => { c with holds := c.holds ++ [h] }) s) := by
    unfold updClear
    exact Work.refl.bay rfl
  exact holdPlaced_work (held.news rfl)

theorem liftHold_lawful {tag : Nat} (hh : (s.bay b).clear.holds ≠ []) : Lawful s (liftHold b tag s) := by
  refine .table ?_ fun hg => liftHold_good hg hh
  have lifted : Work (.table b fun _ => True) s
      (updClear b (fun c => { c with holds := c.holds.filter (·.tag != tag) }) s) := by
    unfold updClear
    exact Work.refl.bay rfl
  exact lifted.news rfl

theorem storeEvaluation_lawful {waive : Bool} : Lawful s (storeEvaluation b waive s) := by
  refine .table ?_ storeEvaluation_good
  unfold storeEvaluation
  split
  · have judged : Work (.table b fun _ => True) s
        (updClear b (ClearRec.judged s.time waive (evaluate s b waive)) s) := by
      unfold updClear
      exact Work.refl.bay rfl
    exact judged.news rfl
  · exact .refl

/-- A change of a bay's departure record leaves what its occupancy says. -/
theorem departure_good {f : Option Departure → Option Departure} (hg : occupancyGood s b) :
    occupancyGood (updTable b (fun t => { t with departure := f t.departure }) s) b := by
  simp only [occupancyGood, holdsCoach, occupied, reachable, updTable_bay_self] at *
  exact hg

theorem writeDeparture_good {d : Departure} (hg : occupancyGood s b) : occupancyGood (writeDeparture b d s) b := by
  have same : (writeDeparture b d s).bay b = (updTable b (fun t => { t with departure := some d }) s).bay b := rfl
  exact (Rests.of_bay_eq same).occupancyGood (departure_good (f := fun _ => some d) hg)

theorem dropDeparture_good (hg : occupancyGood s b) : occupancyGood (dropDeparture b s) b :=
  (Rests.of_bay_eq dropDeparture_bay).occupancyGood (departure_good (f := fun _ => none) hg)

theorem judgeOverdue_lawful : Lawful s (judgeOverdue b s) := by
  refine .table (judgeOverdue_work .refl rfl) fun hg => ?_
  unfold judgeOverdue
  split
  · have same : ∀ u : State, Rests u (departuresChanged u) b := fun _ => .of_bay_eq rfl
    exact ((same _).trans .post).occupancyGood
      (departure_good (f := fun d => d.map fun d => { d with overdue := true }) hg)
  · exact hg

theorem writeDeparture_lawful {d : Departure} : Lawful s (writeDeparture b d s) :=
  .table (writeDeparture_work .refl rfl) writeDeparture_good

theorem dropDeparture_lawful : Lawful s (dropDeparture b s) :=
  .table (dropDeparture_work .refl rfl) dropDeparture_good

theorem replaceDeparture_lawful {d : Departure} : Lawful s (replaceDeparture b d s) := by
  have written : Lawful s (recompute none (heatDepartureSet b (writeDeparture b d s))) :=
    writeDeparture_lawful.trans (.work (Work.refl.plans (recompute_plans (heatDepartureSet_plans .refl))))
  exact (written.trans (.work (testMismatch_work (clearanceNews_work .refl)))).trans judgeOverdue_lawful

theorem cancelDeparture_lawful : Lawful s (cancelDeparture b s) := by
  refine (dropDeparture_lawful (b := b)).trans (.work ?_)
  exact clearanceNews_work (Work.refl.plans (recompute_plans (heatWithdrawn_plans .refl)))

theorem minuteTold_lawful : Lawful s (minuteTold s) :=
  ((((Lawful.forAllBays fun _ _ => judgeOverdue_lawful).trans
    (.forAllBays fun _ _ => .work (Work.refl.plans (fireIfDue_plans .refl)))).trans
      (.forAllBays fun _ _ => .work (expireDeferrals_work .refl))).trans
        (.forAllBays fun _ _ => .work (judgeStale_work .refl)))

theorem setOverride_lawful {o : Option Nat} : Lawful s (setOverride b o s) :=
  .table (setOverride_work .refl rfl) setOverride_good

theorem setOutOfService_lawful {on : Bool} : Lawful s (setOutOfService b on s) := by
  unfold setOutOfService
  split
  · exact .table (takeOutOfService_work .refl rfl fun _ => trivial) takeOutOfService_good
  · exact .table (bringIntoService_work .refl rfl) bringIntoService_good

theorem setQuota_lawful {q : Nat} : Lawful s (setQuota b q s) := by
  have set : Work (.table b fun _ => True) s (setQuota b q s) := by
    unfold setQuota updFaults
    exact Work.refl.bay rfl
  exact .table set (occupancyGood_congr (by simp [setQuota]) (by simp [setQuota]) (by simp [setQuota])
    (by simp [setQuota]))

theorem endRestoreIfDue_lawful : Lawful s (endRestoreIfDue s) := .onlyIf fun _ => .work (restoreEnds_work .refl)

theorem endValidityIfDue_lawful : Lawful s (endValidityIfDue b s) :=
  .onlyIf fun h => .work (validityExpires_work .refl (by simpa using (Bool.and_eq_true_iff.mp h).1))

theorem endWindowIfDue_lawful : Lawful s (endWindowIfDue b s) :=
  .onlyIf fun h => .work (windowExpires_work .refl
    (inRelease_of_state (.inr (by simpa using (Bool.and_eq_true_iff.mp h).1))))

theorem applySettings_lawful {p : SettingsPart} : Lawful s (applySettings p s) := by
  have written : Lawful s (writeSettings p s) := .aside rfl rfl
  exact (((written.trans (.onlyIf fun _ => endRestoreIfDue_lawful)).trans
    (.onlyIf fun _ => .forAllBays fun _ _ => .work (judgeStale_work .refl))).trans
      (.onlyIf fun _ => .forAllBays fun _ _ => endValidityIfDue_lawful)).trans
        (.onlyIf fun _ => .forAllBays fun _ _ => endWindowIfDue_lawful)

theorem applyPart_lawful {α : Type} {part : Option α} {f : α → State → State} (hf : ∀ v, Lawful s (f v s)) :
    Lawful s (applyPart part f s) := by
  cases part with
  | none => exact .refl
  | some v => exact hf v

theorem applyConfiguration_lawful {oos : Option Bool} {o : Option (Option Nat)} {q : Option Nat} {p : SettingsPart} :
    Lawful s (applyConfiguration b oos o q p s) :=
  ((applySettings_lawful.trans (applyPart_lawful fun _ => setOverride_lawful)).trans
    (applyPart_lawful fun _ => setQuota_lawful)).trans (applyPart_lawful fun _ => setOutOfService_lawful)

theorem configureBay_lawful {oos : Option Bool} {o : Option (Option Nat)} {q : Option Nat} {p : SettingsPart} :
    Lawful s (configureBay b oos o q p s).state := by
  unfold configureBay
  split
  · exact .refl
  split
  · exact .refl
  split
  · exact .refl
  · exact applyConfiguration_lawful

end

end Sys2Proof.Machine
end

section
/-! PROOF. Every request, every event of the part's own and every command keeps the laws of the departure list and of the
bay records. -/

namespace Sys2Proof.Machine

section
variable {s t : State} {b : Bay}

/-! ### Requests -/

/-- An owner's answer to a request that names a bay. -/
theorem withBay_lawful {n : Nat} {f : Bay → State → Answer} (hf : ∀ b, Lawful s (f b s).state) :
    Lawful s (withBay n f s).state := by
  unfold withBay
  split
  · exact hf _
  · exact .refl

theorem withoutBayField_lawful {n : Nat} {f : State → Answer} (hf : Lawful s (f s).state) :
    Lawful s (withoutBayField n f s).state := by
  unfold withoutBayField
  split
  · exact hf
  · exact .refl

/-- What is done, with its payload. -/
theorem doneWith_lawful {payload : List Byte} (h : Lawful s t) : Lawful s (doneWith payload t).state := h

/-- What is done. -/
theorem done_lawful (h : Lawful s t) : Lawful s (done t).state := h

/-- A refusal, or what is done where nothing refuses. -/
theorem answer_lawful {c : Prop} [Decidable c] {r : Result} {a : Answer} (h : ¬c → Lawful s a.state) :
    Lawful s (if c then refuse r s else a).state := by
  split
  · exact .refl
  · exact h ‹_›

theorem takeSetClock_lawful {minute : Nat} : Lawful s (takeSetClock minute s).state := by
  unfold takeSetClock
  split
  · exact .refl
  · have written : Lawful s { s with clock := { minute := minute, seconds := 0, isSet := true } } := .aside rfl rfl
    have planned : ∀ u, Lawful u (onlyIf (!s.clock.isSet) (forAllBays judgePlan) u) := fun u =>
      .onlyIf fun _ => .forAllBays fun _ _ => .work (Work.refl.plans (judgePlan_plans .refl))
    exact done_lawful ((written.trans (planned _)).trans minuteTold_lawful)

theorem takeSetOutside_lawful {temp : Int} : Lawful s (takeSetOutside temp s).state := by
  unfold takeSetOutside
  split
  · exact .refl
  · have written : Lawful s { s with outside := temp } := .aside rfl rfl
    have replanned : Lawful s (forAllBays outsideChanged { s with outside := temp }) :=
      written.trans (.forAllBays fun _ _ => .work (Work.refl.plans (outsideChanged_plans .refl)))
    exact done_lawful replanned

theorem configureDepot_lawful {oos : Option Bool} {o : Option (Option Nat)} {q : Option Nat} {p : SettingsPart} :
    Lawful s (configureDepot oos o q p s).state := answer_lawful fun _ => doneWith_lawful applySettings_lawful

theorem takeLoadProfile_lawful {n : Nat} {p : HeatProfile} : Lawful s (takeLoadProfile n p s).state := by
  unfold takeLoadProfile
  split
  · split
    · exact .aside rfl rfl
    · exact .refl
  · exact .refl

theorem loadPlan_lawful {n : Nat} {steps : List LampStep} : Lawful s (loadPlan n steps s) := by
  unfold loadPlan
  split
  case isTrue hn =>
    have written : Lawful s { s with lampPlans := s.lampPlans.set n steps } := .aside rfl rfl
    exact written.trans (.work (takeSlots_work (Work.refl.foldl fun _ _ => restartSlot_work)))
  · exact .refl

theorem takeLoadPlan_lawful {n : Nat} {steps : List LampStep} : Lawful s (takeLoadPlan n steps s).state :=
  answer_lawful fun _ => answer_lawful fun _ => done_lawful loadPlan_lawful

theorem takeSetDeparture_lawful {minute : Nat} {target : Int} {expected : Nat} :
    Lawful s (takeSetDeparture b minute target expected s).state := by
  unfold takeSetDeparture
  split
  · exact .refl
  split
  · exact .refl
  split
  · exact .refl
  · exact done_lawful replaceDeparture_lawful

theorem takeCancelDeparture_lawful : Lawful s (takeCancelDeparture b s).state :=
  answer_lawful fun _ => answer_lawful fun _ => done_lawful cancelDeparture_lawful

theorem takeRequestClearance_lawful {waive : Bool} : Lawful s (takeRequestClearance b waive s).state :=
  answer_lawful fun _ => answer_lawful fun _ => doneWith_lawful storeEvaluation_lawful

theorem takeRelease_lawful : Lawful s (takeRelease b s).state := by
  unfold takeRelease
  split
  · exact done_lawful (.work (beginRelease_work .refl ‹_›))
  · exact .refl

theorem takePlaceHold_lawful {tag reason : Nat} : Lawful s (takePlaceHold b tag reason s).state :=
  answer_lawful fun _ => answer_lawful fun hc => answer_lawful fun _ => answer_lawful fun _ =>
    done_lawful (placeHold_lawful (by simpa using hc))

theorem takeLiftHold_lawful {tag : Nat} : Lawful s (takeLiftHold b tag s).state := by
  refine answer_lawful fun _ => ?_
  split
  case isTrue hh => exact done_lawful (liftHold_lawful fun h => by simp [h] at hh)
  · exact .refl

theorem takeStartCheck_lawful : Lawful s (takeStartCheck b s).state := by
  unfold takeStartCheck
  split
  · exact answer_lawful fun _ => answer_lawful fun _ => done_lawful (.work (startCheck_work .refl))
  · exact .refl

theorem takeAbortCheck_lawful : Lawful s (takeAbortCheck b s).state := by
  unfold takeAbortCheck
  split
  · exact done_lawful (.work (abortCheck_work .refl))
  · exact .refl

theorem takeReadDepartures_lawful {index : Nat} : Lawful s (takeReadDepartures index s).state :=
  answer_lawful fun _ => .refl

theorem takeReadFaults_lawful {index : Nat} : Lawful s (takeReadFaults b index s).state := answer_lawful fun _ => .refl

theorem takeDefer_lawful {source code until_ : Nat} : Lawful s (takeDefer b source code until_ s).state := by
  refine answer_lawful fun _ => answer_lawful fun _ => ?_
  split
  · exact .refl
  · exact answer_lawful fun _ => answer_lawful fun _ => doneWith_lawful (.work (updEntry_work .refl))

theorem clearEntry_lawful {e : FaultEntry} : Lawful s (clearEntry b e s).state := by
  unfold clearEntry
  split
  · split
    · exact .refl
    · exact done_lawful (.work (askClear_work .refl))
  · split
    · exact done_lawful (.work (removeEntries_work .refl))
    · exact .refl

theorem takeClear_lawful {source code : Nat} : Lawful s (takeClear b source code s).state := by
  refine answer_lawful fun _ => ?_
  split
  · exact .refl
  · exact clearEntry_lawful

theorem reread_work {w : Scope} (h : Work w s t) : Work w s (reread b t) := by
  have marked : Work w s (rereadMarks b t) := h.reader
  have asked : Work w s
      (if visiting t b then updReader b (fun r => { r with state := .reading }) (rereadMarks b t)
       else placeTail b (rereadMarks b t)) := by
    split
    · exact marked.reader
    · exact placeTail_work marked
  exact asked.onlyIf fun _ => clearanceNews_work asked

theorem takeReread_lawful : Lawful s (takeReread b s).state :=
  answer_lawful fun _ => answer_lawful fun _ => done_lawful (.work (reread_work .refl))

theorem takeReadSupply_lawful {part : Nat} : Lawful s (takeReadSupply part s).state := by
  unfold takeReadSupply
  split <;> exact .refl

theorem takeAck_lawful {p : Port} {items : List AckItem} : Lawful s (takeAck p items s).state := by
  unfold takeAck
  split
  · exact .aside rfl rfl
  · exact .refl

theorem takeSetMask_lawful {p : Port} {kinds : Nat} : Lawful s (takeSetMask p kinds s).state := by
  unfold takeSetMask
  split
  · exact .aside rfl rfl
  · exact .refl

theorem takeOutOfSet_lawful {kind bay : Nat} {part : Bool} : Lawful s (takeOutOfSet kind part bay s).state := by
  unfold takeOutOfSet withBayOrNone
  split
  · exact withBay_lawful fun _ => .refl
  split
  · split
    · exact .refl
    · exact withBay_lawful fun _ => .refl
  · exact withoutBayField_lawful .refl

theorem withdrawClearance_lawful : Lawful s (withdrawClearance b s) := .work (withdrawClearance_work .refl)

theorem handle_lawful {p : Port} {r : Request} : Lawful s (handle p r s).state := by
  unfold handle
  split
  case h_1 => exact withoutBayField_lawful takeSetClock_lawful
  case h_2 => exact withoutBayField_lawful takeSetOutside_lawful
  case h_3 => exact withoutBayField_lawful (done_lawful (.work (setBudget_work .refl)))
  case h_4 => exact withoutBayField_lawful (done_lawful (.work (setReserve_work .refl)))
  case h_5 =>
    unfold withBayOrNone
    split
    · exact configureDepot_lawful
    · exact withBay_lawful fun _ => configureBay_lawful
  case h_6 => exact withoutBayField_lawful takeLoadProfile_lawful
  case h_7 => exact withoutBayField_lawful takeLoadPlan_lawful
  case h_8 => exact withBay_lawful fun _ => takeSetDeparture_lawful
  case h_9 => exact withBay_lawful fun _ => takeCancelDeparture_lawful
  case h_10 => exact withBay_lawful fun _ => takeRequestClearance_lawful
  case h_11 => exact withBay_lawful fun _ => takeRelease_lawful
  case h_12 => exact withBay_lawful fun _ => done_lawful withdrawClearance_lawful
  case h_13 => exact withoutBayField_lawful takeReadDepartures_lawful
  case h_14 => exact withBay_lawful fun _ => takeStartCheck_lawful
  case h_15 => exact withBay_lawful fun _ => takeAbortCheck_lawful
  case h_16 => exact withBay_lawful fun _ => takeReadFaults_lawful
  case h_17 => exact withBay_lawful fun _ => takeDefer_lawful
  case h_18 => exact withBay_lawful fun _ => takeClear_lawful
  case h_19 => exact withBay_lawful fun _ => takeReread_lawful
  case h_20 => exact withBay_lawful fun _ => takePlaceHold_lawful
  case h_21 => exact withBay_lawful fun _ => takeLiftHold_lawful
  case h_22 => exact withBay_lawful fun _ => .refl
  case h_23 => exact withoutBayField_lawful takeReadSupply_lawful
  case h_24 => exact withoutBayField_lawful .refl
  case h_25 => exact withoutBayField_lawful takeAck_lawful
  case h_26 => exact withoutBayField_lawful takeSetMask_lawful
  case h_27 => exact withoutBayField_lawful (.aside rfl rfl)
  case h_28 => exact takeOutOfSet_lawful

/-! ### Ports -/

theorem updPort_lawful {p : Port} {f : PortRec → PortRec} : Lawful s (updPort p f s) := .aside rfl rfl

theorem answerWith_lawful {p : Port} {kind : Nat} {a : Answer} (h : Lawful s a.state) :
    Lawful s (answerWith p kind a) := by
  unfold answerWith answerPort
  exact h.trans updPort_lawful

theorem refused_lawful {p : Port} {kind : Nat} {r : Result} : Lawful s (answerWith p kind (refuse r s)) :=
  answerWith_lawful .refl

theorem takeInWork_lawful {p : Port} : Lawful s (takeInWork p s) := by
  unfold takeInWork
  split
  · exact answerWith_lawful handle_lawful
  · exact .refl

theorem portRequest_lawful {p : Port} {bay : Nat} {body : Body} : Lawful s (portRequest p bay body s) := by
  unfold portRequest
  split
  · exact .refl
  split
  · split
    · exact takeInWork_lawful
    · exact .refl
  · unfold takeRequest
    split
    · exact answerWith_lawful handle_lawful
    · exact refused_lawful

theorem judgeBody_lawful {p : Port} {kind bay : Nat} {parsed : Parsed} :
    Lawful s (judgeBody p kind bay parsed s) := by
  unfold judgeBody
  split
  · exact refused_lawful
  split
  · exact refused_lawful
  split
  · exact refused_lawful
  · exact updPort_lawful

theorem judgeFrame_lawful {p : Port} {bytes : List Byte} : Lawful s (judgeFrame p bytes s) := by
  unfold judgeFrame
  split
  · exact .refl
  split
  · exact .refl
  split
  · exact refused_lawful
  unfold judgeComplete
  split
  · split
    · exact refused_lawful
    split
    · exact judgeBody_lawful
    · exact judgeBody_lawful
  · exact .refl

theorem chipSelect_lawful {p : Port} {during : Bool} {bytes : List Byte} :
    Lawful s (chipSelect p during bytes s) := by
  have shifted : Lawful s (shiftOut p bytes.length s) := updPort_lawful
  unfold chipSelect
  split
  · exact .refl
  split
  · exact shifted.trans (.onlyIf fun _ => takeInWork_lawful)
  · exact shifted.trans judgeFrame_lawful

/-! ### The part's own events -/

theorem advanceMinute_lawful : Lawful s (advanceMinute s) := by
  unfold advanceMinute
  split
  · have advanced : Lawful s { s with clock := { s.clock with minute := s.clock.minute + 1 } } := .aside rfl rfl
    exact advanced.trans minuteTold_lawful
  · exact .refl

theorem secondsPass_lawful {n : Nat} : Lawful s (secondsPass n s) := .aside rfl rfl

theorem secondsWrap_lawful : Lawful s (secondsWrap s) := by
  have zero : Lawful s { s with clock := { s.clock with seconds := 0 } } := .aside rfl rfl
  exact zero.trans advanceMinute_lawful

theorem secondsTick_lawful : Lawful s (secondsTick s) := by
  unfold secondsTick
  split
  · exact secondsPass_lawful.trans secondsWrap_lawful
  · exact .aside rfl rfl

theorem minuteAdvances_lawful : Lawful s (minuteAdvances s) := by
  unfold minuteAdvances
  split
  · exact secondsPass_lawful.trans secondsWrap_lawful
  · exact .refl

theorem shedAsserted_lawful : Lawful s (shedAsserted s) := by
  have noted : Lawful s { s with shedLine := true } := .aside rfl rfl
  unfold shedAsserted
  split
  · exact noted
  · exact noted.trans (.work (shedAsserts_work .refl))

theorem shedDeasserted_lawful : Lawful s (shedDeasserted s) := by
  have noted : Lawful s { s with shedLine := false } := .aside rfl rfl
  unfold shedDeasserted
  split
  · exact noted
  · exact noted.trans (.work (shedDeasserts_work .refl))

theorem restoreDelayEnds_lawful : Lawful s (restoreDelayEnds s) := .atMoment fun _ _ => .work (restoreEnds_work .refl)

theorem nodeIsLost_lawful : Lawful s (nodeIsLost b s) := by
  unfold nodeIsLost
  split
  · exact countedFailure_lawful
  · exact .refl

theorem lastReading_work {w : Scope} {plug : Plug} (h : Work w s t) (hb : w.bays b) : Work w s (lastReading b plug t) :=
  h.table hb

theorem lastReading_good {plug : Plug} (hg : occupancyGood s b) : occupancyGood (lastReading b plug s) b := by
  simp only [lastReading, occupancyGood, holdsCoach, occupied, reachable, updTable_bay_self] at *
  obtain ⟨h1, h2, h3, h4, h5, h6, -, h8, h9, h10, h11⟩ := hg
  exact ⟨h1, h2, h3, h4, h5, h6, Nat.zero_le 2, h8, h9, h10, h11⟩

/-- What the last reading of a count leaves of whether a bay can be reached. -/
theorem reachable_lastReading {plug : Plug} : reachable (lastReading b plug s) b = reachable s b :=
  reachable_congr (by simp [lastReading])

theorem arrives_lawful : Lawful s (arrives b s) := by
  unfold arrives
  split
  case isTrue h =>
    have hr : reachable s b = true := by simp [reachable, h.1]
    refine .table (becomeArriving_work (lastReading_work .refl rfl) rfl trivial) fun hg => ?_
    have hg' := lastReading_good (plug := .in_) hg
    exact becomeArriving_good (discovered_of_reachable hg' (reachable_lastReading.trans hr)) (failures_le hg')
  · exact .refl

theorem departsCleanly_lawful : Lawful s (departsCleanly b s) := by
  unfold departsCleanly
  split
  case isTrue h =>
    have hr : reachable s b = true := by simp [reachable, h.1]
    exact .table (cleanDeparture_work (lastReading_work .refl rfl) rfl trivial) fun hg =>
      reachable_departed_good (lastReading_good hg) (reachable_lastReading.trans hr)
  · exact .refl

theorem departsUnreleased_lawful : Lawful s (departsUnreleased b s) := by
  unfold departsUnreleased
  split
  case isTrue h =>
    have hr : reachable s b = true := by
      have hu := h.1
      simp only [unreleasedCoach, Bool.or_eq_true, Bool.and_eq_true, beq_iff_eq] at hu
      obtain ho | ⟨ho, -⟩ := hu <;> simp [reachable, ho]
    exact .table (unreleasedDeparture_work (lastReading_work .refl rfl) rfl trivial) fun hg =>
      reachable_departed_good (lastReading_good hg) (reachable_lastReading.trans hr)
  · exact .refl

theorem contactorSticks_lawful : Lawful s (contactorSticks b s) := by
  unfold contactorSticks
  split
  · exact .work (foundStuck_work .refl)
  · exact .refl

theorem checkRuns_lawful {i : Fin 4} : Lawful s (checkRuns i s) := by
  unfold checkRuns
  split
  · exact .work (grantHolder_work .refl)
  · exact .refl

theorem sampleIntervalEnds_lawful {i : Fin 4} : Lawful s (sampleIntervalEnds i s) :=
  .atMoment fun _ _ => .work (askSample_work .refl)

theorem offRetried_lawful : Lawful s (offRetried b s) := .atMoment fun _ _ => .work (askLampOff_work .refl)

theorem visitStarts_lawful : Lawful s (visitStarts s) := by
  unfold visitStarts
  split
  · exact .work (grantHolder_work .refl)
  · exact .refl

theorem settleEnds_lawful : Lawful s (settleEnds s) := .atMoment fun _ _ => .work (Work.refl.visit)

theorem visitsLimitReached_lawful : Lawful s (visitsLimitReached s) := by
  unfold visitsLimitReached
  split
  · exact Lawful.timeTo.trans goodReply_lawful
  · exact .refl

theorem readerResumes_lawful : Lawful s (readerResumes s) := by
  unfold readerResumes
  split
  · exact .work (readerResume_work .refl)
  · exact .refl

theorem stopLimitEnds_lawful : Lawful s (stopLimitEnds b s) := by
  refine .atMoment fun k hk => .work (stopLimitExpires_work .refl (inRelease_of_state (.inl ?_)))
  unfold stopDue at hk
  split at hk
  case isTrue h => exact h.1
  · exact absurd hk (by simp)

theorem latchLimitEnds_lawful : Lawful s (latchLimitEnds b s) := by
  refine .atMoment fun k hk => .work (latchLimitExpires_work .refl (inRelease_of_state (.inl ?_)))
  unfold latchDue at hk
  split at hk
  case isTrue h => exact h.1
  · exact absurd hk (by simp)

theorem windowEnds_lawful : Lawful s (windowEnds b s) := by
  refine .atMoment fun k hk => .work (windowExpires_work .refl (inRelease_of_state (.inr ?_)))
  unfold windowDue at hk
  split at hk
  case isTrue h => exact h
  · exact absurd hk (by simp)

theorem relatchRetried_lawful : Lawful s (relatchRetried b s) := by
  refine .atMoment fun k hk => .work (askClose_work .refl ?_)
  unfold relatchDue at hk
  split at hk
  case isTrue h => exact h
  · exact absurd hk (by simp)

theorem validityEnds_lawful : Lawful s (validityEnds b s) := by
  refine .atMoment fun k hk => .work (validityExpires_work .refl ?_)
  unfold validityDue at hk
  split at hk
  case isTrue h => exact h
  · exact absurd hk (by simp)

theorem lineEnds_lawful : Lawful s (lineEnds s) := by
  unfold lineEnds
  split
  · split
    · exact quietEnds_lawful
    · exact timesOut_lawful
  · exact .refl

/-- An event that comes where its moment has come. -/
theorem whenDue_lawful {m : Option Moment} {f : State → State} (hf : Lawful s (f s)) (h : whenDue m f s = some t) :
    Lawful s t := by
  unfold whenDue at h
  split at h
  · exact Option.some.inj h ▸ hf
  · exact absurd h (by simp)

theorem workDue_lawful {p : Port} (h : workDue p s = some t) : Lawful s t := by
  unfold workDue at h
  split at h
  · exact Option.some.inj h ▸ takeInWork_lawful
  · exact absurd h (by simp)

theorem bayEvents_lawful {e : State → Option State} (he : e ∈ bayEvents b) (h : e s = some t) : Lawful s t := by
  simp only [bayEvents, List.mem_cons, List.not_mem_nil, or_false] at he
  obtain rfl | rfl | rfl | rfl | rfl | rfl | rfl | rfl | rfl | rfl := he
  · exact whenDue_lawful stopLimitEnds_lawful h
  · exact whenDue_lawful latchLimitEnds_lawful h
  · exact whenDue_lawful windowEnds_lawful h
  · exact whenDue_lawful validityEnds_lawful h
  · exact whenDue_lawful relatchRetried_lawful h
  · exact whenDue_lawful offRetried_lawful h
  all_goals exact whenDue_lawful busyPersists_lawful h

theorem arbiterDue_lawful (h : arbiterDue s = some t) : Lawful s t := by
  unfold arbiterDue at h
  split at h
  · exact Option.some.inj h ▸ arbiterChooses_lawful
  · exact absurd h (by simp)

theorem increaseDue_lawful (h : increaseDue s = some t) : Lawful s t := by
  unfold increaseDue at h
  split at h
  · exact Option.some.inj h ▸ stageIncrease_lawful
  · exact absurd h (by simp)

theorem ownEvents_lawful {e : State → Option State} (he : e ∈ ownEvents) (h : e s = some t) : Lawful s t := by
  simp only [ownEvents, List.mem_append, List.mem_cons, List.not_mem_nil, or_false, List.mem_map,
    List.mem_flatMap] at he
  obtain ((first | ⟨i, -, rfl⟩) | ⟨b, -, he⟩) | last := he
  · obtain rfl | rfl | rfl | rfl | rfl | rfl := first
    · exact workDue_lawful h
    · exact workDue_lawful h
    · exact workDue_lawful h
    · exact whenDue_lawful secondsTick_lawful h
    · exact whenDue_lawful restoreDelayEnds_lawful h
    · exact whenDue_lawful settleEnds_lawful h
  · exact whenDue_lawful sampleIntervalEnds_lawful h
  · exact bayEvents_lawful he h
  · obtain rfl | rfl | rfl := last
    · exact whenDue_lawful lineEnds_lawful h
    · exact arbiterDue_lawful h
    · exact increaseDue_lawful h

theorem idle_lawful : Lawful s (idle s) := by
  unfold idle
  split
  · exact .refl
  refine Lawful.trans ?_ .polls
  cases h : ownEvents.findSome? fun e => e s with
  | none => exact .aside rfl rfl
  | some t =>
    obtain ⟨e, he, ht⟩ := List.exists_of_findSome?_eq_some h
    exact ownEvents_lawful he ht

/-! ### Commands -/

theorem atReset_lawful {inReset shedLine : Bool} {state : SupplyState} {time : Moment} {poll : PollPlan}
    {pending : List Instr} : Lawful s (State.atReset inReset shedLine state time poll pending) := by
  have bay : ∀ x, (State.atReset inReset shedLine state time poll pending).bay x = .reset poll := fun x => by
    simp [State.atReset, State.bay]
  refine ⟨fun _ => ⟨.nil, fun e he => absurd he (by simp [State.atReset]), fun x m h => ?_⟩, fun x _ => ?_⟩
  · simp [departureOf, bay, BayRec.reset, TableRec.reset] at h
  · simp [occupancyGood, holdsCoach, occupied, reachable, bay, BayRec.reset, TableRec.reset, LoopRec.reset,
      HeatRec.reset, ClearRec.reset]

theorem resetEnds_lawful : Lawful s (resetEnds s) := by
  unfold resetEnds
  split
  · exact atReset_lawful
  · exact .refl

theorem outOfReset_lawful {f : State → State} (hf : Lawful s (f s)) : Lawful s (outOfReset f s) := by
  unfold outOfReset
  split
  · exact .refl
  · exact hf

theorem carryOut_lawful {f : State → State} (hf : Lawful s (f s)) (h : carryOut f s = .next t) : Lawful s t := by
  obtain rfl : pollsHeld s (f s) = t := by simpa [carryOut] using h
  exact hf.trans .polls

/-- A row that comes out of reset alone. -/
theorem carryOutOfReset_lawful {f : State → State} (hf : Lawful s (f s)) (h : carryOut (outOfReset f) s = .next t) :
    Lawful s t := carryOut_lawful (outOfReset_lawful hf) h

/-- A request row hands its request to its port. -/
theorem exec_of_requestOf {i : Instr} {p : Port} {bay : Nat} {body : Body} (h : requestOf i = some (p, bay, body)) :
    exec i s = carryOut (portRequest p bay body) s := by
  cases i <;> simp only [requestOf, Option.some.injEq, Prod.mk.injEq, reduceCtorEq] at h <;>
    (obtain ⟨rfl, rfl, rfl⟩ := h; rfl)

/-- A row that stands for no request. -/
theorem exec_lawful_of_none {i : Instr} (hi : requestOf i = none) (h : exec i s = .next t) : Lawful s t := by
  cases i
  case reset => cases h; exact atReset_lawful
  case resetEnd => cases h; exact resetEnds_lawful
  case secondsTick => exact carryOutOfReset_lawful secondsTick_lawful h
  case minuteAdvance => exact carryOutOfReset_lawful minuteAdvances_lawful h
  case shedAsserted => exact carryOut_lawful shedAsserted_lawful h
  case shedDeasserted => exact carryOut_lawful shedDeasserted_lawful h
  case restoreDelayEnd => exact carryOutOfReset_lawful restoreDelayEnds_lawful h
  case chipSelectPeriod => exact carryOut_lawful chipSelect_lawful h
  case arbiterChoice => exact carryOutOfReset_lawful arbiterChooses_lawful h
  case pollDue => exact carryOutOfReset_lawful (.atMoment fun _ _ => .refl) h
  case probeDue => exact carryOutOfReset_lawful (.atMoment fun _ _ => .refl) h
  case replyTaken => exact carryOutOfReset_lawful heard_lawful h
  case malformedReply => exact carryOutOfReset_lawful heard_lawful h
  case replyTimeout => exact carryOutOfReset_lawful timesOut_lawful h
  case retryQuietEnd => exact carryOutOfReset_lawful quietEnds_lawful h
  case busyWaitEnd => exact carryOutOfReset_lawful busyWaitEnds_lawful h
  case busyPersistTimeout => exact carryOutOfReset_lawful busyPersists_lawful h
  case nodeLoss => exact carryOutOfReset_lawful nodeIsLost_lawful h
  case arrival => exact carryOutOfReset_lawful arrives_lawful h
  case cleanDeparture => exact carryOutOfReset_lawful departsCleanly_lawful h
  case unreleasedDeparture => exact carryOutOfReset_lawful departsUnreleased_lawful h
  case stageIncrease => exact carryOutOfReset_lawful stageIncrease_lawful h
  case stuckContactor => exact carryOutOfReset_lawful contactorSticks_lawful h
  case lampSlotTaken => exact carryOutOfReset_lawful (.work (takeHead_work .refl)) h
  case lampCheckRunning => exact carryOutOfReset_lawful checkRuns_lawful h
  case lampSampleInterval => exact carryOutOfReset_lawful sampleIntervalEnds_lawful h
  case lampOffRetry => exact carryOutOfReset_lawful offRetried_lawful h
  case visitBegin => exact carryOutOfReset_lawful visitStarts_lawful h
  case wakeSettleEnd => exact carryOutOfReset_lawful settleEnds_lawful h
  case failedVisitsLimit => exact carryOutOfReset_lawful visitsLimitReached_lawful h
  case readerResume => exact carryOutOfReset_lawful readerResumes_lawful h
  case stopLimitExpiry => exact carryOutOfReset_lawful stopLimitEnds_lawful h
  case latchLimitExpiry => exact carryOutOfReset_lawful latchLimitEnds_lawful h
  case releaseWindowExpiry => exact carryOutOfReset_lawful windowEnds_lawful h
  case relatchRetry => exact carryOutOfReset_lawful relatchRetried_lawful h
  case clearanceValidityExpiry => exact carryOutOfReset_lawful validityEnds_lawful h
  all_goals exact absurd hi (by simp [requestOf])

theorem exec_lawful {i : Instr} (h : exec i s = .next t) : Lawful s t := by
  cases hi : requestOf i with
  | none => exact exec_lawful_of_none hi h
  | some r =>
    obtain ⟨p, bay, body⟩ := r
    rw [exec_of_requestOf hi] at h
    exact carryOut_lawful portRequest_lawful h

theorem step_lawful (h : step s = .next t) : Lawful s t := by
  unfold step at h
  split at h
  case h_1 rest _ =>
    have dequeued : Lawful s { s with pending := rest } := .aside rfl rfl
    exact dequeued.trans (exec_lawful h)
  case h_2 =>
    cases h
    exact idle_lawful

end

/-- Settles O55: every block's work, and so every step, writes the departure list and the records together. -/
theorem stepKeepsTheDepartureList : Obligations.StepKeepsTheDepartureList := by
  unfold Obligations.StepKeepsTheDepartureList
  exact fun s t hd h => (step_lawful h).departures hd

/-- Settles O57: the blocks' ordinary work rests at every bay's record, and each operation of the Bay Table leaves one
that agrees with its occupancy. -/
theorem stepKeepsTheBayRecords : Obligations.StepKeepsTheBayRecords := by
  unfold Obligations.StepKeepsTheBayRecords
  exact fun s t hg h b => (step_lawful h).records b (hg b)

end Sys2Proof.Machine
end

section
/-! PROOF. Reset: what every record holds right after it, and the laws it meets (spec 01, R2). -/

namespace Sys2Proof.Machine

theorem atReset_bay {inReset shedLine : Bool} {state : SupplyState} {time : Moment} {poll : PollPlan}
    {pending : List Instr} {b : Bay} :
    (State.atReset inReset shedLine state time poll pending).bay b = .reset poll := by
  simp [State.atReset, State.bay]

/-- Settles O3: a reset bay record is the same for every bay. -/
theorem resetPutsEveryBayRecordAtItsResetValue : Obligations.ResetPutsEveryBayRecordAtItsResetValue := by
  unfold Obligations.ResetPutsEveryBayRecordAtItsResetValue
  refine fun s => ⟨_, rfl, rfl, fun b => ?_⟩
  unfold resetBegins
  rw [atReset_bay]
  exact ⟨rfl, rfl, rfl, rfl, rfl, rfl, rfl⟩

/-! ### The laws right after reset -/

theorem reset_bay {b : Bay} : State.reset.bay b = .reset (.sweep resetLength) := atReset_bay

theorem reset_pool : Inv.pool State.reset := by
  refine ⟨?_, fun b => ?_, rfl⟩
  · simp [poolBalanced, reset_bay, BayRec.reset, FaultRec.reset]
    rfl
  · rw [reset_bay]
    exact ⟨by decide, by decide, by decide, .nil, fun e he => absurd he (by simp [BayRec.reset, FaultRec.reset])⟩

theorem reset_supply : Inv.supply State.reset := by
  refine ⟨by decide, fun b => ?_⟩
  rw [reset_bay]
  exact ⟨Nat.le_refl 0, Nat.le_refl 0⟩

theorem reset_clearance : Inv.clearance State.reset := by
  intro b
  simp only [inRelease, reset_bay]
  unfold ClearRec.good
  decide

theorem reset_latch : Inv.latch State.reset := by
  intro b
  have pending : openPending State.reset b = false := by
    simp [openPending, laneOf, reset_bay, BayRec.reset, LoopRec.reset, LoopRec.lane, Lane.empty]
  have opening : opening State.reset b = false := rfl
  simp [pending, opening]

theorem reset_slot {i : Fin 4} : State.reset.slots[i] = none := by simp [State.reset, State.atReset]

theorem reset_lamps : Inv.lamps State.reset := by
  refine ⟨.nil, fun b => ?_, fun i b => ?_, fun b => ?_⟩
  · have queue : State.reset.lampQueue = [] := rfl
    simp [queue, reset_bay, BayRec.reset, LampRec.reset]
  · rw [reset_slot, reset_bay]
    simp [BayRec.reset, LampRec.reset]
  · simp [reset_bay, BayRec.reset, LampRec.reset]

/-- Settles O5: the law of the departure list and of the bay records holds at any reset, the others at this one. -/
theorem resetMeetsEveryLaw : Obligations.ResetMeetsEveryLaw := by
  unfold Obligations.ResetMeetsEveryLaw
  have departures : Inv.departures State.reset :=
    ⟨.nil, fun e he => absurd he (by simp [State.reset, State.atReset]), fun b m h => by
      simp [departureOf, reset_bay, BayRec.reset, TableRec.reset] at h⟩
  have occupancy : Inv.occupancy State.reset := fun b => by
    simp [occupancyGood, holdsCoach, occupied, reachable, reset_bay, BayRec.reset, TableRec.reset, LoopRec.reset,
      HeatRec.reset, ClearRec.reset]
  refine ⟨⟨reset_pool, departures, reset_supply, occupancy, reset_clearance, reset_latch, reset_lamps⟩, ?_⟩
  intro s hreset hline hpending htime
  have time : max s.time resetLength = resetLength := Nat.max_eq_right htime
  simp only [exec, execResetEnd, resetEnds, hreset, hline, hpending, time, if_true]
  rfl

end Sys2Proof.Machine
end

section
/-! PROOF. What the blocks' work leaves: events stay announced, calls outside its scope are not posted, the depot's own
fields, and the departure list of a work that writes no record. -/

namespace Sys2Proof.Machine

section
variable {w : Scope} {s t u : State} {b : Bay}

/-! ### Events -/

/-- The bay set of a kind on a port. -/
def eventSet (s : State) (p : Port) (k : Fin 18) : BaySet := (s.port p).baySets[k]

theorem announced_iff {e : BayEvent} :
    announced e b s ↔ ∀ p, eventSet s p (bayEventKind e) &&& bayBit b = bayBit b := Iff.rfl

theorem eventSet_post {e : BayEvent} {x : Bay} {p : Port} {k : Fin 18} :
    eventSet (post e x s) p k =
      if k = bayEventKind e then eventSet s p k ||| bayBit x else eventSet s p k := by
  unfold eventSet
  rw [post_port]
  unfold PortRec.postBay
  split
  case isTrue h => subst h; simp
  case isFalse h =>
    have h' : (bayEventKind e).val ≠ k.val := fun h0 => h (Fin.ext h0.symm)
    exact Vector.getElem_set_ne (Fin.isLt _) (Fin.isLt _) h'

/-- An event just posted is announced. -/
theorem announced_post {e : BayEvent} : announced e b (post e b s) := by
  rw [announced_iff]
  intro p
  rw [eventSet_post, if_pos rfl]
  ext i
  simp
  tauto

/-- What an event set becomes: bays join it, and none leaves it. -/
theorem announced_of_post {e e' : BayEvent} {x : Bay} (h : announced e b s) : announced e b (post e' x s) := by
  rw [announced_iff] at *
  intro p
  have hp := h p
  rw [eventSet_post]
  split
  · ext i hi
    have := congrArg (fun v => v.getLsbD i) hp
    simp at this ⊢
    tauto
  · exact hp

/-- Kinds without a bay leave the bay sets. -/
theorem eventSet_postPoolLow {p : Port} {k : Fin 18} : eventSet (postPoolLow s) p k = eventSet s p k := by
  unfold eventSet postPoolLow
  rw [updPorts_port]

theorem eventSet_postSupply {p : Port} {k : Fin 18} : eventSet (postSupply s) p k = eventSet s p k := by
  unfold eventSet postSupply
  rw [updPorts_port]

/-- The announced events are those of the bay sets. -/
theorem announced_congr {e : BayEvent} (h : ∀ p, eventSet t p (bayEventKind e) = eventSet s p (bayEventKind e))
    (ha : announced e b s) : announced e b t := by
  rw [announced_iff] at *
  exact fun p => (h p).symm ▸ ha p

/-- Event sets with the ports as they were. -/
theorem eventSet_congr (h : t.ports = s.ports) {p : Port} {k : Fin 18} : eventSet t p k = eventSet s p k := by
  unfold eventSet State.port; rw [h]

theorem Plans.eventSet (h : Plans s t) {p : Port} {k : Fin 18}
    (hk : ∀ e, isHeatEvent e = true → bayEventKind e ≠ k) : eventSet t p k = eventSet s p k := by
  induction h with
  | refl => rfl
  | post _ he ih => rw [eventSet_post, if_neg fun h => hk _ he h.symm, ih]
  | _ => rename_i ih; exact (eventSet_congr rfl).trans ih

theorem Plans.announced (h : Plans s t) {e : BayEvent} (ha : announced e b s) : announced e b t := by
  induction h with
  | refl => exact ha
  | post _ _ ih => exact announced_of_post ih
  | _ => rename_i ih; exact ih

/-- What is announced stays announced. -/
theorem Work.announced (h : Work w s t) {e : BayEvent} (ha : announced e b s) : announced e b t := by
  induction h with
  | refl => exact ha
  | plans _ k ih => exact k.announced ih
  | post _ _ ih => exact announced_of_post ih
  | poolLow _ ih => exact announced_congr (fun _ => eventSet_postPoolLow) ih
  | supply _ ih => exact announced_congr (fun _ => eventSet_postSupply) ih
  | _ => rename_i ih; exact ih

/-- The kinds of two events that differ differ. -/
theorem bayEventKind_inj {e e' : BayEvent} (h : bayEventKind e = bayEventKind e') : e = e' := by
  cases e <;> cases e' <;> simp_all [bayEventKind]

/-- A call outside the scope is not posted. -/
theorem Work.eventSet (h : Work w s t) {e : BayEvent} (hc : isCall e = true) (he : ¬w.calls e) {p : Port} :
    eventSet t p (bayEventKind e) = eventSet s p (bayEventKind e) := by
  induction h with
  | refl => rfl
  | plans _ k ih =>
    refine (k.eventSet fun e' he' h0 => ?_).trans ih
    rw [bayEventKind_inj h0] at he'
    cases e <;> simp [isCall, isHeatEvent] at hc he'
  | post _ hp ih =>
    rw [eventSet_post, if_neg, ih]
    intro h0
    exact he (bayEventKind_inj h0 ▸ hp (bayEventKind_inj h0 ▸ hc))
  | poolLow _ ih => exact eventSet_postPoolLow.trans ih
  | supply _ ih => exact eventSet_postSupply.trans ih
  | _ => rename_i ih; exact (eventSet_congr rfl).trans ih

theorem pollsHeld_eventSet {p : Port} {k : Fin 18} : eventSet (pollsHeld s t) p k = eventSet t p k :=
  eventSet_congr (by simp)

theorem pollsHeld_announced {e : BayEvent} (h : announced e b t) : announced e b (pollsHeld s t) :=
  announced_congr (fun _ => pollsHeld_eventSet) h

/-! ### The depot's own fields -/

/-- Nothing from outside the blocks has changed: times, lines, clock, settings, weather, profiles and plans. -/
structure Outside (s t : State) : Prop where
  time : t.time = s.time
  lastSecond : t.lastSecond = s.lastSecond
  inReset : t.inReset = s.inReset
  clock : t.clock = s.clock
  settings : t.settings = s.settings
  outside : t.outside = s.outside
  profiles : t.profiles = s.profiles
  lampPlans : t.lampPlans = s.lampPlans

theorem Outside.refl : Outside s s := ⟨rfl, rfl, rfl, rfl, rfl, rfl, rfl, rfl⟩

theorem Plans.outside (h : Plans s t) : Outside s t := by
  induction h with
  | refl => exact .refl
  | _ => rename_i ih; exact ⟨ih.1, ih.2, ih.3, ih.4, ih.5, ih.6, ih.7, ih.8⟩

theorem Work.outside (h : Work w s t) : Outside s t := by
  induction h with
  | refl => exact .refl
  | plans _ k ih =>
    have := k.outside
    exact ⟨this.1.trans ih.1, this.2.trans ih.2, this.3.trans ih.3, this.4.trans ih.4, this.5.trans ih.5,
      this.6.trans ih.6, this.7.trans ih.7, this.8.trans ih.8⟩
  | _ => rename_i ih; exact ⟨ih.1, ih.2, ih.3, ih.4, ih.5, ih.6, ih.7, ih.8⟩

/-- Work that writes no bay's record leaves the departure list. -/
theorem Work.sameDepartures (h : Work w s t) (hb : ∀ x, ¬w.bays x) : t.departures = s.departures := by
  induction h with
  | refl => rfl
  | plans _ k ih => exact k.sameList.1.trans ih
  | written _ h0 => exact absurd h0 (hb _)
  | dropped _ h0 => exact absurd h0 (hb _)
  | _ => rename_i ih; exact ih

/-- The line, where it is free, stays free. -/
theorem Plans.line (h : Plans s t) : t.line = s.line := by
  induction h with
  | refl => rfl
  | _ => rename_i ih; exact ih

theorem Work.line_none (h : Work w s t) (hl : s.line = none) : t.line = none := by
  induction h with
  | refl => exact hl
  | plans _ k ih => exact k.line.trans ih
  | line _ ih => simp [ih]
  | _ => rename_i ih; exact ih

end

end Sys2Proof.Machine
end

section
/-! PROOF. What the Planner, the allocator and the grants of service power leave of heat records, lamp records and reader
contexts. -/

namespace Sys2Proof.Machine

section
variable {s t u : State} {b : Bay}

/-! ### Heat records -/

/-- The heat record is as it was but for what a projection and a grant judge: the projection, LATE and STARVED. -/
structure HeatRec.Steady (h h' : HeatRec) : Prop where
  state : h'.state = h.state
  demand : h'.demand = h.demand
  plannedStart : h'.plannedStart = h.plannedStart
  plannedLead : h'.plannedLead = h.plannedLead
  cabin : h'.cabin = h.cabin
  unreachable : h'.unreachable = h.unreachable
  profile : h'.profile = h.profile

theorem HeatRec.Steady.refl {h : HeatRec} : h.Steady h := ⟨rfl, rfl, rfl, rfl, rfl, rfl, rfl⟩

theorem HeatRec.Steady.trans {h h' h'' : HeatRec} (k : h.Steady h') (l : h'.Steady h'') : h.Steady h'' :=
  ⟨l.1.trans k.1, l.2.trans k.2, l.3.trans k.3, l.4.trans k.4, l.5.trans k.5, l.6.trans k.6, l.7.trans k.7⟩

/-- Every heat record is steady. -/
def Steady (s t : State) : Prop := ∀ x, (s.bay x).heat.Steady (t.bay x).heat

theorem Steady.refl : Steady s s := fun _ => .refl

theorem Steady.trans (h : Steady s t) (k : Steady t u) : Steady s u := fun x => (h x).trans (k x)

theorem Steady.of_view (h : t.heatsView = s.heatsView) : Steady s t := fun x => by rw [heat_of_view h]; exact .refl

theorem Steady.updHeat {f : HeatRec → HeatRec} (hf : (s.bay b).heat.Steady (f (s.bay b).heat)) :
    Steady s (updHeat b f s) := by
  intro x
  rw [updHeat_bay]
  split
  case isTrue h => subst h; exact hf
  · exact .refl

theorem Steady.onlyIf {c : Bool} {f : State → State} (hf : ∀ t, Steady t (f t)) : Steady s (onlyIf c f s) := by
  cases c with
  | true => exact hf s
  | false => exact .refl

theorem Steady.forAllBays {f : Bay → State → State} (hf : ∀ b t, Steady t (f b t)) : Steady s (forAllBays f s) :=
  forAllBays_keeps (P := Steady s) (fun b t h => h.trans (hf b t)) s .refl

theorem project_steady : Steady s (project b s) := by
  unfold project
  split
  · have projected := Steady.updHeat (s := s) (b := b)
      (f := fun h => { h with
        projection := projectionOf s b, late := isLate (projectionOf s b) (departureOf s b) })
      ⟨rfl, rfl, rfl, rfl, rfl, rfl, rfl⟩
    exact projected.trans (.onlyIf fun t => .of_view (by simp))
  · exact .refl

theorem judgeStarved_steady : Steady s (judgeStarved b s) := .updHeat ⟨rfl, rfl, rfl, rfl, rfl, rfl, rfl⟩

theorem setGrant_steady {starting : Option Bay} {grant : Nat} : Steady s (setGrant starting b grant s) := by
  unfold setGrant
  split
  · exact .refl
  · have granted : Steady s (updPower b (fun p => { p with grant := grant }) s) := .of_view (by simp)
    exact (granted.trans judgeStarved_steady).trans (.onlyIf fun _ => project_steady)

theorem recompute_steady {starting : Option Bay} : Steady s (recompute starting s) := by
  have books : Steady s (recomputeBooks starting s) := .forAllBays fun _ _ => setGrant_steady
  have reduced : Steady (recomputeBooks starting s) (askReductions (recomputeBooks starting s)) := .of_view (by simp)
  exact books.trans reduced

theorem setDemand_steady {starting : Option Bay} {demand : Nat} :
    Steady (updHeat b (fun h => { h with demand := demand }) s) (setDemand starting b demand s) := by
  unfold setDemand
  split
  case isTrue h =>
    intro x
    rw [updHeat_bay]
    split
    case isTrue hx => subst hx; exact ⟨rfl, h, rfl, rfl, rfl, rfl, rfl⟩
    · exact .refl
  · exact recompute_steady

/-- Every other heat record is steady. -/
def SteadyBut (b : Bay) (s t : State) : Prop := ∀ x, x ≠ b → (s.bay x).heat.Steady (t.bay x).heat

theorem Steady.but (h : Steady s t) : SteadyBut b s t := fun x _ => h x

theorem SteadyBut.refl : SteadyBut b s s := fun _ _ => .refl

theorem SteadyBut.trans (h : SteadyBut b s t) (k : SteadyBut b t u) : SteadyBut b s u := fun x hx => (h x hx).trans (k x hx)

theorem SteadyBut.updHeat {f : HeatRec → HeatRec} : SteadyBut b s (updHeat b f s) := by
  intro x hx
  rw [updHeat_bay_ne hx]
  exact .refl

theorem setDemand_but {starting : Option Bay} {demand : Nat} : SteadyBut b s (setDemand starting b demand s) :=
  SteadyBut.updHeat.trans setDemand_steady.but

/-- A demand set stands. -/
theorem setDemand_demand {starting : Option Bay} {demand : Nat} :
    ((setDemand starting b demand s).bay b).heat.demand = demand := by
  rw [(setDemand_steady b).demand]; simp

theorem setDemand_state {starting : Option Bay} {demand : Nat} :
    ((setDemand starting b demand s).bay b).heat.state = (s.bay b).heat.state := by
  rw [(setDemand_steady b).state]; simp

theorem post_steady {e : BayEvent} {x : Bay} : Steady s (post e x s) := .of_view (by simp)

theorem beginHeating_but : SteadyBut b s (beginHeating b s) :=
  ((SteadyBut.updHeat.trans post_steady.but).trans setDemand_but).trans judgeStarved_steady.but

theorem beginHeating_state : ((beginHeating b s).bay b).heat.state = .heating := by
  unfold beginHeating
  rw [(judgeStarved_steady b).state, setDemand_state]
  simp

theorem becomeHolding_but : SteadyBut b s (becomeHolding b s) :=
  (SteadyBut.updHeat.trans post_steady.but).trans setDemand_but

theorem becomeHolding_state : ((becomeHolding b s).bay b).heat.state = .holding := by
  unfold becomeHolding
  rw [setDemand_state]
  simp

theorem readyTest_but : SteadyBut b s (readyTest b s) := by
  unfold readyTest
  split
  · split
    · exact becomeHolding_but
    · exact project_steady.but
  · exact project_steady.but

/-- The ready test leaves the state or makes it HOLDING. -/
theorem readyTest_state : ((readyTest b s).bay b).heat.state = .holding ∨
    ((readyTest b s).bay b).heat.state = (s.bay b).heat.state := by
  unfold readyTest
  split
  · split
    · exact .inl becomeHolding_state
    · exact .inr (project_steady b).state
  · exact .inr (project_steady b).state

theorem fireIfDue_but : SteadyBut b s (fireIfDue b s) := by
  unfold fireIfDue
  split
  · split
    · exact beginHeating_but.trans readyTest_but
    · exact .refl
  · exact .refl

/-- A planned start is still to come: the bay does not wait in PLANNED for a minute that has passed. -/
def unfired (s : State) (b : Bay) : Prop :=
  (s.bay b).heat.state = .planned → ∀ m ∈ (s.bay b).heat.plannedStart, s.clock.isSet = true → s.clock.minute < m

/-- A started bay heats or holds. -/
theorem started_state : ((readyTest b (beginHeating b s)).bay b).heat.state = .heating ∨
    ((readyTest b (beginHeating b s)).bay b).heat.state = .holding := by
  obtain h | h := readyTest_state (s := beginHeating b s) (b := b)
  · exact .inr h
  · exact .inl (h.trans beginHeating_state)

theorem fireIfDue_unfired : unfired (fireIfDue b s) b := by
  unfold fireIfDue
  split
  case h_1 start hs hp =>
    split
    case isTrue =>
      intro h
      obtain h' | h' := started_state (s := s) (b := b) <;> rw [h'] at h <;> exact absurd h (by decide)
    case isFalse hd =>
      intro _ m hm hset
      obtain rfl : start = m := Option.some.inj (hp.symm.trans hm)
      by_contra hlt
      exact hd ⟨hset, Nat.le_of_not_lt hlt⟩
  case h_2 hn =>
    intro h m hm
    exact absurd hm (hn m h)

theorem plan_but : SteadyBut b s (plan b s) := by
  unfold plan
  split
  · exact .updHeat
  · exact .refl

theorem replan_but : SteadyBut b s (replan b s) := plan_but.trans fireIfDue_but

theorem judgePlan_but : SteadyBut b s (judgePlan b s) := by
  unfold judgePlan
  split
  · exact SteadyBut.updHeat.trans replan_but
  · exact .refl

/-- OFF is entered for good where the bay may not be planned. -/
theorem enterOff_heat (h : departureOf s b = none) :
    ((enterOff b s).bay b).heat =
      { (s.bay b).heat with state := .off, plannedStart := none, plannedLead := none, unreachable := false } := by
  have no : mayPlan (updHeat b (fun h => { h with
      state := .off, plannedStart := none, plannedLead := none, unreachable := false }) s) b = false := by
    have : departureOf (updHeat b (fun h => { h with
        state := .off, plannedStart := none, plannedLead := none, unreachable := false }) s) b = none := by
      simpa [departureOf] using h
    simp [mayPlan, this]
  unfold enterOff judgePlan
  rw [if_neg (by rw [no]; decide)]
  simp

/-! ### Lamp records -/

/-- A lane leaves the lamp record. -/
theorem updLane_lamp {x : Bay} {sort : LoopSort} {f : Lane → Lane} :
    ((updLane x sort f s).bay b).lamp = (s.bay b).lamp := by
  unfold updLane updLoop
  rw [updBay_bay]
  split
  case isTrue h => subst h; rfl
  · rfl

/-- The Planner and the allocator tell the Lamp Check Engine of a STAGE and nothing else. -/
theorem Plans.lamp (h : Plans s t) : ∃ m, (t.bay b).lamp = { (s.bay b).lamp with latestStage := m } := by
  induction h with
  | refl => exact ⟨_, rfl⟩
  | heat _ _ ih => simpa using ih
  | power _ _ _ ih => simpa using ih
  | @told t x _ _ _ ih =>
    obtain ⟨m, hm⟩ := ih
    unfold noteStage
    rw [updLamp_bay]
    split
    case isTrue hx => subst hx; exact ⟨some t.time, by simp [hm]⟩
    · exact ⟨m, by simpa using hm⟩
  | free _ ih => exact ih
  | join _ _ ih =>
    unfold joinStage
    rwa [updLane_lamp]
  | post _ _ ih => exact ih

/-! ### Reader contexts -/

/-- The reader contexts are as they were but for the states of those from which a read is wanted. -/
structure ReadersKept (s t : State) : Prop where
  marks : ∀ x, ∃ st, (t.bay x).reader = { (s.bay x).reader with state := st }
  still : ∀ x, wantsRead s x = false → (t.bay x).reader = (s.bay x).reader

namespace ReadersKept

theorem refl : ReadersKept s s := ⟨fun _ => ⟨_, rfl⟩, fun _ _ => rfl⟩

theorem trans (h : ReadersKept s t) (k : ReadersKept t u) : ReadersKept s u := by
  refine ⟨fun x => ?_, fun x hx => ?_⟩
  · obtain ⟨m, hm⟩ := h.marks x
    obtain ⟨n, hn⟩ := k.marks x
    exact ⟨n, by rw [hn, hm]⟩
  · have same := h.still x hx
    exact (k.still x (by unfold wantsRead at *; rwa [same])).trans same

theorem of_reader (h : ∀ x, (t.bay x).reader = (s.bay x).reader) : ReadersKept s t :=
  ⟨fun x => ⟨_, h x⟩, fun x _ => h x⟩

theorem of_view (h : t.readersView = s.readersView) : ReadersKept s t := of_reader (reader_of_view h)

/-- A context's state where a read is wanted. -/
theorem updReader {f : ReaderState → ReaderState} {x : Bay} (h : wantsRead s x = true) :
    ReadersKept s (updReader x (fun r => { r with state := f r.state }) s) := by
  refine ⟨fun y => ?_, fun y hy => ?_⟩
  · rw [updReader_bay]
    split
    case isTrue hx => subst hx; exact ⟨_, rfl⟩
    · exact ⟨_, rfl⟩
  · rw [updReader_bay]
    split
    case isTrue hx => subst hx; rw [h] at hy; exact absurd hy (by decide)
    · rfl

theorem onlyIf {c : Bool} {f : State → State} (hf : c = true → ReadersKept s (f s)) : ReadersKept s (onlyIf c f s) := by
  cases c with
  | true => exact hf rfl
  | false => exact refl

theorem foldl {α : Type} {l : List α} {f : State → α → State} (hf : ∀ a u, ReadersKept u (f u a)) :
    ReadersKept s (l.foldl f s) := by
  induction l generalizing s with
  | nil => exact refl
  | cons a l ih => exact (hf a s).trans ih

end ReadersKept

theorem visitBegins_readers {rest : List Bay} : ReadersKept s (visitBegins b rest s) := by
  have begun : ReadersKept s (updReader b
      (fun r => { r with state := if r.identityWanted || r.passWanted then .reading else r.state })
      { s with
        readerQueue := rest
        visit := some
          { bay := b, phase := .wake, budget := s.settings.recordBudget, fetches := 0, settleUntil := none,
            failed := false, suspended := false } }) := by
    refine ⟨fun x => ?_, fun x hx => ?_⟩
    · rw [updReader_bay]
      split
      case isTrue h => subst h; exact ⟨_, rfl⟩
      · exact ⟨_, rfl⟩
    · rw [updReader_bay]
      split
      case isTrue h =>
        subst h
        unfold wantsRead at hx
        change { (s.bay x).reader with
          state := if ((s.bay x).reader.identityWanted || (s.bay x).reader.passWanted) = true then .reading
            else (s.bay x).reader.state } = (s.bay x).reader
        rw [hx]; rfl
      · rfl
  unfold visitBegins
  exact begun.trans (.of_view (by simp only [askReader_keeps]))

theorem grantHolder_readers {o : Holder} : ReadersKept s (grantHolder o s) := by
  unfold grantHolder
  split
  · split
    · exact .of_view (by simp)
    · exact .refl
  · split
    · exact (ReadersKept.of_view (by simp)).trans visitBegins_readers
    · exact .refl

theorem requestPower_readers {o : Holder} : ReadersKept s (requestPower o s) := by
  unfold requestPower
  split
  · exact grantHolder_readers
  · exact .of_view (by simp)

theorem grantPass_readers : ReadersKept s (grantPass s) := by
  refine ReadersKept.foldl fun o u => ?_
  unfold passTurn
  split
  · exact grantHolder_readers
  · exact .refl

theorem giveBack_readers {o : Holder} : ReadersKept s (giveBack o s) := by
  unfold giveBack
  split
  · exact (ReadersKept.of_view (by simp)).trans grantPass_readers
  · exact .of_view (by simp)

theorem askVisit_readers : ReadersKept s (askVisit s) := by
  unfold askVisit
  split
  · exact .of_view (by simp)
  · split
    · exact .refl
    · exact requestPower_readers
  · exact .refl

theorem markQueued_readers : ReadersKept s (markQueued b s) :=
  .onlyIf fun h => .updReader (f := fun _ => .queued) h

theorem placeTail_readers : ReadersKept s (placeTail b s) := by
  unfold placeTail
  split
  · have queued : ReadersKept s
        (if s.readerQueue.contains b then s else { s with readerQueue := s.readerQueue ++ [b] }) := by
      split
      · exact .refl
      · exact .of_reader fun _ => rfl
    exact (queued.trans markQueued_readers).trans askVisit_readers
  · exact .refl

theorem leaveQueues_readers : ReadersKept s (leaveQueues b s) := by
  have left : ReadersKept s
      { s with readerQueue := s.readerQueue.filter (· != b), suspended := s.suspended.filter (· != b) } :=
    .of_reader fun _ => rfl
  exact left.trans askVisit_readers

theorem takeSlot_readers {i : Fin 4} : ReadersKept s (takeSlot i b s) := by
  unfold takeSlot
  refine ReadersKept.trans (.of_reader fun _ => ?_) requestPower_readers
  rw [updLamp_reader]
  rfl

theorem completeEmpty_readers : ReadersKept s (completeEmpty b s) := .of_view (by simp)

theorem takeHead_readers : ReadersKept s (takeHead s) := by
  unfold takeHead
  split
  case h_1 rest _ _ _ =>
    have left : ReadersKept s { s with lampQueue := rest } := .of_reader fun _ => rfl
    split
    · exact left.trans completeEmpty_readers
    · exact left.trans takeSlot_readers
  · exact .refl

theorem takeSlots_readers : ReadersKept s (takeSlots s) := by
  unfold takeSlots
  generalize s.lampQueue.length = n
  induction n generalizing s with
  | zero => exact .refl
  | succ n ih => exact takeHead_readers.trans ih

theorem abortSlot_readers {i : Fin 4} {c : Slot} : ReadersKept s (abortSlot i c s) := by
  unfold abortSlot
  exact (ReadersKept.of_view (by simp)).trans giveBack_readers

theorem abortCheck_readers {check : CheckState} : ReadersKept s (abortCheck b check s) := by
  have aborted : ∀ f : LampRec → LampRec, ReadersKept s (updLamp b f s) := fun _ => .of_view (by simp)
  unfold abortCheck
  dsimp only
  split
  · split
    · split
      · exact ((aborted _).trans abortSlot_readers).trans takeSlots_readers
      · exact aborted _
    · exact (aborted _).trans (.of_reader fun _ => rfl)
  · exact .refl

theorem lampCleanup_readers : ReadersKept s (lampCleanup b s) := by
  unfold lampCleanup
  have aborted : ReadersKept s (abortCheck b .none s) := abortCheck_readers
  exact aborted.trans (.of_view (by simp))

end

end Sys2Proof.Machine
end

section
/-! PROOF. Arrival, and a place in the reader queue (spec 01, R6; spec 07, R135). -/

namespace Sys2Proof.Machine

section
variable {s t u : State} {b : Bay}

/-- A command that comes out of reset alone. -/
theorem carryOut_outOfReset {f : State → State} (h : s.inReset = false) :
    carryOut (outOfReset f) s = .next (pollsHeld s (f s)) := by
  simp [carryOut, outOfReset, h]

/-! ### The reader queue -/

/-- The bay waits in the reader queue or is being visited. -/
def placed (s : State) (b : Bay) : Prop := b ∈ s.readerQueue ∨ visiting s b = true

theorem queue_of_view (h : t.readersView = s.readersView) : t.readerQueue = s.readerQueue := congrArg (·.1) h

theorem suspended_of_view (h : t.readersView = s.readersView) : t.suspended = s.suspended := congrArg (·.2.1) h

theorem visit_of_view (h : t.readersView = s.readersView) : t.visit = s.visit := congrArg (·.2.2.1) h

theorem placed_congr (h : t.readersView = s.readersView) : placed t b ↔ placed s b := by
  unfold placed visiting
  rw [queue_of_view h, visit_of_view h]

theorem askReader_view {req : LoopReq} : (askReader b req s).readersView = s.readersView := by simp

theorem visitBegins_queue {x : Bay} {rest : List Bay} : (visitBegins x rest s).readerQueue = rest := by
  unfold visitBegins
  exact queue_of_view askReader_view

theorem visitBegins_visit {x : Bay} {rest : List Bay} :
    (visitBegins x rest s).visit =
      some
        { bay := x, phase := .wake, budget := s.settings.recordBudget, fetches := 0, settleUntil := none,
          failed := false, suspended := false } := by
  unfold visitBegins
  exact visit_of_view askReader_view

theorem visitBegins_placed {x : Bay} {rest : List Bay} (h : b = x ∨ b ∈ rest) : placed (visitBegins x rest s) b := by
  unfold placed visiting
  rw [visitBegins_queue, visitBegins_visit]
  obtain rfl | h := h
  · right; simp
  · left; exact h

theorem requestPower_placed (h : placed s b) (hv : s.visit = none) : placed (requestPower .reader s) b := by
  have queued : b ∈ s.readerQueue := h.resolve_right (by simp [visiting, hv])
  unfold requestPower
  split
  · unfold grantHolder
    cases hq : s.readerQueue with
    | nil => rw [hq] at queued; exact absurd queued (by simp)
    | cons x rest => exact visitBegins_placed (by rw [hq] at queued; simpa using queued)
  · exact (placed_congr (by simp)).mpr h

theorem askVisit_placed (h : placed s b) : placed (askVisit s) b := by
  unfold askVisit
  split
  · exact (placed_congr (by simp)).mpr h
  case h_2 hv =>
    split
    · exact h
    · exact requestPower_placed h hv
  · exact h

theorem markQueued_placed (h : placed s b) : placed (markQueued b s) b := by
  unfold markQueued onlyIf
  split
  · exact h
  · exact h

theorem placeTail_placed (h : mayQueue s b = true) : placed (placeTail b s) b := by
  unfold placeTail
  rw [if_pos h]
  refine askVisit_placed (markQueued_placed (.inl ?_))
  split
  case isTrue hc => simpa using hc
  · simp

/-! ### Arrival -/

/-- What `needsReading` asks of the reader. -/
theorem needsReading_reader :
    ∃ st, ((needsReading b s).bay b).reader =
      { (s.bay b).reader with state := st, identityWanted := true, passWanted := true, cursor := 0 } := by
  have kept : ReadersKept
      (updReader b (fun r => { r with identityWanted := true, passWanted := true, cursor := 0 }) s)
      (needsReading b s) := placeTail_readers
  obtain ⟨st, h⟩ := kept.marks b
  exact ⟨st, by rw [h]; simp⟩

theorem mayQueue_congr (ho : (t.bay b).table.occ = (s.bay b).table.occ)
    (hc : (t.bay b).clear = (s.bay b).clear) : mayQueue t b = mayQueue s b := by
  unfold mayQueue occupied inRelease
  rw [ho, hc]

theorem needsReading_placed (h : mayQueue s b = true) : placed (needsReading b s) b := by
  refine placeTail_placed ?_
  rw [mayQueue_congr (s := s) (by simp) (by simp)]
  exact h

/-- A bay as it is ARRIVING, before the reader is asked. -/
theorem arrived_bay {x : Bay} :
    (arrived b s).bay x =
      if x = b then
        { s.bay b with
          table := { (s.bay b).table with
            occ := .arriving, beforeLoss := none, recovery := false, plugCount := 0, identity := none
            lampPlan := (s.bay b).table.planOverride }
          heat := { (s.bay b).heat with profile := none } }
      else s.bay x := by
  unfold arrived
  rw [post_bay, updHeat_bay]
  split
  case isTrue h => rw [updTable_bay_self]
  case isFalse h => rw [updTable_bay_ne h]

/-- Settles O45: the Bay Table writes the bay's record and posts ARRIVAL, and the reader's part moves reader contexts
and its queue alone. -/
theorem arrivalAsksTheReaderForIdentityAndAFullRead : Obligations.ArrivalAsksTheReaderForIdentityAndAFullRead := by
  unfold Obligations.ArrivalAsksTheReaderForIdentityAndAFullRead
  intro b s hreset hocc hcount
  set u := arrived b (lastReading b .in_ s) with hu
  have exec_eq : exec (.arrival b) s = .next (pollsHeld s (needsReading b u)) := by
    show carryOut (outOfReset (arrives b)) s = _
    rw [carryOut_outOfReset hreset]
    unfold arrives
    rw [if_pos ⟨hocc, hcount⟩]
    rfl
  obtain ⟨⟨-, ht, -, -⟩, ⟨-, htable⟩, ⟨hpool, hclear⟩, hheat, -⟩ := needsReading_keeps b u
  have self : u.bay b = _ := arrived_bay.trans (if_pos rfl)
  have other : ∀ x, x ≠ b → u.bay x = s.bay x := fun x hx => by
    rw [hu, arrived_bay, if_neg hx]
    exact updTable_bay_ne hx _ s
  have record : (lastReading b .in_ s).bay b =
      { s.bay b with table := { (s.bay b).table with plug := some .in_, plugCount := 0 } } := updTable_bay_self b _ s
  rw [record] at self
  obtain ⟨st, hreader⟩ := needsReading_reader (b := b) (s := u)
  refine ⟨_, exec_eq, ?_, ?_, ?_, ?_, ?_, ?_, ?_, ?_, ?_, ?_, ?_⟩
  · rw [pollsHeld_table, table_of_view htable, self]
  · rw [pollsHeld_heat, heat_of_view hheat, self]
  · exact pollsHeld_announced ((needsReading_work (w := .none) .refl).announced announced_post)
  · rw [pollsHeld_reader, hreader]
  · rw [pollsHeld_reader, hreader]
  · rw [pollsHeld_reader, hreader]
  · rw [pollsHeld_faults, faults_of_view hpool, self]
  · rw [pollsHeld_clear, clear_of_view hclear, self]
  · rw [pollsHeld_time]
    exact congrArg Prod.fst ht
  · intro hr
    have hr' : inRelease u b = false := by unfold inRelease at *; rw [self]; exact hr
    have := needsReading_placed (s := u) (b := b) (by simp [mayQueue, occupied, hr', self])
    simpa [placed, visiting] using this
  · intro x hx
    rw [pollsHeld_table, pollsHeld_clear, table_of_view htable, clear_of_view hclear, other x hx]
    exact ⟨rfl, rfl⟩

end

end Sys2Proof.Machine
end

section
/-! PROOF. The seven steps of the vacancy cleanup, by what each leaves of the pool, the reader, the lamp record, the
demand and the departure list, and the departures that perform it (spec 01, R10 to R12). -/

namespace Sys2Proof.Machine

section
variable {s t u : State} {b : Bay} {k c : Bool}

/-! ### The fault list -/

/-- What the removal of entries leaves of the list and of the free count. -/
theorem removeEntries_pool {unwanted : FaultEntry → Bool} :
    ((removeEntries b unwanted s).bay b).faults.list = (s.bay b).faults.list.filter (fun e => !unwanted e) ∧
      (removeEntries b unwanted s).freeCount =
        s.freeCount + ((s.bay b).faults.list.filter unwanted).length := by
  unfold removeEntries
  dsimp only
  split
  case isTrue h =>
    refine ⟨(List.filter_eq_self.mpr fun e he => ?_).symm, by rw [h]; rfl⟩
    have none_ := List.filter_eq_nil_iff.mp (List.length_eq_zero_iff.mp h) e he
    simpa using none_
  · set v := updFaults b _ { s with
      freeCount := s.freeCount + ((s.bay b).faults.list.filter unwanted).length } with hv
    have low : ∀ x : State, (judgeLow x).freeCount = x.freeCount ∧ ∀ y, (judgeLow x).bay y = x.bay y := by
      intro x
      unfold judgeLow
      split
      · split
        · exact ⟨rfl, fun _ => rfl⟩
        · exact ⟨rfl, fun _ => rfl⟩
      · exact ⟨rfl, fun _ => rfl⟩
    have resumed : ∀ (d : Bool) (x : State), (onlyIf d readerResume x).poolView = x.poolView := by
      intro d x
      cases d
      · rfl
      · have : (readerResume x).poolView = x.poolView := by simp
        exact this
    refine ⟨?_, ?_⟩
    · rw [faults_of_view (resumed _ _), (low v).2, hv, updFaults_bay_self]
      rfl
    · exact (congrArg Prod.fst (resumed _ _)).trans (low v).1

theorem emptyFaults_faults :
    ((emptyFaults b s).bay b).faults.list = [] ∧ ((emptyFaults b s).bay b).faults.incomplete = false ∧
      (emptyFaults b s).freeCount = s.freeCount + (s.bay b).faults.list.length := by
  obtain ⟨hlist, hfree⟩ := removeEntries_pool (s := s) (b := b) (unwanted := fun _ => true)
  refine ⟨?_, ?_, ?_⟩
  · simp [emptyFaults, hlist]
  · simp [emptyFaults]
  · simpa [emptyFaults] using hfree

/-- The pool is as it was through a check's abort. -/
theorem abortCheck_pool {check : CheckState} : (abortCheck b check s).poolView = s.poolView := by
  unfold abortCheck
  dsimp only
  split
  · split
    · split
      · simp
      · simp
    · exact (by simp : (updLamp b (LampRec.aborted check) s).poolView = s.poolView)
  · rfl

theorem lampCleanup_pool : (lampCleanup b s).poolView = s.poolView := by
  have aborted : (updLamp b (LampRec.aborted .none) (abortCheck b .none s)).poolView = (abortCheck b .none s).poolView := by
    simp
  exact aborted.trans abortCheck_pool

/-! ### The steps together -/

/-- The state in which the cleanup has run but for its last step, the departure record. -/
def cleanedUp (c : Bool) (b : Bay) (s : State) : State :=
  heatCleanup b
    (updTable b (fun t => { t with identity := none, lampPlan := none, recovery := false })
      (lampCleanup b (clearanceCleanup b (cleanupReader c b (emptyFaults b s)))))

theorem vacancyCleanup_eq : vacancyCleanup k c b s = onlyIf (!k) (removeDeparture b) (cleanedUp c b s) := by
  unfold vacancyCleanup cleanedUp
  rfl

theorem vacancyCleanup_keep : vacancyCleanup true c b s = cleanedUp c b s := by
  rw [vacancyCleanup_eq]
  generalize cleanedUp c b s = x
  rfl

theorem vacancyCleanup_drop : vacancyCleanup false c b s = removeDeparture b (cleanedUp c b s) := by
  rw [vacancyCleanup_eq]
  generalize cleanedUp c b s = x
  rfl

theorem cleanedUp_pool : (cleanedUp c b s).poolView = (emptyFaults b s).poolView := by
  unfold cleanedUp
  have cold : ∀ x, (heatCleanup b x).poolView = x.poolView := fun x => by simp
  have known : ∀ f x, (updTable b f x).poolView = x.poolView := fun f x => by simp
  have idle : ∀ x, (clearanceCleanup b x).poolView = x.poolView := fun x => by simp
  have unread : ∀ x, (cleanupReader c b x).poolView = x.poolView := fun x => by simp
  rw [cold, known, lampCleanup_pool, idle, unread]

theorem removeDeparture_pool : (removeDeparture b s).poolView = s.poolView := by simp

theorem vacancyCleanup_pool : (vacancyCleanup k c b s).poolView = (emptyFaults b s).poolView := by
  cases k
  · rw [vacancyCleanup_drop, removeDeparture_pool, cleanedUp_pool]
  · rw [vacancyCleanup_keep, cleanedUp_pool]

/-- The reader's step leaves a reset context where the visit ends. -/
theorem readerCleanup_reader : ((readerCleanup b s).bay b).reader = .reset := by
  have kept : ReadersKept (updReader b (fun _ => .reset) (endVisitOutside b s)) (readerCleanup b s) :=
    leaveQueues_readers
  rw [kept.still b (by simp [wantsRead, ReaderRec.reset])]
  simp

theorem vacancyCleanup_reader : ((vacancyCleanup k false b s).bay b).reader = .reset := by
  have unread : ((cleanupReader false b (emptyFaults b s)).bay b).reader = .reset := readerCleanup_reader
  have idle : ReadersKept (cleanupReader false b (emptyFaults b s))
      (clearanceCleanup b (cleanupReader false b (emptyFaults b s))) := .of_view (by simp)
  have known : ∀ f x, ReadersKept x (updTable b f x) := fun f x => .of_view (by simp)
  have cold : ∀ x, ReadersKept x (heatCleanup b x) := fun x => .of_view (by simp)
  have kept : ReadersKept (cleanupReader false b (emptyFaults b s)) (cleanedUp false b s) :=
    ((idle.trans lampCleanup_readers).trans (known _ _)).trans (cold _)
  have cleaned : ((cleanedUp false b s).bay b).reader = .reset := by
    rw [kept.still b (by simp [wantsRead, unread, ReaderRec.reset]), unread]
  cases k
  · rw [vacancyCleanup_drop]
    have removed : (removeDeparture b (cleanedUp false b s)).readersView = (cleanedUp false b s).readersView := by simp
    exact (reader_of_view removed b).trans cleaned
  · rw [vacancyCleanup_keep]
    exact cleaned

/-- The Planner's last step leaves no demand. -/
theorem heatCleanup_demand : ((heatCleanup b s).bay b).heat.demand = 0 := by
  unfold heatCleanup
  exact setDemand_demand

theorem removeDeparture_steady : Steady s (removeDeparture b s) := by
  unfold removeDeparture
  split
  · have dropped : Steady s (dropDeparture b s) := .of_view (by simp)
    exact dropped.trans recompute_steady
  · exact .refl

theorem cleanedUp_demand : ((cleanedUp c b s).bay b).heat.demand = 0 := by
  rw [cleanedUp]
  exact heatCleanup_demand

theorem vacancyCleanup_demand : ((vacancyCleanup k c b s).bay b).heat.demand = 0 := by
  cases k
  · rw [vacancyCleanup_drop]
    exact (removeDeparture_steady b).demand.trans cleanedUp_demand
  · rw [vacancyCleanup_keep]
    exact cleanedUp_demand

theorem heatCleanup_plans :
    Plans (updHeat b (fun r => { r with profile := none }) s) (heatCleanup b s) := by
  unfold heatCleanup
  refine setDemand_plans (clearHeatFlags_plans ?_)
  split
  case h_4 => exact enterOff_plans .refl
  case h_5 => exact .refl
  case h_6 => exact .refl
  all_goals exact enterStopping_plans .refl

/-- The lamp record's check and result after the cleanup. -/
theorem cleanedUp_lamp : ((cleanedUp c b s).bay b).lamp.check = .none ∧ ((cleanedUp c b s).bay b).lamp.result = .none := by
  obtain ⟨m, hm⟩ := (heatCleanup_plans (b := b) (s :=
    updTable b (fun t => { t with identity := none, lampPlan := none, recovery := false })
      (lampCleanup b (clearanceCleanup b (cleanupReader c b (emptyFaults b s)))))).lamp (b := b)
  unfold cleanedUp
  rw [hm]
  simp [lampCleanup, LampRec.aborted]

theorem removeDeparture_lamp : ((removeDeparture b s).bay b).lamp.check = (s.bay b).lamp.check ∧
    ((removeDeparture b s).bay b).lamp.result = (s.bay b).lamp.result := by
  unfold removeDeparture
  split
  · have recomputed : Plans (dropDeparture b s) (recompute none (dropDeparture b s)) := recompute_plans .refl
    obtain ⟨m, hm⟩ := recomputed.lamp (b := b)
    rw [hm, dropDeparture_bay]
    simp
  · exact ⟨rfl, rfl⟩

theorem vacancyCleanup_lamp : ((vacancyCleanup k c b s).bay b).lamp.check = .none ∧
    ((vacancyCleanup k c b s).bay b).lamp.result = .none := by
  obtain ⟨hcheck, hresult⟩ := cleanedUp_lamp (s := s) (b := b) (c := c)
  cases k
  · rw [vacancyCleanup_drop, removeDeparture_lamp.1, removeDeparture_lamp.2]
    exact ⟨hcheck, hresult⟩
  · rw [vacancyCleanup_keep]
    exact ⟨hcheck, hresult⟩

/-- The departure list through the cleanup, but for its last step. -/
theorem cleanedUp_bookings : (cleanedUp c b s).bookingsView = s.bookingsView := by simp [cleanedUp]

theorem departures_of_view (h : t.bookingsView = s.bookingsView) : t.departures = s.departures := congrArg Prod.fst h

theorem recompute_departures {starting : Option Bay} : (recompute starting s).departures = s.departures :=
  departures_of_view (by simp)

/-- The bay's entry goes with its record. -/
theorem removeDeparture_departures (h : (departureOf s b).isSome = true) :
    (removeDeparture b s).departures = withoutBay b s.departures := by
  unfold removeDeparture
  rw [if_pos h, recompute_departures]
  rfl

theorem vacancyCleanup_kept : (vacancyCleanup true c b s).departures = s.departures := by
  rw [vacancyCleanup_keep]
  exact departures_of_view cleanedUp_bookings

theorem cleanedUp_departure : departureOf (cleanedUp c b s) b = departureOf s b := by
  have v : Vacated true s (cleanedUp c b s) b := by
    rw [← vacancyCleanup_keep]
    exact vacancyCleanup_vacated
  unfold departureOf
  rw [v.table]
  rfl

theorem vacancyCleanup_removed (h : (departureOf s b).isSome = true) :
    (vacancyCleanup false c b s).departures = withoutBay b s.departures := by
  rw [vacancyCleanup_drop, removeDeparture_departures (by rw [cleanedUp_departure]; exact h),
    departures_of_view cleanedUp_bookings]

theorem announced_of_ports {e : BayEvent} (h : t.ports = s.ports) (ha : announced e b s) : announced e b t :=
  announced_congr (fun _ => eventSet_congr h) ha

/-- A hold that stood is told of. -/
theorem clearanceCleanup_hold (h : (s.bay b).clear.holds ≠ []) : announced .hold b (clearanceCleanup b s) := by
  have held : (!(s.bay b).clear.holds.isEmpty) = true := by simpa using h
  unfold clearanceCleanup
  rw [held, onlyIf_true]
  have posted : announced .hold b (post .hold b s) := announced_post
  generalize post .hold b s = x at posted
  have withdrawn : Work .none x (disownOpen b (withdrawOpen b x)) := disownOpen_work (withdrawOpen_work .refl)
  have told := withdrawn.announced posted
  generalize disownOpen b (withdrawOpen b x) = y at told
  have reset : announced .hold b (updClear b (fun _ => .reset) y) := announced_of_ports (by simp) told
  generalize updClear b (fun _ => .reset) y = z at reset
  have idle : Work .none z (onlyIf (decide ((s.bay b).clear.state ≠ .idle)) (postClearance b) z) :=
    Work.refl.onlyIf fun _ => postClearance_work .refl
  exact idle.announced reset

theorem cleanedUp_hold (h : (s.bay b).clear.holds ≠ []) : announced .hold b (cleanedUp c b s) := by
  unfold cleanedUp
  have unread : (cleanupReader c b (emptyFaults b s)).clearsView = (emptyFaults b s).clearsView := by simp
  have emptied : (emptyFaults b s).clearsView = s.clearsView := by simp
  have same : ((cleanupReader c b (emptyFaults b s)).bay b).clear = (s.bay b).clear :=
    (clear_of_view unread b).trans (clear_of_view emptied b)
  generalize cleanupReader c b (emptyFaults b s) = x at same
  have told : announced .hold b (clearanceCleanup b x) := clearanceCleanup_hold (by rw [same]; exact h)
  generalize clearanceCleanup b x = y at told
  have checked : Work .none y (lampCleanup b y) := lampCleanup_work .refl
  have unchecked := checked.announced told
  generalize lampCleanup b y = z at unchecked
  have known : announced .hold b (updTable b (fun t => { t with identity := none, lampPlan := none, recovery := false }) z) :=
    announced_of_ports (by simp) unchecked
  generalize updTable b (fun t => { t with identity := none, lampPlan := none, recovery := false }) z = u at known
  have cold : Plans (updHeat b (fun r => { r with profile := none }) u) (heatCleanup b u) := heatCleanup_plans
  exact cold.announced (announced_of_ports (by simp) known)

theorem vacancyCleanup_hold (h : (s.bay b).clear.holds ≠ []) : announced .hold b (vacancyCleanup k c b s) := by
  cases k
  · rw [vacancyCleanup_drop]
    have removed : Work (.table b fun _ => True) (cleanedUp c b s) (removeDeparture b (cleanedUp c b s)) :=
      removeDeparture_work .refl rfl
    exact removed.announced (cleanedUp_hold h)
  · rw [vacancyCleanup_keep]
    exact cleanedUp_hold h

end

end Sys2Proof.Machine
end

section
/-! PROOF. The departures of a coach, clean and unreleased (spec 01, R10 to R12). -/

namespace Sys2Proof.Machine

section
variable {s t u : State} {b : Bay} {k : Bool} {kind : DepartureKind}

/-- What the cleanup leaves of the pool, the reader, the holds, the lamp record and the demand (spec 01, R12). -/
structure Cleaned (s t : State) (b : Bay) : Prop where
  list : (t.bay b).faults.list = []
  incomplete : (t.bay b).faults.incomplete = false
  free : t.freeCount = s.freeCount + (s.bay b).faults.list.length
  reader : (t.bay b).reader = .reset
  hold : (s.bay b).clear.holds ≠ [] → announced .hold b t
  check : (t.bay b).lamp.check = .none
  result : (t.bay b).lamp.result = .none
  demand : (t.bay b).heat.demand = 0

theorem vacancyCleanup_cleaned : Cleaned s (vacancyCleanup k false b s) b := by
  obtain ⟨hlist, hincomplete, hfree⟩ := emptyFaults_faults (s := s) (b := b)
  have pool : (vacancyCleanup k false b s).poolView = (emptyFaults b s).poolView := vacancyCleanup_pool
  have faults := faults_of_view pool b
  exact
    { list := by rw [faults]; exact hlist
      incomplete := by rw [faults]; exact hincomplete
      free := (congrArg Prod.fst pool).trans hfree
      reader := vacancyCleanup_reader
      hold := vacancyCleanup_hold
      check := vacancyCleanup_lamp.1
      result := vacancyCleanup_lamp.2
      demand := vacancyCleanup_demand }

theorem departs_eq :
    departs kind k false b s =
      vacancyCleanup k false b (post .departed b (updTable b (fun t => { t with lastDeparture := some kind }) s)) := rfl

theorem departs_cleaned : Cleaned s (departs kind k false b s) b := by
  set told := post .departed b (updTable b (fun t => { t with lastDeparture := some kind }) s) with htold
  have c : Cleaned told (vacancyCleanup k false b told) b := vacancyCleanup_cleaned
  rw [departs_eq, ← htold]
  exact { c with
    free := c.free.trans (by simp [told])
    hold := fun h => c.hold (by simpa [told] using h) }

theorem departs_announced : announced .departed b (departs kind k false b s) := by
  rw [departs_eq]
  have told : announced .departed b (post .departed b (updTable b (fun t => { t with lastDeparture := some kind }) s)) :=
    announced_post
  generalize post .departed b (updTable b (fun t => { t with lastDeparture := some kind }) s) = x at *
  have work : Work (.table b fun _ => True) x (vacancyCleanup k false b x) := vacancyCleanup_work .refl rfl
  exact work.announced told

/-- The departure list after a departure that keeps the record. -/
theorem departs_kept : (departs kind true false b s).departures = s.departures := by
  rw [departs_eq, vacancyCleanup_kept]
  rfl

/-- The departure list after a departure that removes the record. -/
theorem departs_removed (h : (departureOf s b).isSome = true) :
    (departs kind false false b s).departures = withoutBay b s.departures := by
  rw [departs_eq, vacancyCleanup_removed]
  · rfl
  · simpa [departureOf] using h

theorem Cleaned.vacant (c : Cleaned s t b) : Cleaned s (becomeVacant b t) b := by
  obtain ⟨hlist, hincomplete, hfree, hreader, hhold, hcheck, hresult, hdemand⟩ := c
  constructor <;> simp [becomeVacant, *]
  exact fun h => announced_of_ports (by simp) (hhold h)

theorem Cleaned.polled (c : Cleaned s t b) : Cleaned s (pollsHeld u t) b := by
  obtain ⟨hlist, hincomplete, hfree, hreader, hhold, hcheck, hresult, hdemand⟩ := c
  constructor <;> simp [*]
  exact fun h => pollsHeld_announced (hhold h)

theorem lastReading_bay {plug : Plug} :
    (lastReading b plug s).bay b = { s.bay b with table := { (s.bay b).table with plug := some plug, plugCount := 0 } } :=
  updTable_bay_self b _ s

/-- The last reading of the plug leaves what the cleanup answers for. -/
theorem Cleaned.of_lastReading {plug : Plug} (c : Cleaned (lastReading b plug s) t b) : Cleaned s t b :=
  { c with
    free := c.free.trans (by rw [lastReading_bay]; rfl)
    hold := fun h => c.hold (by rw [lastReading_bay]; exact h) }

/-- A coach's departure at the last reading of its plug: the bay's record, and the rest of its parts. -/
theorem departure_cleans {x : State}
    (h : x = pollsHeld s (becomeVacant b (departs kind k false b (lastReading b .out s)))) :
    (x.bay b).table =
        { (s.bay b).table with
          occ := .vacant, beforeLoss := none, recovery := false, plugCount := 0, plug := some .out
          lastDeparture := some kind, identity := none, lampPlan := none
          departure := if k then (s.bay b).table.departure else none } ∧
      announced .departed b x ∧ Cleaned s x b ∧ (x.bay b).heat.profile = none ∧ (x.bay b).clear = .reset ∧
      (x.bay b).faults.quota = (s.bay b).faults.quota := by
  have v := departs_vacated (kind := kind) (k := k) (c := false) (b := b) (s := lastReading b .out s)
  have cleaned := departs_cleaned (kind := kind) (k := k) (b := b) (s := lastReading b .out s)
  have told := departs_announced (kind := kind) (k := k) (b := b) (s := lastReading b .out s)
  subst h
  generalize departs kind k false b (lastReading b .out s) = y at v cleaned told ⊢
  refine ⟨?_, pollsHeld_announced (announced_of_ports (by simp [becomeVacant]) told), ?_, ?_, ?_, ?_⟩
  · rw [pollsHeld_table, becomeVacant, updTable_bay_self, v.table]
    simp [lastReading]
  · exact cleaned.of_lastReading.vacant.polled
  · simpa [becomeVacant] using v.profile
  · simpa [becomeVacant] using v.clear
  · simpa [becomeVacant, lastReading] using v.quota

theorem withoutBay_ne {l : List DepartureEntry} {e : DepartureEntry} (h : e ∈ withoutBay b l) : e.bay ≠ b := by
  simpa using (List.mem_filter.mp h).2

end

/-- Settles O46: a departure is the vacancy cleanup between the last plug reading and VACANT. -/
theorem departureCleansTheBay : Obligations.DepartureCleansTheBay := by
  unfold Obligations.DepartureCleansTheBay
  intro b s hreset
  refine ⟨fun hocc hstate hcount => ?_, fun hcoach hcount => ?_⟩
  · have ran : exec (.cleanDeparture b) s =
        .next (pollsHeld s (becomeVacant b (departs .clean false false b (lastReading b .out s)))) := by
      show carryOut (outOfReset (departsCleanly b)) s = _
      rw [carryOut_outOfReset hreset, departsCleanly, if_pos ⟨hocc, hstate, hcount⟩, cleanDeparture]
    obtain ⟨htable, htold, ⟨hlist, hincomplete, hfree, hreader, hhold, hcheck, hresult, hdemand⟩, hprofile, hclear,
      hquota⟩ := departure_cleans (kind := .clean) (k := false) (s := s) (b := b) rfl
    refine ⟨_, ran, htable, fun hd e he => ?_, htold, hlist, hincomplete, hquota, hfree, hreader, hclear, hhold, hcheck,
      hresult, hprofile, hdemand⟩
    rw [pollsHeld_departures, becomeVacant, updTable_departures, departs_removed] at he
    · exact withoutBay_ne he
    · rw [departureOf, lastReading_bay]
      exact hd
  · have ran : exec (.unreleasedDeparture b) s =
        .next (pollsHeld s (becomeVacant b (departs .unreleased true false b (lastReading b .out s)))) := by
      show carryOut (outOfReset (departsUnreleased b)) s = _
      rw [carryOut_outOfReset hreset, departsUnreleased, if_pos ⟨hcoach, hcount⟩, unreleasedDeparture]
    obtain ⟨htable, htold, ⟨hlist, hincomplete, hfree, hreader, hhold, hcheck, hresult, hdemand⟩, hprofile, hclear,
      hquota⟩ := departure_cleans (kind := .unreleased) (k := true) (s := s) (b := b) rfl
    refine ⟨_, ran, htable, ?_, htold, hlist, hincomplete, hquota, hfree, hreader, hclear, hhold, hcheck, hresult,
      hprofile, hdemand⟩
    rw [pollsHeld_departures, becomeVacant, updTable_departures, departs_kept]
    rfl

end Sys2Proof.Machine
end

section
/-! PROOF. A request row on a port that takes it: its owner's answer stands in the port's buffer, and what the owner
leaves of the state, but for the port (spec 09, R172, R173). -/

namespace Sys2Proof.Machine

section
variable {s t u : State} {b : Bay} {p : Port}

/-! ### The port's own part -/

theorem answerPort_port {r : Response} :
    (answerPort p r s).port p = { s.port p with state := .ready, inWork := none, response := some r } := by
  unfold answerPort
  rw [updPort_port]
  simp

@[simp] theorem answerPort_bay {r : Response} {x : Bay} : (answerPort p r s).bay x = s.bay x := rfl

theorem answered_answerPort {r : Response} : answered p r (answerPort p r s) := by
  unfold answered
  rw [answerPort_port]
  exact ⟨rfl, rfl, rfl⟩

theorem answered_polled {r : Response} : answered p r (pollsHeld s (answerPort p r t)) := by
  unfold answered
  rw [pollsHeld_port]
  exact answered_answerPort

theorem answerPort_eventSet {r : Response} {x : Port} {k : Fin 18} :
    eventSet (answerPort p r s) x k = eventSet s x k := by
  unfold eventSet answerPort
  rw [updPort_port]
  split
  case isTrue h => subst h; rfl
  · rfl

theorem answered_announced {e : BayEvent} {r : Response} (h : announced e b t) :
    announced e b (pollsHeld s (answerPort p r t)) :=
  pollsHeld_announced (announced_congr (fun _ => answerPort_eventSet) h)

/-- An answer moves no poll class. -/
theorem answerPort_period {r : Response} {x : Bay} : pollPeriod (answerPort p r s) x = pollPeriod s x :=
  pollPeriod_congr rfl rfl rfl rfl rfl rfl

/-! ### What the owner answers -/

theorem withBay_val {f : Bay → State → Answer} : withBay b.val f s = f b s := by
  unfold withBay bayField
  simp

theorem withBayOrNone_val {f : Bay → State → Answer} {g : State → Answer} : withBayOrNone b.val f g s = f b s := by
  unfold withBayOrNone
  rw [if_neg (by unfold noBay; omega), withBay_val]

/-- A request row on a port that takes it (spec 09, R173). -/
theorem exec_request {i : Instr} {n k : Nat} {body : Body} {a : Answer} (hi : requestOf i = some (p, n, body))
    (hk : bodyKind body = k) (ht : takes p s) (hp : permitted p k = true)
    (ha : handle p { bay := n, body := body } s = a) :
    exec i s = .next (pollsHeld s (answerPort p { echo := k, result := a.result, payload := a.payload } a.state)) := by
  obtain ⟨hreset, hidle⟩ := ht
  rw [exec_of_requestOf hi, carryOut_eq, portRequest, hreset, if_neg Bool.false_ne_true, if_neg hidle, takeRequest, hk,
    if_pos hp, ha, answerWith]

/-- A request row that is done. -/
theorem exec_done {i : Instr} {n k : Nat} {body : Body} {bytes : List Byte} (hi : requestOf i = some (p, n, body))
    (hk : bodyKind body = k) (ht : takes p s) (hp : permitted p k = true)
    (ha : handle p { bay := n, body := body } s = doneWith bytes t) :
    exec i s = .next (pollsHeld s (answerPort p { echo := k, result := .done, payload := bytes } t)) := by
  rw [exec_request hi hk ht hp ha, doneWith]

/-- A request row that is refused changes its port alone (spec 09, R175). -/
theorem exec_refused {i : Instr} {n k : Nat} {body : Body} {r : Result} (hi : requestOf i = some (p, n, body))
    (hk : bodyKind body = k) (ht : takes p s) (hp : permitted p k = true)
    (ha : handle p { bay := n, body := body } s = refuse r s) :
    exec i s = .next (answerPort p { echo := k, result := r, payload := [] } s) := by
  rw [exec_request hi hk ht hp ha]
  exact congrArg _ (pollsHeld_of_period fun _ => answerPort_period)

/-- A request row whose owner moves no poll class. -/
theorem exec_still {i : Instr} {n k : Nat} {body : Body} {bytes : List Byte} (hi : requestOf i = some (p, n, body))
    (hk : bodyKind body = k) (ht : takes p s) (hp : permitted p k = true)
    (ha : handle p { bay := n, body := body } s = doneWith bytes t) (hc : ∀ x, pollPeriod t x = pollPeriod s x) :
    exec i s = .next (answerPort p { echo := k, result := .done, payload := bytes } t) := by
  rw [exec_done hi hk ht hp ha]
  exact congrArg _ (pollsHeld_of_period fun x => answerPort_period.trans (hc x))

end

end Sys2Proof.Machine
end

section
/-! PROOF. SET_DEPARTURE and CANCEL_DEPARTURE (spec 01, R22 to R24). -/

namespace Sys2Proof.Machine

section
variable {s t u : State} {b : Bay}

/-! ### A demand withdrawn -/

theorem Plans.departureOf (h : Plans s t) : departureOf t b = departureOf s b := by
  unfold Machine.departureOf
  rw [(h.rests b).table]

/-- A heat record that stops at a bay with no departure record: STOPPING, or OFF for good (spec 04, R86). -/
theorem enterStopping_heat (h : departureOf s b = none) :
    ((enterStopping b s).bay b).heat.demand = 0 ∧
      (((enterStopping b s).bay b).heat.state = .stopping ∨ ((enterStopping b s).bay b).heat.state = .off) := by
  unfold enterStopping
  set x := updHeat b (fun h => { h with state := .stopping, projection := none, late := false, starved := false }) s with hx
  have cold : ((setDemand none b 0 x).bay b).heat.demand = 0 := setDemand_demand
  have stopping : ((setDemand none b 0 x).bay b).heat.state = .stopping := by rw [setDemand_state, hx]; simp
  have unbooked : departureOf (setDemand none b 0 x) b = none := by
    have work : Plans x (setDemand none b 0 x) := setDemand_plans .refl
    rw [work.departureOf, hx]
    simpa [departureOf] using h
  unfold stoppingToOff
  split
  · rw [enterOff_heat unbooked]
    exact ⟨cold, .inr rfl⟩
  · exact ⟨cold, .inl stopping⟩

/-- News that revokes (spec 08, R161). -/
theorem clearanceNews_revoked {r : Reason} (h : (s.bay b).clear.state = .cleared) :
    ((clearanceNews b r s).bay b).clear.state = .revoked ∧ ((clearanceNews b r s).bay b).clear.reasons = only r ∧
      announced .clearance b (clearanceNews b r s) := by
  unfold clearanceNews
  rw [h]
  exact ⟨by simp [postClearance], by simp [postClearance], announced_post⟩

/-! ### CANCEL_DEPARTURE -/

/-- The state in which the record is gone and the demand withdrawn. -/
theorem cancelDeparture_table : ((cancelDeparture b s).bay b).table = { (s.bay b).table with departure := none } := by
  unfold cancelDeparture
  have work : Work .none (dropDeparture b s) (clearanceNews b .noDeparture (recompute none (heatWithdrawn b (dropDeparture b s)))) :=
    clearanceNews_work (Work.refl.plans (recompute_plans (heatWithdrawn_plans .refl)))
  rw [(work.resting b).table, dropDeparture_bay, updTable_bay_self]

theorem cancelDeparture_departures : (cancelDeparture b s).departures = withoutBay b s.departures := by
  unfold cancelDeparture
  have same : (clearanceNews b .noDeparture (recompute none (heatWithdrawn b (dropDeparture b s)))).bookingsView =
      (dropDeparture b s).bookingsView := by simp
  rw [departures_of_view same]
  rfl

theorem cancelDeparture_heat :
    ((s.bay b).heat.state = .planned → ((cancelDeparture b s).bay b).heat.state = .off) ∧
      ((s.bay b).heat.state = .heating ∨ (s.bay b).heat.state = .holding →
        ((cancelDeparture b s).bay b).heat.demand = 0 ∧
          (((cancelDeparture b s).bay b).heat.state = .stopping ∨ ((cancelDeparture b s).bay b).heat.state = .off)) := by
  unfold cancelDeparture
  have same : ((dropDeparture b s).bay b).heat = (s.bay b).heat := by rw [dropDeparture_bay]; simp
  have unbooked : departureOf (dropDeparture b s) b = none := by
    unfold departureOf
    rw [dropDeparture_bay]
    simp
  generalize dropDeparture b s = x at same unbooked ⊢
  have books : Steady (heatWithdrawn b x) (clearanceNews b .noDeparture (recompute none (heatWithdrawn b x))) :=
    (recompute_steady (starting := none)).trans (.of_view (by simp))
  rw [(books b).state, (books b).demand]
  unfold heatWithdrawn
  rw [← same]
  refine ⟨fun h => ?_, fun h => ?_⟩
  · rw [h]
    exact congrArg HeatRec.state (enterOff_heat unbooked)
  · obtain h | h := h <;> rw [h] <;> exact enterStopping_heat unbooked

theorem cancelDeparture_revokes (h : (s.bay b).clear.state = .cleared) :
    ((cancelDeparture b s).bay b).clear.state = .revoked ∧
      ((cancelDeparture b s).bay b).clear.reasons = only .noDeparture := by
  unfold cancelDeparture
  have same : (recompute none (heatWithdrawn b (dropDeparture b s))).clearsView = s.clearsView := by simp
  obtain ⟨hstate, hreasons, -⟩ := clearanceNews_revoked (r := .noDeparture) (b := b)
    (s := recompute none (heatWithdrawn b (dropDeparture b s))) (by rw [clear_of_view same]; exact h)
  exact ⟨hstate, hreasons⟩

end

/-- Settles O23: the record and its entry are dropped, and what is told of it writes no occupancy record. -/
theorem cancelDepartureRemovesTheRecord : Obligations.CancelDepartureRemovesTheRecord := by
  unfold Obligations.CancelDepartureRemovesTheRecord
  intro b s ht
  refine ⟨fun hnone => ?_, fun hsome hrelease => ?_⟩
  · refine exec_refused (k := 9) rfl rfl ht (by decide) ?_
    show withBay b.val takeCancelDeparture s = _
    rw [withBay_val, takeCancelDeparture, if_pos (by simp [hnone])]
  · have owner : handle .schedule { bay := b.val, body := .cancelDeparture } s = done (cancelDeparture b s) := by
      show withBay b.val takeCancelDeparture s = _
      rw [withBay_val, takeCancelDeparture, if_neg (by simpa using hsome), hrelease, if_neg Bool.false_ne_true]
    have ran := exec_done (i := .cancelDeparture .schedule b.val) (k := 9) rfl rfl ht (by decide) owner
    obtain ⟨hplanned, hstops⟩ := cancelDeparture_heat (s := s) (b := b)
    have others : ∀ x, x ≠ b → ((cancelDeparture b s).bay x).table = (s.bay x).table := by
      have work : Work (.table b fun _ => False) s (cancelDeparture b s) := cancelDeparture_work .refl rfl
      exact fun x hx => (work.rests hx).table
    have hclear := cancelDeparture_revokes (s := s) (b := b)
    have htable := cancelDeparture_table (s := s) (b := b)
    have hlist := cancelDeparture_departures (s := s) (b := b)
    generalize cancelDeparture b s = x at *
    have list : (pollsHeld s (answerPort .schedule { echo := 9, result := .done, payload := [] } x)).departures =
        withoutBay b s.departures := (pollsHeld_departures ..).trans hlist
    refine ⟨_, ran, answered_polled, ?_, fun y hy => ?_, fun e he => ?_, fun e he hb => ?_, fun e he => ?_, fun h => ?_,
      fun h => ?_, fun h => ?_⟩
    · rw [pollsHeld_table, answerPort_bay, htable]
    · rw [pollsHeld_table, answerPort_bay, others y hy]
    · exact (mem_withoutBay.mp (list ▸ he)).2
    · exact list ▸ mem_withoutBay.mpr ⟨he, hb⟩
    · exact (mem_withoutBay.mp (list ▸ he)).1
    · rw [pollsHeld_heat, answerPort_bay]
      exact hplanned h
    · rw [pollsHeld_heat, answerPort_bay]
      exact hstops h
    · rw [pollsHeld_clear, answerPort_bay]
      exact hclear h

end Sys2Proof.Machine
end

section
/-! PROOF. SET_DEPARTURE with values that differ from those held (spec 01, R22). -/

namespace Sys2Proof.Machine

section
variable {s t u : State} {b : Bay} {d : Departure}

/-- A record as OVERDUE is judged: its mark is set where the bay is overdue (spec 01, R25). -/
def judged (s : State) (b : Bay) (d : Departure) : Departure := if isOverdue s b then { d with overdue := true } else d

theorem departuresChanged_bay {x : Bay} : (departuresChanged s).bay x = s.bay x := rfl

theorem judgeOverdue_table {x : Bay} :
    ((judgeOverdue b s).bay x).table =
      if x = b then { (s.bay b).table with departure := (departureOf s b).map (judged s b) } else (s.bay x).table := by
  unfold judgeOverdue judged departureOf
  split
  case isTrue h =>
    rw [post_bay, departuresChanged_bay, updTable_bay]
    split
    · rfl
    · rfl
  · split
    case isTrue h => subst h; simp
    · rfl

/-- The bay's mismatch is of its occupancy, its identity and the fleet number expected. -/
theorem mismatch_congr (ho : (t.bay b).table.occ = (s.bay b).table.occ)
    (hi : (t.bay b).table.identity = (s.bay b).table.identity)
    (he : (departureOf t b).map Departure.expected = (departureOf s b).map Departure.expected) :
    mismatch t b = mismatch s b := by
  unfold mismatch wrongCoach
  rw [ho, hi]
  cases ht : departureOf t b <;> cases hs : departureOf s b <;> simp_all

theorem clearanceNews_state {r : Reason} (h : inRelease s b = false) :
    ((clearanceNews b r s).bay b).clear.state ≠ .released := by
  unfold clearanceNews
  unfold inRelease at h
  split
  case h_1 => simp [postClearance]
  case h_2 hs => simp [hs]
  case h_7 hs => simp [hs] at h
  all_goals rename_i hs; simp [hs]

/-- The record written and told of, before the mismatch test and OVERDUE. -/
def departureTold (b : Bay) (d : Departure) (s : State) : State :=
  clearanceNews b (replacedReason (recompute none (heatDepartureSet b (writeDeparture b d s))) b)
    (recompute none (heatDepartureSet b (writeDeparture b d s)))

theorem replaceDeparture_eq :
    replaceDeparture b d s = judgeOverdue b (testMismatch b (departureTold b d s)) := by
  unfold replaceDeparture departureTold
  rfl

theorem writeDeparture_table : ((writeDeparture b d s).bay b).table = { (s.bay b).table with departure := some d } := by
  have self := updTable_bay_self b (fun t => { t with departure := some d })
    { s with departures := insertDeparture { bay := b, minute := d.minute } (withoutBay b s.departures) }
  exact congrArg BayRec.table self

theorem departureTold_work : Work .none (writeDeparture b d s) (departureTold b d s) :=
  clearanceNews_work (Work.refl.plans (recompute_plans (heatDepartureSet_plans .refl)))

theorem departureTold_table : ((departureTold b d s).bay b).table = { (s.bay b).table with departure := some d } :=
  (departureTold_work.resting b).table.trans writeDeparture_table

/-- The allocator and the Planner have seen the new record, and no clearance has. -/
theorem rebooked_clear {x : State} (h : x = recompute none (heatDepartureSet b (writeDeparture b d s))) :
    (x.bay b).clear = (s.bay b).clear ∧ (x.bay b).table = { (s.bay b).table with departure := some d } := by
  have plans : Plans (writeDeparture b d s) (recompute none (heatDepartureSet b (writeDeparture b d s))) :=
    recompute_plans (heatDepartureSet_plans .refl)
  have same : (recompute none (heatDepartureSet b (writeDeparture b d s))).clearsView = s.clearsView := by simp
  rw [h]
  exact ⟨clear_of_view same b, (plans.rests b).table.trans writeDeparture_table⟩

theorem departureTold_unreleased (h : inRelease s b = false) :
    ((departureTold b d s).bay b).clear.state ≠ .released := by
  unfold departureTold
  obtain ⟨hclear, -⟩ := rebooked_clear (s := s) (b := b) (d := d) rfl
  generalize recompute none (heatDepartureSet b (writeDeparture b d s)) = x at hclear ⊢
  refine clearanceNews_state ?_
  unfold inRelease at *
  rw [hclear]
  exact h

theorem departureTold_revokes (h : (s.bay b).clear.state = .cleared) :
    ((departureTold b d s).bay b).clear.state = .revoked ∧
      ((departureTold b d s).bay b).clear.reasons =
        only (if mismatch (departureTold b d s) b then .wrongCoach else .noDeparture) ∧
      announced .clearance b (departureTold b d s) := by
  have after := departureTold_table (s := s) (b := b) (d := d)
  unfold departureTold at *
  obtain ⟨hclear, htable⟩ := rebooked_clear (s := s) (b := b) (d := d) rfl
  generalize recompute none (heatDepartureSet b (writeDeparture b d s)) = x at hclear htable after ⊢
  have same : mismatch (clearanceNews b (replacedReason x b) x) b = mismatch x b := by
    refine mismatch_congr ?_ ?_ ?_
    · rw [after, htable]
    · rw [after, htable]
    · rw [departureOf, departureOf, htable, after]
  rw [same]
  exact clearanceNews_revoked (by rw [hclear]; exact h)

theorem testMismatch_table {x : Bay} : ((testMismatch b s).bay x).table = (s.bay x).table := by
  have same : (testMismatch b s).tablesView = s.tablesView := by simp
  exact table_of_view same x

theorem testMismatch_clear {x : Bay} : ((testMismatch b s).bay x).clear = (s.bay x).clear := by
  have same : (testMismatch b s).clearsView = s.clearsView := by simp
  exact clear_of_view same x

theorem testMismatch_posts (h : mismatch s b = true) : announced .coachMismatch b (testMismatch b s) := by
  unfold testMismatch
  rw [h]
  exact announced_post

theorem judgeOverdue_posts (h : isOverdue s b = true) : announced .overdue b (judgeOverdue b s) := by
  unfold judgeOverdue
  rw [if_pos h]
  exact announced_post

theorem judgeOverdue_clear {x : Bay} : ((judgeOverdue b s).bay x).clear = (s.bay x).clear := by
  have same : (judgeOverdue b s).clearsView = s.clearsView := by simp
  exact clear_of_view same x

theorem judgeOverdue_announced {e : BayEvent} {x : Bay} (h : announced e x s) : announced e x (judgeOverdue b s) := by
  have work : Work (.table b fun _ => False) s (judgeOverdue b s) := judgeOverdue_work .refl rfl
  exact work.announced h

theorem judgeOverdue_departures : (judgeOverdue b s).departures = s.departures := by
  unfold judgeOverdue
  split
  · rfl
  · rfl

/-- The bay is overdue just where the clock is past the new record's minute. -/
theorem told_isOverdue (h : inRelease s b = false) (hd : d.overdue = false) :
    isOverdue (testMismatch b (departureTold b d s)) b = (s.clock.isSet && decide (d.minute < s.clock.minute)) := by
  have clock : (testMismatch b (departureTold b d s)).clock = s.clock := by
    have told : Work .none (departureTold b d s) (testMismatch b (departureTold b d s)) := testMismatch_work .refl
    exact told.outside.clock.trans (departureTold_work (s := s) (b := b) (d := d)).outside.clock
  have record : departureOf (testMismatch b (departureTold b d s)) b = some d := by
    rw [departureOf, testMismatch_table, departureTold_table]
  have unreleased := departureTold_unreleased (d := d) h
  rw [← testMismatch_clear] at unreleased
  generalize testMismatch b (departureTold b d s) = x at *
  unfold isOverdue
  rw [record, clock]
  simp [hd, unreleased]

/-- The bay's record after SET_DEPARTURE, with the mark of R25. -/
theorem replaceDeparture_table (h : inRelease s b = false) (hd : d.overdue = false) :
    ((replaceDeparture b d s).bay b).table =
      { (s.bay b).table with
        departure := some { d with overdue := s.clock.isSet && decide (d.minute < s.clock.minute) } } := by
  have late := told_isOverdue (s := s) (b := b) h hd
  rw [replaceDeparture_eq, judgeOverdue_table, if_pos rfl, departureOf, testMismatch_table, departureTold_table]
  unfold judged
  rw [late]
  cases hm : (s.clock.isSet && decide (d.minute < s.clock.minute)) with
  | true => rfl
  | false => simp [← hd]

theorem replaceDeparture_departures :
    (replaceDeparture b d s).departures =
      insertDeparture { bay := b, minute := d.minute } (withoutBay b s.departures) := by
  have told : Work .none (departureTold b d s) (testMismatch b (departureTold b d s)) := testMismatch_work .refl
  rw [replaceDeparture_eq, judgeOverdue_departures, told.sameDepartures (fun _ h => h),
    departureTold_work.sameDepartures (fun _ h => h)]
  rfl

theorem replaceDeparture_overdue (h : inRelease s b = false) (hd : d.overdue = false) (hset : s.clock.isSet = true)
    (hlate : d.minute < s.clock.minute) : announced .overdue b (replaceDeparture b d s) := by
  rw [replaceDeparture_eq]
  refine judgeOverdue_posts ?_
  rw [told_isOverdue h hd, hset, decide_eq_true hlate, Bool.and_self]

/-- The mismatch that the bay is left with is the one that was tested. -/
theorem replaceDeparture_mismatch (h : inRelease s b = false) (hd : d.overdue = false) :
    mismatch (replaceDeparture b d s) b = mismatch (departureTold b d s) b := by
  have after := replaceDeparture_table (s := s) (b := b) h hd
  refine mismatch_congr ?_ ?_ ?_
  · rw [after, departureTold_table]
  · rw [after, departureTold_table]
  · rw [departureOf, departureOf, after, departureTold_table]
    rfl

theorem replaceDeparture_tells (h : mismatch (departureTold b d s) b = true) :
    announced .coachMismatch b (replaceDeparture b d s) := by
  rw [replaceDeparture_eq]
  exact judgeOverdue_announced (testMismatch_posts h)

theorem replaceDeparture_revokes (h : (s.bay b).clear.state = .cleared) :
    ((replaceDeparture b d s).bay b).clear.state = .revoked ∧
      ((replaceDeparture b d s).bay b).clear.reasons =
        only (if mismatch (departureTold b d s) b then .wrongCoach else .noDeparture) ∧
      announced .clearance b (replaceDeparture b d s) := by
  obtain ⟨hstate, hreasons, htold⟩ := departureTold_revokes (d := d) h
  rw [replaceDeparture_eq, judgeOverdue_clear, testMismatch_clear]
  have tested : Work .none (departureTold b d s) (testMismatch b (departureTold b d s)) := testMismatch_work .refl
  exact ⟨hstate, hreasons, judgeOverdue_announced (tested.announced htold)⟩

end

/-- Settles O22: the record is written with its place, the blocks that are told of it write no occupancy record, and
OVERDUE is judged last. -/
theorem setDepartureReplacesTheRecordWhole : Obligations.SetDepartureReplacesTheRecordWhole := by
  unfold Obligations.SetDepartureReplacesTheRecordWhole
  intro b minute target expected s ht hocc hrelease hminute
  set d := askedDeparture minute target expected with hd
  have owner : handle .schedule { bay := b.val, body := .setDeparture minute target expected } s =
      if sameDeparture d (departureOf s b) then done s else done (replaceDeparture b d s) := by
    show withBay b.val (fun b => takeSetDeparture b minute target expected) s = _
    rw [withBay_val, takeSetDeparture, if_neg (by simp [hocc, hrelease]), if_neg (by simp [Config.maxMinute, hminute])]
  cases hsame : sameDeparture d (departureOf s b) with
  | true =>
    rw [hsame, if_pos rfl] at owner
    have ran := exec_still (i := .setDeparture .schedule b.val minute target expected) (k := 8)
      rfl rfl ht (by decide) owner (fun _ => rfl)
    exact ⟨_, ran, answered_answerPort, fun _ => rfl, fun h => absurd h (by simp)⟩
  | false =>
    rw [hsame, if_neg Bool.false_ne_true] at owner
    have ran := exec_done (i := .setDeparture .schedule b.val minute target expected) (k := 8)
      rfl rfl ht (by decide) owner
    have unmarked : d.overdue = false := rfl
    have htable := replaceDeparture_table hrelease unmarked
    have hlist := replaceDeparture_departures (s := s) (b := b) (d := d)
    have hmismatch := replaceDeparture_mismatch hrelease unmarked
    have htells := replaceDeparture_tells (s := s) (b := b) (d := d)
    have hrevokes := replaceDeparture_revokes (s := s) (b := b) (d := d)
    have hlate := replaceDeparture_overdue hrelease unmarked
    have others : ∀ x, x ≠ b → ((replaceDeparture b d s).bay x).table = (s.bay x).table := by
      have work : Work (.table b fun _ => False) s (replaceDeparture b d s) := replaceDeparture_work .refl rfl
      exact fun x hx => (work.rests hx).table
    rw [← hmismatch] at htells hrevokes
    generalize replaceDeparture b d s = x at *
    have list : (pollsHeld s (answerPort .schedule { echo := 8, result := .done, payload := [] } x)).departures =
        insertDeparture { bay := b, minute := d.minute } (withoutBay b s.departures) :=
      (pollsHeld_departures ..).trans hlist
    have same : mismatch (pollsHeld s (answerPort .schedule { echo := 8, result := .done, payload := [] } x)) b =
        mismatch x b := by
      unfold mismatch departureOf
      rw [pollsHeld_table, answerPort_bay]
    refine ⟨_, ran, answered_polled, fun h => absurd h (by simp), fun _ => ⟨?_, fun y hy => ?_, ?_, fun e he hb => ?_,
      fun e he hb => ?_, fun e he hb => ?_, fun hset hpast => ?_, fun h => ?_, fun h => ?_⟩⟩
    · rw [pollsHeld_table, answerPort_bay, htable]
      simp [hd, askedDeparture, clampInt]
    · rw [pollsHeld_table, answerPort_bay, others y hy]
    · exact list ▸ mem_insertDeparture.mpr (.inl rfl)
    · obtain rfl | he := mem_insertDeparture.mp (list ▸ he)
      · rfl
      · exact absurd hb (mem_withoutBay.mp he).2
    · obtain rfl | he := mem_insertDeparture.mp (list ▸ he)
      · exact absurd rfl hb
      · exact (mem_withoutBay.mp he).1
    · exact list ▸ mem_insertDeparture.mpr (.inr (mem_withoutBay.mpr ⟨he, hb⟩))
    · exact answered_announced (hlate hset hpast)
    · exact answered_announced (htells (same ▸ h))
    · obtain ⟨hstate, hreasons, htold⟩ := hrevokes h
      rw [same, pollsHeld_clear, answerPort_bay]
      exact ⟨hstate, hreasons, answered_announced htold⟩

end Sys2Proof.Machine
end

section
/-! PROOF. A check that starts leaves a result, and CONFIGURE_BAY's quota and lamp plan override (spec 01, R20; spec 05,
R96; spec 06, R117). -/

namespace Sys2Proof.Machine

section
variable {s t u : State} {b : Bay} {i : Fin 4}

/-! ### Results once stored -/

/-- No lamp record loses its result. -/
def ResultsKept (s t : State) : Prop := ∀ x, (s.bay x).lamp.result ≠ .none → (t.bay x).lamp.result ≠ .none

theorem ResultsKept.refl : ResultsKept s s := fun _ h => h

theorem ResultsKept.trans (h : ResultsKept s t) (k : ResultsKept t u) : ResultsKept s u := fun x hx => k x (h x hx)

theorem ResultsKept.of_lamp (h : ∀ x, (t.bay x).lamp = (s.bay x).lamp) : ResultsKept s t := fun x hx => by rwa [h]

theorem ResultsKept.of_view (h : t.engineView = s.engineView) : ResultsKept s t := .of_lamp (lamp_of_view h)

theorem ResultsKept.updLamp {f : LampRec → LampRec}
    (hf : ∀ l : LampRec, l.result ≠ .none → (f l).result ≠ .none) : ResultsKept s (updLamp b f s) := by
  intro x hx
  rw [updLamp_bay]
  split
  case isTrue h => subst h; exact hf _ hx
  · exact hx

theorem ResultsKept.plans (h : Plans s t) : ResultsKept s t := fun x hx => by
  obtain ⟨m, hm⟩ := h.lamp (b := x)
  rwa [hm]

theorem updSlot_results {f : Slot → Slot} : ResultsKept s (updSlot i f s) := .of_lamp fun _ => rfl

theorem askSample_results : ResultsKept s (askSample i s) := by
  unfold askSample
  split
  case h_1 c _ =>
    split
    case h_1 st _ =>
      have lit : ResultsKept s (updLamp c.bay (fun l => { l with lit := true }) s) := .updLamp fun _ h => h
      generalize updLamp c.bay (fun l => { l with lit := true }) s = x at lit ⊢
      have asked : (askReplacing c.bay (.lampSample st.circuit st.settle) x).engineView = x.engineView := by simp
      exact (lit.trans (.of_view asked)).trans updSlot_results
    · exact .refl
  · exact .refl

theorem stepBegan_results : ResultsKept s (stepBegan b s) := by
  unfold stepBegan
  set held := updPower b (fun p => { p with stepHold := true }) s with hheld
  have kept : ResultsKept s held := .of_view (by rw [hheld]; simp)
  dsimp only
  split
  · have dropped : ResultsKept held (updLane b .stage Lane.dropQueued held) := .of_lamp fun _ => updLane_lamp
    generalize updLane b .stage Lane.dropQueued held = x at dropped ⊢
    exact (kept.trans dropped).trans (.plans (stageNotSent_plans .refl))
  · exact kept

theorem stepBegins_results : ResultsKept s (stepBegins i s) := by
  unfold stepBegins
  split
  case h_1 c _ =>
    split
    case h_1 st _ =>
      set f : Slot → Slot := fun c => { c with
        phase := .sampling, step := some st, validSamples := 0, lastBand := none, nextAt := none } with hf
      have sampling : ResultsKept s (updSlot i f s) := updSlot_results
      generalize updSlot i f s = x at sampling ⊢
      have held : ResultsKept x (stepBegan c.bay x) := stepBegan_results
      have disowned : (disownLamp c.bay (stepBegan c.bay x)).engineView = (stepBegan c.bay x).engineView := by simp
      exact ((sampling.trans held).trans (.of_view disowned)).trans askSample_results
    · exact .refl
  · exact .refl

theorem visitBegins_results {rest : List Bay} : ResultsKept s (visitBegins b rest s) := by
  unfold visitBegins
  set x := { s with
    readerQueue := rest
    visit := some
      { bay := b, phase := .wake, budget := s.settings.recordBudget, fetches := 0, settleUntil := none
        failed := false, suspended := false } } with hx
  have left : ResultsKept s x := .of_lamp fun _ => rfl
  exact left.trans (.of_view (by simp))

theorem grantHolder_results {h : Holder} : ResultsKept s (grantHolder h s) := by
  unfold grantHolder
  split
  case h_1 j =>
    split
    case h_1 c _ =>
      unfold slotGranted
      split
      case h_1 c' _ =>
        have booked : ResultsKept s (addReservation (.slot j) c.bay s) := .of_view (by simp)
        have running : ResultsKept (addReservation (.slot j) c.bay s)
            (updLamp c'.bay (fun l => { l with check := .running }) (addReservation (.slot j) c.bay s)) :=
          .updLamp fun _ h => h
        exact (booked.trans running).trans stepBegins_results
      · exact .of_view (by simp)
    · exact .refl
  · split
    case h_1 x rest _ =>
      have booked : ResultsKept s (addReservation .reader x s) := .of_view (by simp)
      generalize addReservation .reader x s = y at booked ⊢
      exact booked.trans visitBegins_results
    · exact .refl

theorem requestPower_results {h : Holder} : ResultsKept s (requestPower h s) := by
  unfold requestPower
  split
  · exact grantHolder_results
  · exact .of_view (by simp)

theorem judgeStale_results : ResultsKept s (judgeStale b s) := by
  unfold judgeStale
  have marked : ResultsKept s (updLamp b (fun l => { l with stale := isStale s b }) s) := .updLamp fun _ h => h
  exact marked.trans (.of_view (by simp))

theorem recordResult_results {blocking advisory : Nat} : ResultsKept s (recordResult b blocking advisory s) := by
  unfold recordResult
  refine ResultsKept.trans (.updLamp fun l _ => ?_) judgeStale_results
  dsimp only
  split <;> simp

theorem completeEmpty_results : ResultsKept s (completeEmpty b s) := by
  unfold completeEmpty
  have recorded : ResultsKept s (recordResult b 0 0 s) := recordResult_results
  exact recorded.trans (.of_view (by simp))

theorem takeSlot_results : ResultsKept s (takeSlot i b s) := by
  unfold takeSlot
  have slotted : ResultsKept s { s with slots := s.slots.set i (some (newSlot b (checkPlan s b))) } :=
    .of_lamp fun _ => rfl
  generalize { s with slots := s.slots.set i (some (newSlot b (checkPlan s b))) } = x at slotted ⊢
  have waiting : ResultsKept x
      (updLamp b (fun l => { l with check := .waitingPower, slot := some i, offRetryAt := none }) x) :=
    .updLamp fun _ h => h
  exact (slotted.trans waiting).trans requestPower_results

theorem takeHead_results : ResultsKept s (takeHead s) := by
  unfold takeHead
  split
  case h_1 rest _ _ _ =>
    have left : ResultsKept s { s with lampQueue := rest } := .of_lamp fun _ => rfl
    split
    · exact left.trans completeEmpty_results
    · exact left.trans takeSlot_results
  · exact .refl

theorem takeHeads_results {n : Nat} : ResultsKept s (takeHeads n s) := by
  induction n generalizing s with
  | zero => exact .refl
  | succ n ih => exact takeHead_results.trans ih

theorem takeSlots_results : ResultsKept s (takeSlots s) := takeHeads_results

/-- A check that starts is IN_PROGRESS, or has its result already (spec 05, R98). -/
theorem startCheck_result {plan : Nat} : ((startCheck b plan s).bay b).lamp.result ≠ .none := by
  unfold startCheck
  set begun := updLamp b (fun l => { l with
    plan := some plan, result := .inProgress, completion := none, advisory := 0, stale := false }) s with hbegun
  have progress : (begun.bay b).lamp.result ≠ .none := by rw [hbegun, updLamp_bay_self]; simp
  have news : (clearanceNews b .checkInProgress begun).engineView = begun.engineView := by simp
  have told : ((clearanceNews b .checkInProgress begun).bay b).lamp.result ≠ .none := by
    rw [lamp_of_view news]
    exact progress
  generalize clearanceNews b .checkInProgress begun = x at told
  dsimp only
  split
  · exact completeEmpty_results b told
  · have joined : ResultsKept x (joinLampQueue b x) := .of_lamp fun _ => rfl
    have queued : ResultsKept (joinLampQueue b x) (updLamp b (fun l => { l with check := .queued }) (joinLampQueue b x)) :=
      .updLamp fun _ h => h
    exact ((joined.trans queued).trans takeSlots_results) b told

/-- The automatic check leaves a result where it applies (spec 05, R96). -/
theorem autoCheck_result (hplan : (s.bay b).table.lampPlan ≠ none) (hocc : (s.bay b).table.occ = .present)
    (hcheck : checkActive s b = false) : ((autoCheck b s).bay b).lamp.result ≠ .none := by
  unfold autoCheck
  split
  · split
    · exact startCheck_result
    case isFalse h => exact fun hr => h ⟨hocc, hcheck, hr⟩
  case h_2 h => exact absurd h hplan

/-! ### The override -/

/-- The bay's record with its override and lamp plan number (spec 01, R20). -/
def overridden (b : Bay) (o : Option Nat) (s : State) : State :=
  updTable b
    (fun t => { t with
      planOverride := o
      lampPlan := if holdsCoach s b then lampPlanFor o t.identity else t.lampPlan }) s

theorem setOverride_eq {o : Option Nat} :
    setOverride b o s =
      onlyIf ((s.bay b).table.lampPlan.isNone && ((overridden b o s).bay b).table.lampPlan.isSome) (autoCheck b)
        (overridden b o s) := rfl

theorem setOverride_table {o : Option Nat} {x : Bay} :
    ((setOverride b o s).bay x).table = ((overridden b o s).bay x).table := by
  have same : (setOverride b o s).tablesView = (overridden b o s).tablesView := by
    rw [setOverride_eq]
    generalize overridden b o s = y
    simp
  exact table_of_view same x

theorem lampPlanFor_eq {o : Option Nat} {i : Option Identity} :
    lampPlanFor o i = o.orElse fun _ => i.map Identity.coachType := by
  cases o <;> rfl

/-- A PRESENT bay that gains a plan number has its check started (spec 01, R20). -/
theorem setOverride_checks {o : Option Nat} (hocc : (s.bay b).table.occ = .present)
    (hold : (s.bay b).table.lampPlan = none) (hnew : ((setOverride b o s).bay b).table.lampPlan ≠ none)
    (hcheck : checkActive s b = false) : ((setOverride b o s).bay b).lamp.result ≠ .none := by
  rw [setOverride_table] at hnew
  rw [setOverride_eq, hold, Option.isSome_iff_ne_none.mpr hnew]
  have same : ((overridden b o s).bay b).lamp = (s.bay b).lamp := by simp [overridden]
  refine autoCheck_result hnew (by simpa [overridden] using hocc) ?_
  unfold checkActive at *
  rwa [same]

end

/-- A CONFIGURE_BAY of a bay that carries no depot setting. -/
theorem configureBay_parts {b : Bay} {oos : Option Bool} {o : Option (Option Nat)} {q : Option Nat} {s : State}
    (ho : badOverride o = false) (hq : badQuota q = false) (hs : ¬(oos = some true ∧ occupied s b = true))
    (hl : ∀ n ∈ q, (s.bay b).faults.list.length ≤ n) :
    configureBay b oos o q noSettings s =
      doneWith (serviceBytes (applyConfiguration b oos o q noSettings s) b ++
          settingsBytes (applyConfiguration b oos o q noSettings s))
        (applyConfiguration b oos o q noSettings s) := by
  have covered : ¬(q.any fun n => decide (n < (s.bay b).faults.list.length)) = true := by
    cases q with
    | none => simp
    | some n => simpa using hl n rfl
  unfold configureBay
  rw [ho, hq, if_neg (by simp), if_neg hs, if_neg covered]

/-- A quota moves no poll class. -/
theorem setQuota_period {b x : Bay} {n : Nat} {s : State} : pollPeriod (setQuota b n s) x = pollPeriod s x := by
  unfold setQuota
  exact pollPeriod_congr (by simp) (by simp) (by simp) (by simp) (by simp [inRelease]) rfl

/-- Settles O20: the parts of a CONFIGURE_BAY that carries a quota or an override alone. -/
theorem quotaAndPlanOverrideAreConfigured : Obligations.QuotaAndPlanOverrideAreConfigured := by
  unfold Obligations.QuotaAndPlanOverrideAreConfigured
  intro b n o s ht
  have quotaOf : handle .schedule { bay := b.val, body := .configureBay none none (some n) noSettings } s =
      configureBay b none none (some n) noSettings s := withBayOrNone_val
  have overrideOf : handle .schedule { bay := b.val, body := .configureBay none (some o) none noSettings } s =
      configureBay b none (some o) none noSettings s := withBayOrNone_val
  refine ⟨fun hlow hhigh hlist => ?_, fun hlow hhigh hlist => ?_, fun hrange => ?_, fun ho => ?_, fun ho => ?_⟩
  · have quota := configureBay_parts (s := s) (b := b) (oos := none) (o := none) (q := some n) rfl
      (by simp [badQuota]; omega) (by simp) (by simpa using hlist)
    have ran := exec_still (i := .configureBayQuota .schedule b.val n) (k := 5) rfl rfl ht (by decide)
      (quotaOf.trans quota) (fun _ => setQuota_period)
    exact ⟨_, ran, rfl⟩
  · refine exec_refused (k := 5) rfl rfl ht (by decide) (quotaOf.trans ?_)
    unfold configureBay
    rw [if_neg (by simp [badOverride, badQuota]; omega), if_neg (by simp), if_pos (by simpa using hlist)]
  · refine exec_refused (k := 5) rfl rfl ht (by decide) (quotaOf.trans ?_)
    unfold configureBay
    rw [if_pos (by simpa [badOverride, badQuota] using hrange)]
  · have unsettled : applyConfiguration b none (some o) none noSettings s = setOverride b o s := rfl
    have part := configureBay_parts (s := s) (b := b) (oos := none) (o := some o) (q := none)
      (by cases o <;> simp_all [badOverride]) rfl (by simp) (by simp)
    rw [unsettled] at part
    have ran := exec_done (i := .configureBayLampPlanOverride .schedule b.val o) (k := 5) rfl rfl ht (by decide)
      (overrideOf.trans part)
    have htable : ∀ x, ((setOverride b o s).bay x).table = _ := fun x => setOverride_table
    have hchecks := setOverride_checks (s := s) (b := b) (o := o)
    generalize setOverride b o s = x at *
    refine ⟨_, ran, ?_, ?_, fun y hy => ?_, fun hocc hold hnew _ hcheck => ?_⟩
    · have bytes : ∀ r, serviceBytes (pollsHeld s (answerPort .schedule r x)) b ++
          settingsBytes (pollsHeld s (answerPort .schedule r x)) = serviceBytes x b ++ settingsBytes x := by
        intro r
        unfold serviceBytes settingsBytes
        rw [pollsHeld_table, pollsHeld_faults, pollsHeld_settings, answerPort_bay]
        rfl
      rw [bytes]
      exact answered_polled
    · rw [pollsHeld_table, answerPort_bay, htable, overridden, updTable_bay_self, lampPlanFor_eq]
    · rw [pollsHeld_table, answerPort_bay, htable, overridden, updTable_bay_ne hy]
    · rw [pollsHeld_table, answerPort_bay] at hnew
      rw [pollsHeld_lamp, answerPort_bay]
      exact hchecks hocc hold hnew hcheck
  · refine exec_refused (k := 5) rfl rfl ht (by decide) (overrideOf.trans ?_)
    obtain ⟨k, hk, hlarge⟩ := ho
    unfold configureBay
    rw [if_pos (by rw [Option.mem_def.mp hk]; simpa [badOverride, badQuota] using hlarge)]

end Sys2Proof.Machine
end

section
/-! PROOF. A bay that cannot be reached, through the ordinary work of the blocks: it gains no pending transaction, no
commanded target and no increase (spec 02, R36; spec 03, R67). -/

namespace Sys2Proof.Machine

section
variable {s t u : State} {b : Bay}

/-! ### No transaction pending -/

theorem Lane.entries_nil_iff {l : Lane} : l.entries = [] ↔ l = .empty := by
  obtain ⟨o, q⟩ := l
  cases o <;> cases q <;> simp [Lane.entries, Lane.empty]

theorem LoopRec.entries_nil_iff {l : LoopRec} : l.entries = [] ↔ ∀ sort, l.lane sort = .empty := by
  unfold LoopRec.entries
  simp only [List.append_eq_nil_iff, Lane.entries_nil_iff]
  constructor
  · rintro ⟨⟨⟨hs, hl⟩, hm⟩, hr⟩ sort
    cases sort <;> simp [LoopRec.lane, hs, hl, hm, hr]
  · exact fun h => ⟨⟨⟨h .stage, h .latch⟩, h .lamp⟩, h .reader⟩

theorem setLane_lane {l : LoopRec} {sort sort' : LoopSort} {x : Lane} :
    (l.setLane sort x).lane sort' = if sort' = sort ∧ sort ≠ .poll then x else l.lane sort' := by
  cases sort <;> cases sort' <;> simp [LoopRec.setLane, LoopRec.lane]

theorem updLane_lane {x : Bay} {sort sort' : LoopSort} {f : Lane → Lane} :
    ((updLane x sort f s).bay b).loop.lane sort' =
      if b = x ∧ sort' = sort ∧ sort ≠ .poll then f ((s.bay b).loop.lane sort) else (s.bay b).loop.lane sort' := by
  unfold updLane
  rw [updLoop_bay]
  split
  case isTrue h => subst h; simp [setLane_lane]
  case isFalse h => simp [h]

/-- A lane that gains no entry leaves a bay without one so. -/
theorem updLane_empty {x : Bay} {sort : LoopSort} {f : Lane → Lane} (hf : b = x → keepsEmpty f)
    (h : ∀ k, (s.bay b).loop.lane k = .empty) : ∀ k, ((updLane x sort f s).bay b).loop.lane k = .empty := by
  intro k
  rw [updLane_lane]
  split
  case isTrue hk =>
    obtain ⟨hx, -, -⟩ := hk
    rw [h sort]
    exact hf hx
  · exact h k

theorem Plans.lanesEmpty (h : Plans s t) (hr : reachable s b = false) (he : ∀ k, (s.bay b).loop.lane k = .empty) :
    ∀ k, (t.bay b).loop.lane k = .empty := by
  induction h with
  | refl => exact he
  | heat _ _ ih => exact fun k => by rw [updHeat_loop]; exact ih k
  | power _ _ _ ih => exact fun k => by rw [updPower_loop]; exact ih k
  | told _ _ ih => exact fun k => by simpa [noteStage] using ih k
  | join w hr' ih =>
    refine updLane_empty (fun hx => ?_) ih
    subst hx
    rw [reachable_congr (congrArg TableRec.occ (w.rests b).table), hr] at hr'
    exact absurd hr' Bool.false_ne_true
  | _ => rename_i ih; exact ih

/-- A bay out of reach with no transaction pending gains none. -/
theorem Work.lanesEmpty (h : Work .none s t) (hr : reachable s b = false)
    (he : ∀ k, (s.bay b).loop.lane k = .empty) : ∀ k, (t.bay b).loop.lane k = .empty := by
  induction h with
  | refl => exact he
  | plans w k ih =>
    exact k.lanesEmpty (by rw [reachable_congr (congrArg TableRec.occ (w.resting b).table), hr]) ih
  | any _ hb => exact hb.elim
  | written _ hb => exact hb.elim
  | dropped _ hb => exact hb.elim
  | heat _ _ _ ih => exact fun k => by rw [updHeat_loop]; exact ih k
  | power _ _ ih => exact fun k => by rw [updPower_loop]; exact ih k
  | lamp _ ih => exact fun k => by rw [updLamp_loop]; exact ih k
  | faults _ _ ih => exact fun k => by rw [updFaults_loop]; exact ih k
  | reader _ ih => exact fun k => by rw [updReader_loop]; exact ih k
  | clear _ _ ih => exact fun k => by rw [updClear_loop]; exact ih k
  | lane w hl ih =>
    refine updLane_empty (fun hx => ?_) ih
    subst hx
    rw [reachable_congr (congrArg TableRec.occ (w.resting b).table), hr] at hl
    obtain hl | hl | hl := hl
    · exact hl.elim
    · exact absurd hl Bool.false_ne_true
    · exact hl
  | _ => rename_i ih; exact ih

/-! ### No increase, and nothing commanded -/

theorem freeIncrease_ne {x : Bay} (h : s.supply.increase ≠ some b) : (freeIncrease x s).supply.increase ≠ some b := by
  unfold freeIncrease
  simp only [updSupply_supply]
  split
  · simp
  · exact h

theorem Plans.increase_ne (h : Plans s t) (hi : s.supply.increase ≠ some b) : t.supply.increase ≠ some b := by
  induction h with
  | refl => exact hi
  | free _ ih => exact freeIncrease_ne ih
  | _ => rename_i ih; exact ih

/-- Only a STAGE increase sent makes one outstanding. -/
theorem Work.increase_ne (h : Work w s t) (hi : s.supply.increase ≠ some b) : t.supply.increase ≠ some b := by
  induction h with
  | refl => exact hi
  | plans _ k ih => exact k.increase_ne ih
  | books _ hf ih => exact hf _ _ ih
  | _ => rename_i ih; exact ih

theorem updPower_commanded {x : Bay} {f : PowerRec → PowerRec} (h : (s.bay b).power.commanded = 0)
    (hf : b = x → (f (s.bay x).power).commanded = 0) : ((updPower x f s).bay b).power.commanded = 0 := by
  rw [updPower_bay]
  split
  case isTrue hx => exact hf hx
  · exact h

theorem Plans.commanded_lost (h : Plans s t) (ho : (s.bay b).table.occ = .lost)
    (hc : (s.bay b).power.commanded = 0) : (t.bay b).power.commanded = 0 := by
  induction h with
  | refl => exact hc
  | heat _ _ ih => simpa using ih
  | power w _ hl ih =>
    refine updPower_commanded ih fun hx => ?_
    subst hx
    exact hl ((congrArg TableRec.occ (w.rests b).table).trans ho) ih
  | @told t x target w hl ih =>
    have cold : ((updPower x (fun p => { p with commanded := target, watch := none }) t).bay b).power.commanded = 0 := by
      refine updPower_commanded ih fun hx => ?_
      subst hx
      exact hl ((congrArg TableRec.occ (w.rests b).table).trans ho) ih
    simpa [noteStage] using cold
  | join _ _ ih => simpa [joinStage, updLane] using ih
  | _ => rename_i ih; exact ih

/-- A LOST bay whose commanded target is 0 keeps it (spec 03, R67). -/
theorem Work.commanded_lost (h : Work .none s t) (ho : (s.bay b).table.occ = .lost)
    (hc : (s.bay b).power.commanded = 0) : (t.bay b).power.commanded = 0 := by
  induction h with
  | refl => exact hc
  | plans w k ih => exact k.commanded_lost ((congrArg TableRec.occ (w.resting b).table).trans ho) ih
  | any _ hb => exact hb.elim
  | written _ hb => exact hb.elim
  | dropped _ hb => exact hb.elim
  | heat _ _ _ ih => simpa using ih
  | power w hr ih =>
    refine updPower_commanded ih fun hx => ?_
    subst hx
    obtain hr | ⟨-, hl⟩ := hr
    · exact hr.elim
    · exact hl ((congrArg TableRec.occ (w.resting b).table).trans ho) ih
  | lamp _ ih => simpa using ih
  | faults _ _ ih => simpa using ih
  | reader _ ih => simpa using ih
  | clear _ _ ih => simpa using ih
  | lane _ _ ih => simpa [updLane] using ih
  | _ => rename_i ih; exact ih

/-! ### A pending list dropped -/

theorem takeNoSample_pool {i : Fin 4} : (takeSample i none s).poolView = s.poolView := by
  unfold takeSample
  split
  · split
    case h_1 h => exact absurd h (by simp)
    · simp
    · rfl
  · rfl

theorem entryNotSent_pool {e : Entry} : (entryNotSent b e s).poolView = s.poolView := by
  unfold entryNotSent
  split
  case h_3 =>
    unfold sampleOutcome sampleOf
    split
    · exact takeNoSample_pool
    · rfl
  all_goals simp

/-- What dropping a bay's pending list leaves (spec 02, R36). -/
structure Dropped (s t : State) (b : Bay) : Prop where
  table : (t.bay b).table = (s.bay b).table
  clear : (s.bay b).clear.Follows (t.bay b).clear
  quota : (t.bay b).faults.quota = (s.bay b).faults.quota
  poll : (t.bay b).loop.poll = (s.bay b).loop.poll
  failures : (t.bay b).loop.failures = 0
  lanes : ∀ k, (t.bay b).loop.lane k = .empty
  pool : t.poolView = s.poolView

theorem reset_lane {p : PollPlan} {k : LoopSort} : (LoopRec.reset p).lane k = .empty := by cases k <;> rfl

theorem dropPending_dropped (hr : reachable s b = false) : Dropped s (dropPending b s) b := by
  unfold dropPending
  set x := updLoop b (fun l => .reset l.poll) s with hx
  have work : Work .none x ((s.bay b).loop.entries.foldl (fun s e => entryNotSent b e s) x) :=
    Work.foldl (fun _ _ => entryNotSent_work) .refl
  have pool : ∀ (l : List Entry) (y : State), (l.foldl (fun s e => entryNotSent b e s) y).poolView = y.poolView := by
    intro l
    induction l with
    | nil => exact fun _ => rfl
    | cons e l ih => exact fun y => (ih _).trans entryNotSent_pool
  have rests := work.resting b
  have emptied : (x.bay b).loop = .reset (s.bay b).loop.poll := by rw [hx]; simp
  have unreached : reachable x b = false := by rw [← hr]; exact reachable_congr (by rw [hx]; simp)
  have follows := rests.clear
  rw [hx, updLoop_clear] at follows
  exact
    { table := rests.table.trans (by rw [hx]; simp)
      clear := follows
      quota := rests.quota.trans (by rw [hx]; simp)
      poll := rests.poll.trans (by rw [emptied]; rfl)
      failures := rests.failures.trans (by rw [emptied]; rfl)
      lanes := work.lanesEmpty unreached fun k => by rw [emptied]; exact reset_lane
      pool := (pool _ x).trans (by rw [hx]; simp) }

end

end Sys2Proof.Machine
end

section
/-! PROOF. A bay taken out of service and brought back (spec 01, R18, R19; spec 04, R90). -/

namespace Sys2Proof.Machine

section
variable {s t u : State} {b : Bay}

/-! ### Out of service on -/

theorem removeDeparture_entries {e : DepartureEntry} (h : e ∈ (removeDeparture b s).departures) :
    e ∈ s.departures ∧ ((departureOf s b).isSome = true → e.bay ≠ b) := by
  cases hd : (departureOf s b).isSome with
  | true =>
    rw [removeDeparture_departures hd] at h
    obtain ⟨he, hb⟩ := mem_withoutBay.mp h
    exact ⟨he, fun _ => hb⟩
  | false =>
    unfold removeDeparture at h
    rw [hd] at h
    exact ⟨h, fun h0 => absurd h0 Bool.false_ne_true⟩

theorem heatOutOfService_heat :
    ((heatOutOfService b s).bay b).heat.state = .off ∧ ((heatOutOfService b s).bay b).heat.demand = 0 := by
  unfold heatOutOfService
  refine ⟨?_, setDemand_demand⟩
  rw [setDemand_state]
  simp [clearHeatFlags]

/-- The state in which the bay is OUT_OF_SERVICE, with its pending list and its demand still to drop. -/
def closed (b : Bay) (s : State) : State :=
  setPoll b .idle
    (updTable b (fun t => { t with occ := .outOfService, beforeLoss := none, plugCount := 0, oosRequest := true })
      (removeDeparture b s))

theorem becomeOutOfService_eq : becomeOutOfService b s = heatOutOfService b (dropPending b (closed b s)) := rfl

/-- The bay's record as it goes out of service. -/
def TableRec.closed (t : TableRec) : TableRec :=
  { t with occ := .outOfService, beforeLoss := none, plugCount := 0, oosRequest := true, departure := none }

theorem closed_table : ((closed b s).bay b).table = (s.bay b).table.closed := by
  have gone := (removeDeparture_rests (s := s) (b := b)).table
  unfold closed setPoll
  rw [updLoop_table, updTable_bay_self, gone]
  simp [TableRec.closed]

/-- What a bay keeps of itself as it goes out of service. -/
structure Closed (s t : State) (b : Bay) : Prop where
  table : (t.bay b).table = (s.bay b).table.closed
  clear : (s.bay b).clear.Follows (t.bay b).clear
  poll : (t.bay b).loop.poll = .idle
  failures : (t.bay b).loop.failures = 0
  entries : (t.bay b).loop.entries = []
  state : (t.bay b).heat.state = .off
  demand : (t.bay b).heat.demand = 0
  pool : t.poolView = s.poolView
  listed : ∀ e ∈ t.departures, e ∈ s.departures ∧ ((departureOf s b).isSome = true → e.bay ≠ b)

theorem becomeOutOfService_closed : Closed s (becomeOutOfService b s) b := by
  rw [becomeOutOfService_eq]
  have table := closed_table (s := s) (b := b)
  have poll : ((closed b s).bay b).loop.poll = .idle := by simp [closed, setPoll]
  have pool : (closed b s).poolView = s.poolView := by simp [closed, setPoll]
  have clear : (closed b s).clearsView = s.clearsView := by simp [closed, setPoll]
  have list : (closed b s).departures = (removeDeparture b s).departures := rfl
  have unreached : reachable (closed b s) b = false := by
    unfold reachable
    rw [table]
    rfl
  generalize closed b s = x at table poll pool clear list unreached ⊢
  have d := dropPending_dropped unreached
  have dropped : (dropPending b x).bookingsView = x.bookingsView := by simp
  generalize dropPending b x = y at d dropped ⊢
  have withdrawn : Plans y (heatOutOfService b y) := heatOutOfService_plans .refl
  have rests := withdrawn.rests b
  have unreachedY : reachable y b = false := (reachable_congr (congrArg TableRec.occ d.table)).trans unreached
  have follows := d.clear.trans rests.clear
  rw [clear_of_view clear] at follows
  have cold := heatOutOfService_heat (s := y) (b := b)
  have listed : (heatOutOfService b y).departures = y.departures := withdrawn.sameList.1
  have kept : (heatOutOfService b y).poolView = y.poolView := by simp
  exact
    { table := rests.table.trans (d.table.trans table)
      clear := follows
      poll := rests.poll.trans (d.poll.trans poll)
      failures := rests.failures.trans d.failures
      entries := LoopRec.entries_nil_iff.mpr (withdrawn.lanesEmpty unreachedY d.lanes)
      state := cold.1
      demand := cold.2
      pool := kept.trans (d.pool.trans pool)
      listed := fun e he => by
        rw [listed, departures_of_view dropped, list] at he
        exact removeDeparture_entries he }

theorem heldPoll_idle (h : (t.bay b).loop.poll = .idle) : heldPoll s t b = .idle := by
  unfold heldPoll
  rw [h]

theorem heldPoll_probe {m : Moment} (h : (t.bay b).loop.poll = .probe m) : heldPoll s t b = .probe m := by
  unfold heldPoll
  rw [h]

/-! ### Out of service off -/

/-- The bay's record as it comes into service. -/
def TableRec.opened (t : TableRec) : TableRec :=
  { t with occ := .lost, beforeLoss := some .vacant, discovered := true, plugCount := 0, oosRequest := false }

/-- What bringing a bay into service does (spec 01, R19). -/
theorem bringIntoService_bay (h : (s.bay b).table.occ = .outOfService) :
    ((bringIntoService b s).bay b).table = (s.bay b).table.opened ∧
      ((bringIntoService b s).bay b).loop.poll = .probe s.time ∧
      ((bringIntoService b s).bay b).power.commanded = 0 ∧ (bringIntoService b s).ports = s.ports ∧
      (bringIntoService b s).visit = s.visit ∧ ∀ x, x ≠ b → (bringIntoService b s).bay x = s.bay x := by
  unfold bringIntoService
  rw [if_pos h]
  unfold setPoll allocatorLost freeIncrease
  refine ⟨?_, ?_, ?_, rfl, rfl, fun x hx => ?_⟩
  · simp [TableRec.opened]
  · simp
  · simp
  · rw [updLoop_bay_ne hx, updSupply_bay, updPower_bay_ne hx, updTable_bay_ne hx]

end

/-- A CONFIGURE_BAY that carries the out-of-service request alone. -/
theorem handle_outOfService {b : Bay} {on : Bool} {s : State} (hs : ¬(on = true ∧ occupied s b = true)) :
    handle .schedule { bay := b.val, body := .configureBay (some on) none none noSettings } s =
      doneWith (serviceBytes (setOutOfService b on s) b ++ settingsBytes (setOutOfService b on s))
        (setOutOfService b on s) := by
  have handed : handle .schedule { bay := b.val, body := .configureBay (some on) none none noSettings } s =
      configureBay b (some on) none none noSettings s := withBayOrNone_val
  rw [handed, configureBay_parts rfl rfl (by simpa using hs) (by simp)]
  rfl

theorem setOutOfService_on {b : Bay} {s : State} : setOutOfService b true s = takeOutOfService b s := by
  unfold setOutOfService
  exact if_pos rfl

theorem setOutOfService_off {b : Bay} {s : State} : setOutOfService b false s = bringIntoService b s := by
  unfold setOutOfService
  exact if_neg Bool.false_ne_true

/-- The bytes of a CONFIGURE_BAY's answer, of the state that the request leaves. -/
theorem serviceBytes_polled {b : Bay} {r : Response} {s x : State} :
    serviceBytes (pollsHeld s (answerPort .schedule r x)) b ++ settingsBytes (pollsHeld s (answerPort .schedule r x)) =
      serviceBytes x b ++ settingsBytes x := by
  unfold serviceBytes settingsBytes
  rw [pollsHeld_table, pollsHeld_faults, pollsHeld_settings, answerPort_bay]
  rfl

theorem polled_events {s x : State} {p q : Port} {r : Response} (h : x.ports = s.ports) :
    ((pollsHeld s (answerPort p r x)).port q).baySets = (s.port q).baySets ∧
      ((pollsHeld s (answerPort p r x)).port q).poolLow = (s.port q).poolLow ∧
      ((pollsHeld s (answerPort p r x)).port q).supply = (s.port q).supply := by
  rw [pollsHeld_port, answerPort, updPort_port]
  have same : ∀ y : Port, x.port y = s.port y := fun y => by unfold State.port; rw [h]
  split
  case isTrue e => subst e; rw [same]; exact ⟨rfl, rfl, rfl⟩
  · rw [same]; exact ⟨rfl, rfl, rfl⟩

/-- A LOST bay's poll period depends on neither its contactors nor its check. -/
theorem polled_bay_ne {s x : State} {p : Port} {r : Response} {y : Bay} (h : x.bay y = s.bay y) (hv : x.visit = s.visit) :
    (pollsHeld s (answerPort p r x)).bay y = s.bay y := by
  have period : pollPeriod (answerPort p r x) y = pollPeriod s y := by
    refine pollPeriod_congr ?_ ?_ ?_ ?_ ?_ (congrArg _ hv)
    · rw [answerPort_bay, h]
    · rw [answerPort_bay, h]
    · rw [answerPort_bay, h]
    · rw [answerPort_bay, h]
    · unfold inRelease
      rw [answerPort_bay, h]
  rw [pollsHeld_bay, heldPoll_of_period period, answerPort_bay, h]

/-- A bay as it is OUT_OF_SERVICE, against the bay as it was (spec 01, R18; spec 04, R90). -/
structure OutOfService (s t : State) (b : Bay) : Prop where
  closed : ∃ f : TableRec, (t.bay b).table = f.closed ∧ f.discovered = (s.bay b).table.discovered ∧
    f.plug = (s.bay b).table.plug ∧ f.latch = (s.bay b).table.latch ∧
    f.planOverride = (s.bay b).table.planOverride ∧
    (holdsCoach s b = true → f.lastDeparture = some .unobserved) ∧
    (holdsCoach s b = false → f.lastDeparture = (s.bay b).table.lastDeparture)
  quota : (t.bay b).faults.quota = (s.bay b).faults.quota
  listed : (departureOf s b).isSome = true → ∀ e ∈ t.departures, e.bay ≠ b
  poll : (t.bay b).loop.poll = .idle
  failures : (t.bay b).loop.failures = 0
  entries : (t.bay b).loop.entries = []
  state : (t.bay b).heat.state = .off
  demand : (t.bay b).heat.demand = 0
  unlost : ∀ p, eventSet t p (bayEventKind .nodeLost) = eventSet s p (bayEventKind .nodeLost)
  coach : holdsCoach s b = true → announced .departed b t ∧ (t.bay b).faults.list = [] ∧
    t.freeCount = s.freeCount + (s.bay b).faults.list.length ∧ (t.bay b).clear = .reset
  none : holdsCoach s b = false → (t.bay b).faults = (s.bay b).faults ∧ t.freeCount = s.freeCount

theorem freeCount_of_view {s t : State} (h : t.poolView = s.poolView) : t.freeCount = s.freeCount := congrArg Prod.fst h

theorem takeOutOfService_unlost {b : Bay} {s : State} :
    ∀ p, eventSet (takeOutOfService b s) p (bayEventKind .nodeLost) = eventSet s p (bayEventKind .nodeLost) := by
  have work : Work (.table b (· = .departed)) s (takeOutOfService b s) := takeOutOfService_work .refl rfl fun _ => rfl
  exact fun _ => work.eventSet rfl fun h => BayEvent.noConfusion h

/-- A bay without a coach goes out of service. -/
theorem takeOutOfService_none {b : Bay} {s : State} (hin : (s.bay b).table.occ ≠ .outOfService)
    (hc : holdsCoach s b = false) : OutOfService s (takeOutOfService b s) b := by
  have unlost := takeOutOfService_unlost (b := b) (s := s)
  have taken : takeOutOfService b s = becomeOutOfService b s := by
    unfold takeOutOfService
    rw [if_neg hin, hc, if_neg Bool.false_ne_true]
  rw [taken] at unlost ⊢
  have c : Closed s (becomeOutOfService b s) b := becomeOutOfService_closed
  generalize becomeOutOfService b s = y at c unlost ⊢
  exact
    { closed := ⟨_, c.table, rfl, rfl, rfl, rfl, fun h => absurd (hc.symm.trans h) Bool.false_ne_true, fun _ => rfl⟩
      quota := by rw [faults_of_view c.pool]
      listed := fun hd e he => (c.listed e he).2 hd
      poll := c.poll
      failures := c.failures
      entries := c.entries
      state := c.state
      demand := c.demand
      unlost := unlost
      coach := fun h => absurd (hc.symm.trans h) Bool.false_ne_true
      none := fun _ => ⟨faults_of_view c.pool b, freeCount_of_view c.pool⟩ }

/-- A LOST bay that held a coach goes out of service, the coach's departure unobserved. -/
theorem takeOutOfService_coach {b : Bay} {s : State} (hin : (s.bay b).table.occ ≠ .outOfService)
    (hc : holdsCoach s b = true) : OutOfService s (takeOutOfService b s) b := by
  have unlost := takeOutOfService_unlost (b := b) (s := s)
  have taken : takeOutOfService b s = becomeOutOfService b (departs .unobserved false false b s) := by
    unfold takeOutOfService
    rw [if_neg hin, if_pos hc]
  rw [taken] at unlost ⊢
  have v := departs_vacated (kind := .unobserved) (k := false) (c := false) (b := b) (s := s)
  have cleaned := departs_cleaned (kind := .unobserved) (k := false) (b := b) (s := s)
  have told := departs_announced (kind := .unobserved) (k := false) (b := b) (s := s)
  have removed : (departureOf s b).isSome = true → _ := departs_removed (kind := .unobserved)
  generalize departs .unobserved false false b s = x at v cleaned told removed unlost ⊢
  have c : Closed x (becomeOutOfService b x) b := becomeOutOfService_closed
  have work : Work (.table b fun _ => True) x (becomeOutOfService b x) := becomeOutOfService_work .refl rfl
  have announced := work.announced told
  generalize becomeOutOfService b x = y at c announced unlost ⊢
  have table := v.table
  rw [updTable_bay_self] at table
  exact
    { closed := ⟨_, c.table, by rw [table], by rw [table], by rw [table], by rw [table], fun _ => by rw [table],
        fun h => absurd (hc.symm.trans h) (by simp)⟩
      quota := by rw [faults_of_view c.pool, v.quota, updTable_faults]
      listed := fun hd e he => withoutBay_ne (removed hd ▸ (c.listed e he).1)
      poll := c.poll
      failures := c.failures
      entries := c.entries
      state := c.state
      demand := c.demand
      unlost := unlost
      coach := fun _ => ⟨announced, by rw [faults_of_view c.pool]; exact cleaned.list,
        (freeCount_of_view c.pool).trans cleaned.free, c.clear.of_reset v.clear⟩
      none := fun h => absurd (hc.symm.trans h) (by simp) }

theorem takeOutOfService_out {b : Bay} {s : State} (hin : (s.bay b).table.occ ≠ .outOfService) :
    OutOfService s (takeOutOfService b s) b := by
  cases hc : holdsCoach s b with
  | true => exact takeOutOfService_coach hin hc
  | false => exact takeOutOfService_none hin hc

/-- Settles O21: the request is the cleanup of a departure, where the bay held a coach, and the closing of the bay; and
its removal a LOST record with a probe due now. -/
theorem bayIsTakenOutOfServiceAndBroughtBack : Obligations.BayIsTakenOutOfServiceAndBroughtBack := by
  unfold Obligations.BayIsTakenOutOfServiceAndBroughtBack
  intro b s ht
  refine ⟨fun hocc => ?_, fun hocc => ?_, ?_⟩
  · refine exec_refused (k := 5) (body := .configureBay (some true) none none noSettings) rfl rfl ht (by decide) ?_
    show withBayOrNone b.val _ _ s = _
    rw [withBayOrNone_val]
    unfold configureBay
    rw [if_neg (by simp [badOverride, badQuota]), if_pos ⟨rfl, hocc⟩]
  · have owner := handle_outOfService (b := b) (on := true) (s := s) (by simp [hocc])
    rw [setOutOfService_on] at owner
    cases hin : decide ((s.bay b).table.occ = .outOfService) with
    | true =>
      have hin := of_decide_eq_true hin
      have still : takeOutOfService b s = s := by
        unfold takeOutOfService
        rw [if_pos hin]
      rw [still] at owner
      have ran := exec_still (i := .configureBayOutOfService .schedule b.val) (k := 5) rfl rfl ht (by decide) owner
        (fun _ => rfl)
      exact ⟨_, ran, answered_answerPort, fun _ => rfl, fun h => absurd hin h⟩
    | false =>
      have hin := of_decide_eq_false hin
      have ran := exec_done (i := .configureBayOutOfService .schedule b.val) (k := 5) rfl rfl ht (by decide) owner
      have out := takeOutOfService_out (b := b) hin
      generalize takeOutOfService b s = y at *
      obtain ⟨f, table, hdiscovered, hplug, hlatch, hoverride, hcoach, hnone⟩ := out.closed
      refine ⟨_, ran, ?_, fun h => absurd h hin, fun _ => ⟨?_, ?_, ?_, ?_, ?_, fun hd => ?_, ?_, ?_, ?_, ?_, ?_, ?_, ?_, ?_,
        ?_, ?_, fun p => ?_, fun hc => ?_, fun hc => ?_⟩⟩
      · rw [serviceBytes_polled]
        exact answered_polled
      · rw [pollsHeld_table, answerPort_bay, table]; rfl
      · rw [pollsHeld_table, answerPort_bay, table]; rfl
      · rw [pollsHeld_table, answerPort_bay, table]; rfl
      · rw [pollsHeld_table, answerPort_bay, table]; rfl
      · rw [departureOf, pollsHeld_table, answerPort_bay, table]; rfl
      · rw [pollsHeld_departures]
        exact out.listed hd
      · rw [pollsHeld_loop]
        exact heldPoll_idle out.poll
      · rw [pollsHeld_loop]
        exact out.entries
      · rw [pollsHeld_loop]
        exact out.failures
      · rw [pollsHeld_heat, answerPort_bay, out.state]
      · rw [pollsHeld_heat, answerPort_bay, out.demand]
      · rw [pollsHeld_table, answerPort_bay, table]; exact hdiscovered
      · rw [pollsHeld_table, answerPort_bay, table]; exact hplug
      · rw [pollsHeld_table, answerPort_bay, table]; exact hlatch
      · rw [pollsHeld_table, answerPort_bay, table]; exact hoverride
      · rw [pollsHeld_faults, answerPort_bay, out.quota]
      · exact (pollsHeld_eventSet.trans answerPort_eventSet).trans (out.unlost p)
      · obtain ⟨htold, hlist, hfree, hclear⟩ := out.coach hc
        rw [pollsHeld_table, pollsHeld_faults, pollsHeld_freeCount, pollsHeld_clear, answerPort_bay, table]
        exact ⟨hcoach hc, answered_announced htold, hlist, hfree, hclear⟩
      · obtain ⟨hfaults, hfree⟩ := out.none hc
        rw [pollsHeld_table, pollsHeld_faults, pollsHeld_freeCount, answerPort_bay, table]
        exact ⟨hnone hc, hfaults, hfree⟩
  · have owner := handle_outOfService (b := b) (on := false) (s := s) (by simp)
    rw [setOutOfService_off] at owner
    cases hin : decide ((s.bay b).table.occ = .outOfService) with
    | false =>
      have hin := of_decide_eq_false hin
      have still : bringIntoService b s = s := by
        unfold bringIntoService
        rw [if_neg hin]
      rw [still] at owner
      have ran := exec_still (i := .configureBayInService .schedule b.val) (k := 5) rfl rfl ht (by decide) owner
        (fun _ => rfl)
      refine ⟨_, ran, answered_answerPort, fun q => ?_, fun h => absurd h hin, fun _ => rfl⟩
      have events := polled_events (s := s) (x := s) (p := .schedule) (q := q)
        (r := { echo := 5, result := .done, payload := serviceBytes s b ++ settingsBytes s }) rfl
      rwa [pollsHeld_port] at events
    | true =>
      have hin := of_decide_eq_true hin
      have ran := exec_done (i := .configureBayInService .schedule b.val) (k := 5) rfl rfl ht (by decide) owner
      obtain ⟨htable, hpoll, hcommanded, hports, hvisit, hothers⟩ := bringIntoService_bay hin
      generalize bringIntoService b s = y at *
      refine ⟨_, ran, ?_, fun q => polled_events hports, fun _ => ⟨?_, ?_, ?_, fun x hx => ?_⟩, fun h => absurd hin h⟩
      · rw [serviceBytes_polled]
        exact answered_polled
      · rw [pollsHeld_table, answerPort_bay, htable]; rfl
      · rw [pollsHeld_loop]
        exact heldPoll_probe hpoll
      · rw [pollsHeld_power, answerPort_bay, hcommanded]
      · exact polled_bay_ne (hothers x hx) hvisit

end Sys2Proof.Machine
end

section
/-! PROOF. The third failure of a node: the bay is LOST, and what is known of its coach is kept (spec 01, R13, R14; spec
02, R36; spec 08, R169). -/

namespace Sys2Proof.Machine

section
variable {s t u : State} {b : Bay}

/-! ### The visit that stands -/

/-- A visit of the bay that has not failed. -/
def FreshVisit (b : Bay) (s : State) : Prop := ∀ v ∈ s.visit, v.bay = b → v.failed = false

theorem FreshVisit.of_visit (h : t.visit = s.visit) (hs : FreshVisit b s) : FreshVisit b t := by
  unfold FreshVisit
  rw [h]
  exact hs

theorem FreshVisit.of_view (h : t.readersView = s.readersView) (hs : FreshVisit b s) : FreshVisit b t :=
  hs.of_visit (visit_of_view h)

theorem visitBegins_fresh {x : Bay} {rest : List Bay} : FreshVisit b (visitBegins x rest s) := by
  unfold FreshVisit
  rw [visitBegins_visit]
  intro v hv _
  cases hv
  rfl

theorem grantHolder_fresh {h : Holder} (hs : FreshVisit b s) : FreshVisit b (grantHolder h s) := by
  unfold grantHolder
  split
  · split
    · exact hs.of_view (by simp)
    · exact hs
  · split
    · exact visitBegins_fresh
    · exact hs

theorem requestPower_fresh {h : Holder} (hs : FreshVisit b s) : FreshVisit b (requestPower h s) := by
  unfold requestPower
  split
  · exact grantHolder_fresh hs
  · exact hs.of_view (by simp)

theorem grantPass_fresh (hs : FreshVisit b s) : FreshVisit b (grantPass s) := by
  unfold grantPass
  induction passOrder generalizing s with
  | nil => exact hs
  | cons o l ih =>
    refine ih ?_
    unfold passTurn
    split
    · exact grantHolder_fresh hs
    · exact hs

theorem giveBack_fresh {h : Holder} (hs : FreshVisit b s) : FreshVisit b (giveBack h s) := by
  unfold giveBack
  split
  · exact grantPass_fresh (hs.of_view (by simp))
  · exact hs.of_view (by simp)

theorem askVisit_fresh (hs : FreshVisit b s) : FreshVisit b (askVisit s) := by
  unfold askVisit
  split
  · exact hs.of_view (by simp)
  · split
    · exact hs
    · exact requestPower_fresh hs
  · exact hs

theorem leaveQueues_fresh (hs : FreshVisit b s) : FreshVisit b (leaveQueues b s) := by
  unfold leaveQueues
  exact askVisit_fresh (hs.of_visit rfl)

theorem endVisitOutside_fresh : FreshVisit b (endVisitOutside b s) := by
  unfold endVisitOutside
  split
  · refine giveBack_fresh fun v hv => ?_
    have none_ : (cutVisit b s).visit = none := by
      unfold cutVisit
      have same : (withdrawAll b .reader { s with visit := none }).readersView = ({ s with visit := none } : State).readersView := by
        simp
      exact visit_of_view same
    rw [none_] at hv
    exact absurd hv (by simp)
  case isFalse h =>
    intro v hv hb
    refine absurd ?_ h
    unfold visiting
    rw [Option.mem_def.mp hv]
    simpa using hb

/-- A visit of a bay that has just been lost is one that began since. -/
theorem readerLost_fresh : FreshVisit b (readerLost b s) := by
  unfold readerLost
  refine leaveQueues_fresh ?_
  have fresh : FreshVisit b (endVisitOutside b s) := endVisitOutside_fresh
  exact fresh.of_visit rfl

/-! ### A FAILED outcome, but for a POLL's -/

/-- The end of a visit that has not failed. -/
theorem visitEnds_fresh_work {v : Visit} (hv : v.failed = false) : Work .none s (visitEnds v s) :=
  visitEnds_work .refl fun h => absurd (hv.symm.trans h) Bool.false_ne_true

theorem visitEnds_fresh_pool {v : Visit} (hv : v.failed = false) : (visitEnds v s).poolView = s.poolView := by
  have left : (giveBack .reader { s with visit := none }).poolView = s.poolView := by
    have given : (giveBack .reader { s with visit := none }).poolView = ({ s with visit := none } : State).poolView := by
      simp
    exact given
  unfold visitEnds
  rw [hv]
  generalize giveBack .reader { s with visit := none } = x at left ⊢
  dsimp only
  rw [if_neg Bool.false_ne_true]
  have asked : ∀ y : State, (askVisit y).poolView = y.poolView := fun y => by simp
  rw [asked]
  split
  · have ended : (suspendedVisitEnds v.bay x).poolView = x.poolView := by simp
    exact ended.trans left
  · have ended : (placeIfWanted v.bay x).poolView = x.poolView := by simp
    exact ended.trans left

theorem readerNotDone_fresh {req : LoopReq} {v : Visit} (hv : v.failed = false) :
    Work .none s (readerNotDone b req v s) ∧ (readerNotDone b req v s).poolView = s.poolView := by
  unfold readerNotDone
  split
  · exact ⟨visitEnds_fresh_work hv, visitEnds_fresh_pool hv⟩
  · exact ⟨visitFails_work .refl, by simp⟩

/-- A reader transaction that FAILED, with no failed visit at the bay. -/
theorem readerFailed_fresh {req : LoopReq} {wanted : Bool} {reply : ReaderReply} (hf : FreshVisit b s) :
    Work .none s (readerOutcome b req wanted .failed reply s) ∧
      (readerOutcome b req wanted .failed reply s).poolView = s.poolView := by
  have late : lateOutcome b req .failed reply s = s := by
    unfold lateOutcome
    split
    · contradiction
    · rfl
  unfold readerOutcome
  split
  case h_1 v hv =>
    split
    case isTrue hb => exact readerNotDone_fresh (hf v hv hb)
    case isFalse => rw [late]; exact ⟨.refl, rfl⟩
  case h_2 => rw [late]; exact ⟨.refl, rfl⟩

/-- A transaction that FAILED leaves the pool, and writes no bay's record (spec 02, R29). -/
theorem failedOutcome {e : Entry} (he : e.req ≠ .poll) (hf : FreshVisit b s) :
    Work .none s (ownerOutcome b e .failed .nothing s) ∧ (ownerOutcome b e .failed .nothing s).poolView = s.poolView := by
  unfold ownerOutcome
  split
  case h_1 h => exact absurd h he
  case h_2 => exact ⟨stageOutcome_work .refl (.inr (.inr (by decide))), by simp⟩
  case h_3 => exact ⟨latchOutcome_work .refl, by simp⟩
  case h_4 =>
    refine ⟨sampleOutcome_work .refl, ?_⟩
    unfold sampleOutcome sampleOf
    split
    · exact takeNoSample_pool
    · rfl
  case h_5 => exact ⟨lampOffOutcome_work .refl, by simp⟩
  all_goals exact readerFailed_fresh hf

/-! ### The clearance of a bay that is lost -/

theorem ended_unstands {state : ClearState} {reasons : ReasonSet} (hr : reachable s b = false)
    (hs : state.stands = false) : ((endRelease b state reasons s).bay b).clear.state.stands = false := by
  unfold endRelease
  set x := updClear b (ClearRec.ended state reasons) s with hx
  have unreached : reachable x b = false := by rw [hx]; exact reachable_updClear.trans hr
  have unlatched : ∀ open_, relatchAfter open_ b x = x := fun open_ => by
    unfold relatchAfter
    rw [unreached]
    cases open_ <;> rfl
  rw [unlatched]
  have ended : (x.bay b).clear.state.stands = false := by rw [hx]; simpa [ClearRec.ended] using hs
  have work : Work .none x (readerReleaseEnded b (judgePlan b (postClearance b (disownOpen b (withdrawOpen b x))))) :=
    readerReleaseEnded_work ((postClearance_work (disownOpen_work (withdrawOpen_work .refl))).plans (judgePlan_plans .refl))
  exact (work.resting b).clear.2.2 ended

theorem clearanceLost_unstands (hr : reachable s b = false) :
    ((clearanceLost b s).bay b).clear.state.stands = false := by
  unfold clearanceLost
  split
  case h_1 => exact ended_unstands hr rfl
  case h_2 => exact ended_unstands hr rfl
  case h_3 h => rw [(clearanceNews_revoked h).1]; rfl
  case h_4 h =>
    have news : Work .none s (clearanceNews b .nodeLost s) := clearanceNews_work .refl
    exact (news.resting b).clear.2.2 (by rw [h]; rfl)
  case h_5 h => rw [h]; rfl
  case h_6 h => rw [h]; rfl
  case h_7 h => rw [h]; rfl

theorem markQueued_fresh {x : Bay} (hs : FreshVisit b s) : FreshVisit b (markQueued x s) := by
  unfold markQueued onlyIf
  split
  · exact hs.of_visit rfl
  · exact hs

theorem placeTail_fresh {x : Bay} (hs : FreshVisit b s) : FreshVisit b (placeTail x s) := by
  unfold placeTail
  split
  · refine askVisit_fresh (markQueued_fresh ?_)
    split
    · exact hs
    · exact hs.of_visit rfl
  · exact hs

theorem endRelease_fresh {state : ClearState} {reasons : ReasonSet} (hs : FreshVisit b s) :
    FreshVisit b (endRelease b state reasons s) := by
  unfold endRelease
  have ended : (updClear b (ClearRec.ended state reasons) s).readersView = s.readersView := by simp
  generalize updClear b (ClearRec.ended state reasons) s = x at ended ⊢
  have told : (judgePlan b (postClearance b (disownOpen b (withdrawOpen b
      (relatchAfter (mayBeOpen (s.bay b).clear) b x))))).readersView = x.readersView := by simp
  generalize judgePlan b (postClearance b (disownOpen b (withdrawOpen b
    (relatchAfter (mayBeOpen (s.bay b).clear) b x)))) = y at told ⊢
  have fresh : FreshVisit b y := hs.of_view (told.trans ended)
  unfold readerReleaseEnded onlyIf
  split
  · exact placeTail_fresh fresh
  · exact fresh

theorem clearanceLost_fresh (hs : FreshVisit b s) : FreshVisit b (clearanceLost b s) := by
  unfold clearanceLost
  split
  case h_1 => exact endRelease_fresh hs
  case h_2 => exact endRelease_fresh hs
  case h_3 => exact hs.of_view (by simp)
  case h_4 => exact hs.of_view (by simp)
  all_goals exact hs

/-! ### The bay is lost -/

/-- What a node's loss leaves of its bay. -/
structure NodeLost (s t : State) (b : Bay) : Prop where
  table : ∃ d, (t.bay b).table = { (s.bay b).table.lost with discovered := d }
  holds : (t.bay b).clear.holds = (s.bay b).clear.holds
  unstands : (t.bay b).clear.state.stands = false
  pool : t.poolView = s.poolView
  commanded : (t.bay b).power.commanded = 0
  increase : t.supply.increase ≠ some b
  told : announced .nodeLost b t
  line : t.line = none
  time : t.time = s.time
  poll : (t.bay b).loop.poll = .probe (s.time + probePeriod)

theorem NodeLost.occ (h : NodeLost s t b) : (t.bay b).table.occ = .lost := by
  obtain ⟨d, hd⟩ := h.table
  rw [hd]
  rfl

/-- Ordinary work that leaves the pool keeps all of it. -/
theorem NodeLost.work (h : NodeLost s t b) (w : Work .none t u) (hp : u.poolView = t.poolView) : NodeLost s u b := by
  have rests := w.resting b
  obtain ⟨d, hd⟩ := h.table
  exact
    { table := ⟨d, rests.table.trans hd⟩
      holds := rests.clear.1.trans h.holds
      unstands := rests.clear.2.2 h.unstands
      pool := hp.trans h.pool
      commanded := w.commanded_lost h.occ h.commanded
      increase := w.increase_ne h.increase
      told := w.announced h.told
      line := w.line_none h.line
      time := w.outside.time.trans h.time
      poll := rests.poll.trans h.poll }

/-- The allocator's part of a loss: nothing commanded and no increase outstanding (spec 03, R67). -/
theorem allocatorLost_supply : ((allocatorLost b s).bay b).power.commanded = 0 ∧
    (allocatorLost b s).supply.increase ≠ some b := by
  unfold allocatorLost freeIncrease
  refine ⟨by simp, ?_⟩
  simp only [updSupply_supply]
  split
  · simp
  case isFalse h => exact h

/-- The bay as the allocator has been told of its loss, its next probe due in 10 s. -/
def unplugged (b : Bay) (s : State) : State :=
  setPoll b (.probe (s.time + probePeriod)) (bayLost b (clearFailures b s))

theorem bayLost_fresh : FreshVisit b (bayLost b s) := by
  unfold bayLost
  exact clearanceLost_fresh readerLost_fresh

theorem bayLost_pool : (bayLost b s).poolView = s.poolView := by
  unfold bayLost
  set x := allocatorLost b (post .nodeLost b (updTable b TableRec.lost s)) with hx
  have first : x.poolView = s.poolView := by rw [hx]; simp
  generalize x = x at first ⊢
  have cold : (heatLost (decide (storedBeforeLoss (s.bay b).table = .present)) b x).poolView = x.poolView := by simp
  generalize heatLost (decide (storedBeforeLoss (s.bay b).table = .present)) b x = y at cold ⊢
  have last : (clearanceLost b (readerLost b (abortCheck b .aborted y))).poolView =
      (abortCheck b .aborted y).poolView := by simp
  rw [last, abortCheck_pool, cold, first]

theorem bayLost_eq : bayLost b s = clearanceLost b (readerLost b (abortCheck b .aborted
    (heatLost (decide (storedBeforeLoss (s.bay b).table = .present)) b
      (allocatorLost b (post .nodeLost b (updTable b TableRec.lost s)))))) := rfl

theorem bayLost_unstands : ((bayLost b s).bay b).clear.state.stands = false := by
  rw [bayLost_eq]
  refine clearanceLost_unstands ?_
  have work : Work .none (allocatorLost b (post .nodeLost b (updTable b TableRec.lost s)))
      (readerLost b (abortCheck b .aborted
        (heatLost (decide (storedBeforeLoss (s.bay b).table = .present)) b
          (allocatorLost b (post .nodeLost b (updTable b TableRec.lost s)))))) :=
    readerLost_work (abortCheck_work (Work.refl.plans (heatLost_plans .refl)))
  unfold reachable
  rw [(work.resting b).table]
  simp [allocatorLost, freeIncrease, TableRec.lost]

/-- The blocks that are told after the allocator. -/
theorem bayLost_work' : Work .none (allocatorLost b (post .nodeLost b (updTable b TableRec.lost s))) (bayLost b s) := by
  rw [bayLost_eq]
  exact clearanceLost_work (readerLost_work (abortCheck_work (Work.refl.plans (heatLost_plans .refl))))

/-- What the blocks leave of the bay as it is lost. -/
theorem bayLost_lost {z : State} (hz : z = bayLost b s) (hl : s.line = none) :
    (z.bay b).table = (s.bay b).table.lost ∧ (z.bay b).clear.holds = (s.bay b).clear.holds ∧
      (z.bay b).clear.state.stands = false ∧ z.poolView = s.poolView ∧ (z.bay b).power.commanded = 0 ∧
      z.supply.increase ≠ some b ∧ announced .nodeLost b z ∧ z.line = none ∧ z.time = s.time := by
  have work : Work .none (allocatorLost b (post .nodeLost b (updTable b TableRec.lost s))) (bayLost b s) := bayLost_work'
  have rests : Rests (updTable b TableRec.lost s) (bayLost b s) b := bayLost_rests
  have unstands := bayLost_unstands (s := s) (b := b)
  have pool := bayLost_pool (s := s) (b := b)
  rw [← hz] at work rests unstands pool
  obtain ⟨cold, free⟩ := allocatorLost_supply (s := post .nodeLost b (updTable b TableRec.lost s)) (b := b)
  have told : announced .nodeLost b (allocatorLost b (post .nodeLost b (updTable b TableRec.lost s))) :=
    announced_of_ports (s := post .nodeLost b (updTable b TableRec.lost s)) rfl announced_post
  have lost : ((allocatorLost b (post .nodeLost b (updTable b TableRec.lost s))).bay b).table.occ = .lost := by
    simp [allocatorLost, freeIncrease, TableRec.lost]
  have line : (allocatorLost b (post .nodeLost b (updTable b TableRec.lost s))).line = none := hl
  have time : (allocatorLost b (post .nodeLost b (updTable b TableRec.lost s))).time = s.time := rfl
  have table := rests.table
  have follows := rests.clear
  rw [updTable_bay_self] at table
  rw [updTable_clear] at follows
  exact ⟨table, follows.1, unstands, pool, work.commanded_lost lost cold, work.increase_ne free, work.announced told,
    work.line_none line, work.outside.time.trans time⟩

theorem unplugged_lost (hl : s.line = none) : NodeLost s (unplugged b s) b := by
  unfold unplugged
  obtain ⟨table, holds, unstands, pool, commanded, increase, told, line, time⟩ :=
    bayLost_lost (s := clearFailures b s) (b := b) rfl hl
  generalize bayLost b (clearFailures b s) = z at *
  have kept : (clearFailures b s).poolView = s.poolView := by simp [clearFailures]
  have set : (setPoll b (.probe (s.time + probePeriod)) z).poolView = z.poolView := by simp
  exact
    { table := ⟨(s.bay b).table.discovered, by rw [setPoll, updLoop_table, table, clearFailures, updLoop_table]; rfl⟩
      holds := by rw [setPoll, updLoop_clear, holds, clearFailures, updLoop_clear]
      unstands := by rw [setPoll, updLoop_clear]; exact unstands
      pool := set.trans (pool.trans kept)
      commanded := by rw [setPoll, updLoop_power]; exact commanded
      increase := increase
      told := announced_of_ports (s := z) rfl told
      line := line
      time := time
      poll := by rw [setPoll, updLoop_bay_self] }

theorem unplugged_fresh : FreshVisit b (unplugged b s) := by
  unfold unplugged
  have fresh : FreshVisit b (bayLost b (clearFailures b s)) := bayLost_fresh
  generalize bayLost b (clearFailures b s) = x at fresh
  exact fresh.of_visit rfl

/-- A POLL that loses the node. -/
theorem NodeLost.pollFailed (h : NodeLost s t b) : NodeLost s (pollFailed b t) b := by
  have occ := h.occ
  have swept : NodeLost s (sweepFailed b t) b := by
    obtain ⟨d, hd⟩ := h.table
    have pool : (sweepFailed b t).poolView = t.poolView := by simp
    exact
      { table := ⟨true, by simp [sweepFailed, hd]⟩
        holds := by simpa [sweepFailed] using h.holds
        unstands := by simpa [sweepFailed] using h.unstands
        pool := pool.trans h.pool
        commanded := by simpa [sweepFailed] using h.commanded
        increase := h.increase
        told := announced_post
        line := h.line
        time := h.time
        poll := by simpa [sweepFailed] using h.poll }
  have ended : ∀ x, NodeLost s x b → NodeLost s (pollEnded b x) b := by
    intro x hx
    have set : pollEnded b x = setPoll b (.probe (x.time + probePeriod)) x := by
      unfold pollEnded
      rw [hx.occ]
    rw [set]
    have pool : (setPoll b (.probe (x.time + probePeriod)) x).poolView = x.poolView := by simp
    obtain ⟨d, hd⟩ := hx.table
    exact
      { table := ⟨d, by rw [setPoll, updLoop_table]; exact hd⟩
        holds := by rw [setPoll, updLoop_clear]; exact hx.holds
        unstands := by rw [setPoll, updLoop_clear]; exact hx.unstands
        pool := pool.trans hx.pool
        commanded := by rw [setPoll, updLoop_power]; exact hx.commanded
        increase := hx.increase
        told := announced_of_ports rfl hx.told
        line := hx.line
        time := hx.time
        poll := by rw [setPoll, updLoop_bay_self, hx.time] }
  unfold Machine.pollFailed
  rw [occ]
  refine ended _ ?_
  split
  · exact h
  · exact swept

theorem NodeLost.outcome {e : Entry} (h : NodeLost s t b) (hf : FreshVisit b t) :
    NodeLost s (ownerOutcome b e .failed .nothing t) b := by
  by_cases he : e.req = .poll
  · have polled : ownerOutcome b e .failed .nothing t = Machine.pollFailed b t := by
      unfold ownerOutcome
      rw [he]
      rfl
    rw [polled]
    exact h.pollFailed
  · obtain ⟨work, pool⟩ := failedOutcome he hf
    exact h.work work pool

theorem NodeLost.dropPending (h : NodeLost s t b) : NodeLost s (dropPending b t) b ∧
    ((dropPending b t).bay b).loop.entries = [] ∧ ((dropPending b t).bay b).loop.failures = 0 := by
  have unreached : reachable t b = false := by
    unfold reachable
    rw [h.occ]
  have d := dropPending_dropped unreached
  refine ⟨?_, LoopRec.entries_nil_iff.mpr d.lanes, d.failures⟩
  have reset : NodeLost s (updLoop b (fun l => .reset l.poll) t) b :=
    { h with
      table := by simpa using h.table
      holds := by simpa using h.holds
      unstands := by simpa using h.unstands
      pool := by
        have same : (updLoop b (fun l => .reset l.poll) t).poolView = t.poolView := by simp
        exact same.trans h.pool
      commanded := by simpa using h.commanded
      told := announced_of_ports rfl h.told
      poll := by rw [updLoop_bay_self]; exact h.poll }
  have work : Work .none (updLoop b (fun l => .reset l.poll) t) (Machine.dropPending b t) :=
    Work.foldl (fun _ _ => entryNotSent_work) .refl
  have same : (updLoop b (fun l => .reset l.poll) t).poolView = t.poolView := by simp
  exact reset.work work (d.pool.trans same.symm)

end

/-- Settles O43: the loss writes the bay's record once, and what is told of it afterwards moves none of it. -/
theorem thirdFailureLosesTheNode : Obligations.ThirdFailureLosesTheNode := by
  unfold Obligations.ThirdFailureLosesTheNode
  intro b l s hreset hline hbay hattempt hquiet hreach hfailures
  subst hbay
  have losing : losingTransaction s l.bay = some l := by
    unfold losingTransaction
    rw [hline]
    simp [hattempt, hquiet, hreach, hfailures, lossLimit]
  have ran : exec (.nodeLoss l.bay) s = .next (pollsHeld s (nodeLost l.bay l.entry (leaveLine s))) := by
    show carryOut (outOfReset (nodeIsLost l.bay)) s = _
    rw [carryOut_outOfReset hreset, nodeIsLost, losing]
    dsimp only
    rw [countedFailure, if_pos hreach, if_neg (by rw [hfailures]; decide)]
  have lost : NodeLost (leaveLine s) (unplugged l.bay (leaveLine s)) l.bay := unplugged_lost rfl
  obtain ⟨h, hentries, hzero⟩ := (lost.outcome (e := l.entry) unplugged_fresh).dropPending
  have parts : nodeLost l.bay l.entry (leaveLine s) =
      dropPending l.bay (ownerOutcome l.bay l.entry .failed .nothing (unplugged l.bay (leaveLine s))) := rfl
  rw [← parts] at h hentries hzero
  generalize nodeLost l.bay l.entry (leaveLine s) = t at *
  obtain ⟨d, table⟩ := h.table
  have unstands := h.unstands
  refine ⟨_, ran, ?_, ?_, ?_, ?_, ?_, ?_, ?_, ?_, ?_, ?_, ?_, ?_, ?_, ?_, ?_, ?_, ?_, ?_, ?_, ?_, ?_⟩
  · rw [pollsHeld_line, h.line]
  · rw [pollsHeld_time, h.time]; rfl
  · rw [pollsHeld_table, table]; rfl
  · rw [pollsHeld_table, table]; rfl
  · rw [pollsHeld_table, table]; rfl
  · rw [pollsHeld_table, table]; rfl
  · exact pollsHeld_announced h.told
  · rw [pollsHeld_loop]; exact hzero
  · rw [pollsHeld_loop]; exact hentries
  · rw [pollsHeld_loop]; exact heldPoll_probe h.poll
  · rw [pollsHeld_power, h.commanded]
  · rw [pollsHeld_supply]; exact h.increase
  · rw [pollsHeld_clear]
    intro h0
    rw [h0] at unstands
    exact absurd unstands (by decide)
  · unfold inRelease
    rw [pollsHeld_clear]
    cases hstate : (t.bay l.bay).clear.state <;> simp_all [ClearState.stands]
  · rw [pollsHeld_table, table]; rfl
  · rw [pollsHeld_table, table]; rfl
  · rw [departureOf, pollsHeld_table, table]; rfl
  · rw [pollsHeld_table, table]; rfl
  · rw [pollsHeld_table, table]; rfl
  · rw [pollsHeld_faults]
    exact faults_of_view h.pool l.bay
  · rw [pollsHeld_clear, h.holds]; rfl

end Sys2Proof.Machine
end

section
/-! PROOF. The reader gives a bay up after its third failed visit, and suspended bays resume (spec 07, R138, R140, R144,
R145). -/

namespace Sys2Proof.Machine

section
variable {s t u : State} {b : Bay}

/-! ### A reader context that is given up -/

/-- The context wants nothing, with no clear pending and no failed visit counted. -/
def ReaderRec.givenUp (r : ReaderRec) : Prop :=
  r.failedVisits = 0 ∧ r.identityWanted = false ∧ r.passWanted = false ∧ r.clears = []

theorem ReaderRec.givenUp.wantsRead (h : (s.bay b).reader.givenUp) : wantsRead s b = false := by
  obtain ⟨-, hi, hp, -⟩ := h
  unfold Machine.wantsRead
  rw [hi, hp]
  rfl

/-- A context that is given up keeps whole where the readers are kept. -/
theorem ReadersKept.givenUp (h : ReadersKept s t) (hs : (s.bay b).reader.givenUp) :
    (t.bay b).reader = (s.bay b).reader := h.still b hs.wantsRead

theorem startCheck_readers {plan : Nat} : ReadersKept s (startCheck b plan s) := by
  unfold startCheck
  set f : LampRec → LampRec := fun l => { l with
    plan := some plan, result := .inProgress, completion := none, advisory := 0, stale := false } with hf
  have begun : ReadersKept s (clearanceNews b .checkInProgress (updLamp b f s)) := .of_view (by simp)
  generalize clearanceNews b .checkInProgress (updLamp b f s) = x at begun ⊢
  dsimp only
  split
  · exact begun.trans completeEmpty_readers
  · have joined : ReadersKept x (updLamp b (fun l => { l with check := .queued }) (joinLampQueue b x)) :=
      .of_view (by simp)
    exact (begun.trans joined).trans takeSlots_readers

theorem autoCheck_readers : ReadersKept s (autoCheck b s) := by
  unfold autoCheck
  split
  · split
    · exact startCheck_readers
    · exact .refl
  · exact .refl

theorem unidentified_readers : ReadersKept s (unidentified b s) := by
  unfold unidentified
  have present : ReadersKept s (becomePresent b none s) := .of_view (by simp)
  have tested : ReadersKept (autoCheck b (becomePresent b none s)) (testMismatch b (autoCheck b (becomePresent b none s))) :=
    .of_view (by simp)
  exact (present.trans autoCheck_readers).trans tested

/-! ### The clears dropped -/

theorem clearAnswered_readers {source code : Nat} :
    (clearAnswered b source code .dropped s).readersView = s.readersView := by
  unfold clearAnswered
  split
  · split
    · simp
    · rfl
  · rfl

theorem clearDropped_reader {source code : Nat} :
    ((clearTaken b source code .dropped s).bay b).reader =
      { (s.bay b).reader with clears := (s.bay b).reader.clears.filter (· != (source, code)) } := by
  unfold clearTaken
  rw [reader_of_view clearAnswered_readers, updReader_bay_self]

/-- What dropping these clears leaves of the context. -/
theorem dropped_reader (l : List (Nat × Nat)) :
    ((l.foldl (fun s c => clearTaken b c.1 c.2 .dropped s) s).bay b).reader =
      { (s.bay b).reader with clears := (s.bay b).reader.clears.filter fun c => !l.contains c } := by
  induction l generalizing s with
  | nil => simp
  | cons c l ih =>
    rw [List.foldl_cons, ih, clearDropped_reader]
    refine congrArg (fun cs => { (s.bay b).reader with clears := cs }) ?_
    dsimp only
    rw [List.filter_filter]
    refine List.filter_congr fun x _ => ?_
    by_cases h : x = c <;> simp [h]

theorem dropClears_reader : ((dropClears b s).bay b).reader = { (s.bay b).reader with clears := [] } := by
  unfold dropClears
  rw [dropped_reader]
  refine congrArg (fun cs => { (s.bay b).reader with clears := cs }) (List.filter_eq_nil_iff.mpr fun c hc => ?_)
  simpa using hc

/-! ### The bay is given up -/

/-- The identity is taken as unreadable: the context stays given up, and a FAILED one stays FAILED. -/
theorem identityFailed_reader (h : (s.bay b).reader.givenUp) :
    ((identityFailed b s).bay b).reader.givenUp ∧
      ((s.bay b).reader.state = .failed → ((identityFailed b s).bay b).reader.state = .failed) := by
  have taken : ∀ x, (x.bay b).reader.givenUp → ((unidentified b x).bay b).reader = (x.bay b).reader :=
    fun x hx => unidentified_readers.givenUp hx
  unfold identityFailed
  split
  case h_1 =>
    split
    · have left : ((otherCoach false b s).bay b).reader = .reset := by
        unfold otherCoach
        rw [post_bay]
        exact departs_cleaned.reader
      generalize otherCoach false b s = x at left ⊢
      have failed : ((updReader b (fun r => { r with state := .failed }) x).bay b).reader =
          { ReaderRec.reset with state := .failed } := by rw [updReader_bay_self, left]
      have up : ((updReader b (fun r => { r with state := .failed }) x).bay b).reader.givenUp := by
        rw [failed]
        exact ⟨rfl, rfl, rfl, rfl⟩
      rw [taken _ up]
      exact ⟨up, fun _ => by rw [failed]⟩
    · rw [taken _ h]
      exact ⟨h, id⟩
  case h_2 =>
    rw [taken _ h]
    exact ⟨h, id⟩
  all_goals exact ⟨h, id⟩

/-- An ARRIVING bay whose identity could not be read is PRESENT without one (spec 01, R8). -/
theorem identityFailed_present (h : (s.bay b).table.occ = .arriving) :
    ((identityFailed b s).bay b).table.occ = .present ∧ ((identityFailed b s).bay b).table.identity = none ∧
      announced .identified b (identityFailed b s) := by
  have present : ∀ x, ((unidentified b x).bay b).table.occ = .present ∧
      ((unidentified b x).bay b).table.identity = none ∧ announced .identified b (unidentified b x) := by
    intro x
    have told : announced .identified b (becomePresent b none x) := announced_post
    have work : Work .none (becomePresent b none x) (unidentified b x) := testMismatch_work (autoCheck_work .refl)
    rw [unidentified_rests.table]
    exact ⟨by simp [becomePresent], by simp [becomePresent], work.announced told⟩
  unfold identityFailed
  rw [h]
  dsimp only
  split
  · exact present _
  · exact present _

/-- The context as the bay is given up, with the clears still to drop (spec 07, R138). -/
def givingUp (b : Bay) (s : State) : State :=
  updReader b
    (fun r => { r with
      failedVisits := 0, identityWanted := false, passWanted := false
      state := if wantsRead s b then .failed else r.state }) s

theorem visitsExhausted_eq :
    visitsExhausted b s = onlyIf (s.bay b).reader.identityWanted (identityFailed b) (dropClears b (givingUp b s)) := by
  unfold visitsExhausted givingUp
  rfl

/-- Spec 07, R138: what the third failed visit leaves. -/
theorem visitsExhausted_reader :
    ((visitsExhausted b s).bay b).reader.givenUp ∧
      (wantsRead s b = true → ((visitsExhausted b s).bay b).reader.state = .failed) := by
  have dropped : ((dropClears b (givingUp b s)).bay b).reader = { ((givingUp b s).bay b).reader with clears := [] } :=
    dropClears_reader
  rw [givingUp, updReader_bay_self] at dropped
  rw [visitsExhausted_eq]
  rw [← givingUp] at dropped
  generalize dropClears b (givingUp b s) = x at dropped ⊢
  have up : (x.bay b).reader.givenUp := by
    rw [dropped]
    exact ⟨rfl, rfl, rfl, rfl⟩
  have failed : wantsRead s b = true → (x.bay b).reader.state = .failed := fun h => by
    rw [dropped]
    exact if_pos h
  obtain ⟨up', failed'⟩ := identityFailed_reader up
  cases (s.bay b).reader.identityWanted with
  | true => exact ⟨up', fun h => failed' (failed h)⟩
  | false => exact ⟨up, failed⟩

theorem visitsExhausted_present (hi : (s.bay b).reader.identityWanted = true)
    (ho : (s.bay b).table.occ = .arriving) :
    ((visitsExhausted b s).bay b).table.occ = .present ∧ ((visitsExhausted b s).bay b).table.identity = none ∧
      announced .identified b (visitsExhausted b s) := by
  rw [visitsExhausted_eq, hi]
  have same : (dropClears b (givingUp b s)).tablesView = s.tablesView := by simp [givingUp]
  generalize dropClears b (givingUp b s) = x at same ⊢
  exact identityFailed_present (by rw [table_of_view same]; exact ho)

/-! ### The visit ends -/

theorem visitEnds_failed {v : Visit} (hf : v.failed = true) :
    visitEnds v s = askVisit (failedVisitEnds v.bay (giveBack .reader { s with visit := none })) := by
  unfold visitEnds
  dsimp only
  rw [if_pos hf]

/-- The third failed visit of a bay ends. -/
theorem visitEnds_exhausts {v : Visit} (hf : v.failed = true) (hc : (s.bay v.bay).reader.failedVisits = 2) :
    ((visitEnds v s).bay v.bay).reader.givenUp ∧
      (wantsRead s v.bay = true → ((visitEnds v s).bay v.bay).reader.state = .failed) ∧
      ((s.bay v.bay).reader.identityWanted = true → (s.bay v.bay).table.occ = .arriving →
        ((visitEnds v s).bay v.bay).table.occ = .present ∧ ((visitEnds v s).bay v.bay).table.identity = none ∧
          announced .identified v.bay (visitEnds v s)) := by
  rw [visitEnds_failed hf]
  have readers : ReadersKept s (giveBack .reader { s with visit := none }) := by
    have left : ReadersKept s { s with visit := none } := .of_reader fun _ => rfl
    exact left.trans giveBack_readers
  have tables : (giveBack .reader { s with visit := none }).tablesView = s.tablesView := by
    have given : (giveBack .reader { s with visit := none }).tablesView = ({ s with visit := none } : State).tablesView := by
      simp
    exact given
  generalize giveBack .reader { s with visit := none } = x at readers tables ⊢
  obtain ⟨st, marks⟩ := readers.marks v.bay
  have third : failedVisitEnds v.bay x = visitsExhausted v.bay x := by
    unfold failedVisitEnds
    rw [marks, if_neg]
    rw [hc]
    decide
  have wants : wantsRead x v.bay = wantsRead s v.bay := by
    unfold wantsRead
    rw [marks]
  rw [third]
  obtain ⟨up, failed⟩ := visitsExhausted_reader (s := x) (b := v.bay)
  have present := visitsExhausted_present (s := x) (b := v.bay)
  rw [marks, table_of_view tables] at present
  rw [wants] at failed
  generalize visitsExhausted v.bay x = y at up failed present ⊢
  have asked : Work .none y (askVisit y) := askVisit_work .refl
  have kept : ((askVisit y).bay v.bay).reader = (y.bay v.bay).reader := askVisit_readers.givenUp up
  rw [kept, (asked.resting v.bay).table]
  refine ⟨up, failed, fun hi ho => ?_⟩
  obtain ⟨hocc, hidentity, htold⟩ := present hi ho
  exact ⟨hocc, hidentity, asked.announced htold⟩

/-! ### Bays resume -/

theorem forBays_queue {l : List Bay} {f : Bay → State → State} (hf : ∀ y z, (f y z).readerQueue = z.readerQueue) :
    (forBays l f s).readerQueue = s.readerQueue :=
  forBays_keeps (P := fun z => z.readerQueue = s.readerQueue) (fun y z hz => (hf y z).trans hz) l s rfl

theorem forBays_suspended {l : List Bay} {f : Bay → State → State} (hf : ∀ y z, (f y z).suspended = z.suspended) :
    (forBays l f s).suspended = s.suspended :=
  forBays_keeps (P := fun z => z.suspended = s.suspended) (fun y z hz => (hf y z).trans hz) l s rfl

/-- The suspended bays have joined the queue (spec 07, R145). -/
theorem resumed_placed (h : b ∈ s.suspended) : placed (readerResume s) b := by
  unfold readerResume
  refine askVisit_placed (.inl ?_)
  unfold updVisit
  dsimp only
  rw [forBays_queue]
  · refine List.mem_append.mpr ?_
    by_cases hq : s.readerQueue.contains b = true
    · exact .inl (by simpa using hq)
    · exact .inr (List.mem_filter.mpr ⟨h, by simpa using hq⟩)
  · exact fun _ _ => rfl

theorem visitBegins_suspended {x : Bay} {rest : List Bay} : (visitBegins x rest s).suspended = s.suspended := by
  unfold visitBegins
  rw [suspended_of_view askReader_view]
  rfl

theorem requestReader_suspended : (requestPower .reader s).suspended = s.suspended := by
  unfold requestPower
  split
  · unfold grantHolder
    dsimp only
    split
    · rw [visitBegins_suspended]
      rfl
    · rfl
  · exact suspended_of_view (by simp)

theorem askVisit_suspended : (askVisit s).suspended = s.suspended := by
  unfold askVisit
  split
  · exact suspended_of_view (by simp)
  · split
    · rfl
    · exact requestReader_suspended
  · rfl

theorem readerResume_suspended : (readerResume s).suspended = [] := by
  unfold readerResume
  rw [askVisit_suspended]
  unfold updVisit
  dsimp only
  rw [forBays_suspended]
  exact fun _ _ => rfl

end

/-- Settles O52: the SLEEP's reply ends the visit, the third failure gives the context up, and the suspended bays join the
queue before the next visit is asked. -/
theorem readerGivesUpAfterThreeVisitsAndResumesOnRoom : Obligations.ReaderGivesUpAfterThreeVisitsAndResumesOnRoom := by
  unfold Obligations.ReaderGivesUpAfterThreeVisitsAndResumesOnRoom
  intro v l s hreset
  refine ⟨fun hvisit hfailed hphase hcount hline hbay hreq hwanted hquiet htime => ?_, fun hroom => ?_⟩
  · set x := clearFailures l.bay (leaveLine (timeTo (replyEnd l sleepReplyLength) s)) with hx
    have limit : visitsLimitReached s = visitEnds v x := by
      have exhausted : exhaustedVisit s = some v := by
        unfold exhaustedVisit
        rw [hvisit]
        simp [hfailed, hphase, hcount, visitLimit]
      have sleeping : sleepOnLine s v = some l := by
        unfold sleepOnLine
        rw [hline]
        simp [hbay, hreq, hwanted, hquiet, inTime, replyEnd, sleepReplyLength, Config.loopByte, replyTimeout, Config.ms]
        simpa using htime
      unfold visitsLimitReached
      rw [exhausted, Option.bind_some, sleeping]
      show ownerOutcome l.bay l.entry .done (.reader .nothing) x = _
      have visit : x.visit = some v := hvisit
      generalize x = x at visit
      unfold ownerOutcome
      rw [hreq]
      dsimp only
      unfold readerOutcome
      rw [hwanted, visit]
      dsimp only
      rw [if_pos hbay.symm]
      rfl
    have ran : exec .failedVisitsLimit s = .next (pollsHeld s (visitEnds v x)) := by
      show carryOut (outOfReset visitsLimitReached) s = _
      rw [carryOut_outOfReset hreset, limit]
    have reader : (x.bay v.bay).reader = (s.bay v.bay).reader := by rw [hx, clearFailures, updLoop_reader]; rfl
    have table : (x.bay v.bay).table = (s.bay v.bay).table := by rw [hx, clearFailures, updLoop_table]; rfl
    obtain ⟨⟨hzero, hidentity, hpass, hclears⟩, hstate, hpresent⟩ :=
      visitEnds_exhausts (s := x) hfailed (by rw [reader]; exact hcount)
    rw [wantsRead, reader] at hstate
    rw [reader, table] at hpresent
    generalize visitEnds v x = y at *
    refine ⟨_, ran, ?_, ?_, ?_, ?_, fun h => ?_, fun hi ho => ?_⟩
    · rw [pollsHeld_reader, hzero]
    · rw [pollsHeld_reader, hidentity]
    · rw [pollsHeld_reader, hpass]
    · rw [pollsHeld_reader, hclears]
    · rw [pollsHeld_reader]
      exact hstate (by simpa using h)
    · obtain ⟨hocc, hnone, htold⟩ := hpresent hi ho
      rw [pollsHeld_table]
      exact ⟨hocc, hnone, pollsHeld_announced htold⟩
  · have ran : exec .readerResume s = .next (pollsHeld s (readerResume s)) := by
      show carryOut (outOfReset readerResumes) s = _
      rw [carryOut_outOfReset hreset, readerResumes, if_pos hroom]
    have placed := fun b => resumed_placed (s := s) (b := b)
    have suspended := readerResume_suspended (s := s)
    have tables : (readerResume s).tablesView = s.tablesView := by simp
    have pool : (readerResume s).poolView = s.poolView := by simp
    generalize readerResume s = y at *
    refine ⟨_, ran, ?_, fun b hb => ?_, ?_, fun x => ?_⟩
    · rw [pollsHeld_suspended, suspended]
    · have h := placed b hb
      unfold Machine.placed visiting at h
      unfold visiting
      rwa [pollsHeld_readerQueue, pollsHeld_visit]
    · rw [pollsHeld_freeCount]
      exact freeCount_of_view pool
    · rw [pollsHeld_table, pollsHeld_faults, table_of_view tables, faults_of_view pool]
      exact ⟨rfl, rfl⟩

end Sys2Proof.Machine
end

section
/-! PROOF. The bytes heard on the loop, and what the contents of a good POLL reply leave (spec 02, R26, R27, R30). -/

namespace Sys2Proof.Machine

section
variable {s t u : State} {b : Bay} {l : OnLine} {bytes : List Byte}

/-! ### Bytes heard -/

/-- Bytes that are judged in time. -/
theorem heard_inTime (h : awaitsReply l s) (ht : heardAt l bytes s ≤ l.sentEnd + 8000) :
    heard bytes s =
      match parseReply l.bay l.entry.req bytes with
      | some good => goodReply l good { s with time := heardAt l bytes s }
      | none => attemptFails l { s with time := heardAt l bytes s } := by
  obtain ⟨-, hline, hquiet⟩ := h
  have soon : inTime s l bytes.length = true := decide_eq_true ht
  unfold heard
  rw [hline]
  dsimp only
  rw [hquiet]
  dsimp only
  unfold judgeReply
  rw [if_pos soon]
  rfl

/-- Bytes that end too late are no reply. -/
theorem heard_late (h : awaitsReply l s) (ht : l.sentEnd + 8000 < heardAt l bytes s) : heard bytes s = timesOut s := by
  obtain ⟨-, hline, hquiet⟩ := h
  have late : ¬inTime s l bytes.length = true := fun h0 => absurd (of_decide_eq_true h0) (Nat.not_le.mpr ht)
  unfold heard timesOut
  rw [hline]
  dsimp only
  rw [hquiet]
  dsimp only
  unfold judgeReply
  rw [if_neg late]

theorem timesOut_eq (h : awaitsReply l s) :
    timesOut s = attemptFails l { s with time := max s.time (l.sentEnd + 8000) } := by
  obtain ⟨-, hline, hquiet⟩ := h
  unfold timesOut
  rw [hline]
  dsimp only
  rw [hquiet]
  rfl

theorem exec_replyTaken (h : s.inReset = false) : exec (.replyTaken bytes) s = .next (pollsHeld s (heard bytes s)) := by
  show carryOut (outOfReset (heard bytes)) s = _
  rw [carryOut_outOfReset h]

theorem exec_malformedReply (h : s.inReset = false) :
    exec (.malformedReply bytes) s = .next (pollsHeld s (heard bytes s)) := by
  show carryOut (outOfReset (heard bytes)) s = _
  rw [carryOut_outOfReset h]

theorem exec_replyTimeout (h : s.inReset = false) : exec .replyTimeout s = .next (pollsHeld s (timesOut s)) := by
  show carryOut (outOfReset timesOut) s = _
  rw [carryOut_outOfReset h]

theorem goodReply_ok {c : Contents} {x : State} (hx : replyEnded l bytes s = x) :
    goodReply l (.ok c) { s with time := heardAt l bytes s } = ownerOutcome l.bay l.entry .done c x := by
  subst hx
  rfl

/-- A good OK reply is handed to its owner with the line free and the failures 0. -/
theorem exec_okReply {c : Contents} (h : replies l bytes (.ok c) s) :
    exec (.replyTaken bytes) s =
      .next (pollsHeld s (ownerOutcome l.bay l.entry .done c (replyEnded l bytes s))) := by
  obtain ⟨hawaits, htime, hparse⟩ := h
  rw [exec_replyTaken hawaits.1, heard_inTime hawaits htime, hparse]
  exact congrArg (fun x => Host.Outcome.next (pollsHeld s x)) (goodReply_ok rfl)

/-- The good reply of a POLL. -/
theorem exec_pollReply {r : PollReply} (h : replies l bytes (.ok (.poll r)) s) (hreq : l.entry.req = .poll) :
    exec (.replyTaken bytes) s = .next (pollsHeld s (pollDone l.bay r (replyEnded l bytes s))) := by
  rw [exec_okReply h]
  unfold ownerOutcome
  rw [hreq]
  rfl

/-! ### The contents of a POLL -/

/-- A last cabin temperature that no report of the bay has moved. -/
theorem Plans.cabin (h : Plans s t) : (t.bay b).heat.cabin = (s.bay b).heat.cabin := by
  induction h with
  | refl => rfl
  | @heat t x f _ hf ih =>
    rw [updHeat_bay]
    split
    case isTrue hx => subst hx; exact ((hf _).2).trans ih
    · exact ih
  | power _ _ _ ih => simpa using ih
  | told _ _ ih => simpa [noteStage] using ih
  | join _ _ ih => simpa [joinStage, updLane] using ih
  | _ => rename_i ih; exact ih

theorem Plans.closed (h : Plans s t) : (t.bay b).power.closed = (s.bay b).power.closed := by
  induction h with
  | refl => rfl
  | heat _ _ ih => simpa using ih
  | @power t x f _ hf _ ih =>
    rw [updPower_bay]
    split
    case isTrue hx => subst hx; exact ((hf _).1).trans ih
    · exact ih
  | @told t x target _ _ ih =>
    unfold noteStage
    rw [updLamp_power, updPower_bay]
    split
    case isTrue hx => subst hx; exact ih
    · exact ih
  | join _ _ ih => simpa [joinStage, updLane] using ih
  | _ => rename_i ih; exact ih

theorem Work.cabin (h : Work .none s t) : (t.bay b).heat.cabin = (s.bay b).heat.cabin := by
  induction h with
  | refl => rfl
  | plans _ k ih => exact k.cabin.trans ih
  | any _ hb => exact hb.elim
  | written _ hb => exact hb.elim
  | dropped _ hb => exact hb.elim
  | @heat t x f _ _ hr ih =>
    rw [updHeat_bay]
    split
    case isTrue hx => subst hx; exact ((hr.resolve_left False.elim) _).trans ih
    · exact ih
  | power _ _ ih => simpa using ih
  | lamp _ ih => simpa using ih
  | faults _ _ ih => simpa using ih
  | reader _ ih => simpa using ih
  | clear _ _ ih => simpa using ih
  | lane _ _ ih => simpa [updLane] using ih
  | _ => rename_i ih; exact ih

theorem Work.closed (h : Work .none s t) : (t.bay b).power.closed = (s.bay b).power.closed := by
  induction h with
  | refl => rfl
  | plans _ k ih => exact k.closed.trans ih
  | any _ hb => exact hb.elim
  | written _ hb => exact hb.elim
  | dropped _ hb => exact hb.elim
  | heat _ _ _ ih => simpa using ih
  | @power t x f _ hr ih =>
    rw [updPower_bay]
    split
    case isTrue hx => subst hx; exact ((hr.resolve_left False.elim).1 _).trans ih
    · exact ih
  | lamp _ ih => simpa using ih
  | faults _ _ ih => simpa using ih
  | reader _ ih => simpa using ih
  | clear _ _ ih => simpa using ih
  | lane _ _ ih => simpa [updLane] using ih
  | _ => rename_i ih; exact ih

/-- Last of the contents: the bridge state and the Clearance Unit's part. -/
def pollTail (b : Bay) (r : PollReply) (s : State) : State :=
  clearanceLatch b r.latch (clearanceCount b r.closed (bridgeReported b r.bridge s))

theorem pollContents_eq {r : PollReply} :
    pollContents b r s = pollTail b r (closedCount b r.closed (cabinReading b r.cabin s)) := rfl

theorem pollTail_work {r : PollReply} : Work .none s (pollTail b r s) :=
  clearanceLatch_work (clearanceCount_work (bridgeReported_work .refl))

theorem cabinReading_cabin {x : Option Int} : ((cabinReading b x s).bay b).heat.cabin = x := by
  unfold cabinReading
  have acted : Plans (updHeat b (fun h => { h with cabin := x }) s)
      (actOnReading b (updHeat b (fun h => { h with cabin := x }) s)) := actOnReading_plans .refl
  rw [acted.cabin, updHeat_bay_self]

/-- The allocator's part of a closed count, once it is stored. -/
theorem closedCount_work' {n : Nat} :
    Work .none (updPower b (fun p => { p with closed := n, polledSince := true }) s) (closedCount b n s) := by
  have counted : Work .none (updPower b (fun p => { p with closed := n, polledSince := true }) s) (allocatorCount b n s) :=
    reduceExcess_work (watchPoll_work (judgeStuckMark_work .refl))
  exact counted.plans (stoppingToOff_plans .refl)

theorem closedCount_closed {n : Nat} : ((closedCount b n s).bay b).power.closed = n := by
  rw [closedCount_work'.closed, updPower_bay_self]

theorem closedCount_cabin {n : Nat} : ((closedCount b n s).bay b).heat.cabin = (s.bay b).heat.cabin := by
  rw [closedCount_work'.cabin, updPower_heat]

/-- The temperature and the closed count are the reply's (spec 02, R30). -/
theorem pollContents_stored {r : PollReply} :
    ((pollContents b r s).bay b).heat.cabin = r.cabin ∧ ((pollContents b r s).bay b).power.closed = r.closed := by
  rw [pollContents_eq, pollTail_work.cabin, pollTail_work.closed, closedCount_cabin, closedCount_closed,
    cabinReading_cabin]
  exact ⟨rfl, rfl⟩

/-- A bridge state moves the visit and no reader context. -/
theorem enterPhase_reader {x y : Bay} {phase : VisitPhase} {req : LoopReq} :
    ((enterPhase y phase req s).bay x).reader = (s.bay x).reader := by
  unfold enterPhase
  rw [reader_of_view askReader_view]
  rfl

theorem nextClear_reader {x y : Bay} : ((nextClear y s).bay x).reader = (s.bay x).reader := by
  unfold nextClear
  split
  · exact enterPhase_reader
  · split
    · exact enterPhase_reader
    · exact enterPhase_reader

theorem visitFails_reader {x y : Bay} : ((visitFails y s).bay x).reader = (s.bay x).reader := by
  unfold visitFails goSleep
  rw [enterPhase_reader]
  rfl

theorem bridgeReported_reader {x : Bay} {bridge : Bridge} :
    ((bridgeReported b bridge s).bay x).reader = (s.bay x).reader := by
  unfold bridgeReported
  split
  · split
    · cases bridge
      · exact visitFails_reader
      · exact visitFails_reader
      · dsimp only
        unfold afterWake
        split
        · exact enterPhase_reader
        · exact nextClear_reader
      · exact visitFails_reader
    · rfl
  · rfl

theorem pollContents_reader {x : Bay} {r : PollReply} : ((pollContents b r s).bay x).reader = (s.bay x).reader := by
  rw [pollContents_eq]
  have read : (closedCount b r.closed (cabinReading b r.cabin s)).readersView = s.readersView := by simp
  generalize closedCount b r.closed (cabinReading b r.cabin s) = y at read ⊢
  unfold pollTail
  have bridge : ((bridgeReported b r.bridge y).bay x).reader = (y.bay x).reader := bridgeReported_reader
  generalize bridgeReported b r.bridge y = z at bridge ⊢
  have cleared : (clearanceLatch b r.latch (clearanceCount b r.closed z)).readersView = z.readersView := by simp
  rw [reader_of_view cleared, bridge, reader_of_view read]

/-- The contents of a POLL write no bay's record. -/
theorem pollContents_report {r : PollReply} : Work (.report b) s (pollContents b r s) := pollContents_work .refl rfl

/-- The stuck watch finds no entry to make where no coach stands (spec 03, R66). -/
theorem closedCount_pool {n : Nat} (h : occupied s b = false) : (closedCount b n s).poolView = s.poolView := by
  unfold closedCount allocatorCount
  set x := judgeStuckMark b (updPower b (fun p => { p with closed := n, polledSince := true }) s) with hx
  have first : x.poolView = s.poolView := by rw [hx]; simp
  have bare : occupied x b = false := by
    have same : x.tablesView = s.tablesView := by rw [hx]; simp
    unfold occupied at *
    rw [table_of_view same]
    exact h
  have watched : (watchPoll b x).poolView = x.poolView := by
    unfold watchPoll
    split
    · rfl
    · split
      · simp
      · split
        · simp
        · unfold foundStuck
          rw [bare]
          simp
  have last : (stoppingToOff b (reduceExcess b (watchPoll b x))).poolView = (watchPoll b x).poolView := by simp
  rw [last, watched, first]

theorem occupied_congr (h : (t.bay b).table.occ = (s.bay b).table.occ) : occupied t b = occupied s b := by
  unfold occupied
  rw [h]

theorem pollContents_pool {r : PollReply} (h : occupied s b = false) : (pollContents b r s).poolView = s.poolView := by
  rw [pollContents_eq]
  have cabin : (cabinReading b r.cabin s).poolView = s.poolView := by simp
  have tables : (cabinReading b r.cabin s).tablesView = s.tablesView := by simp
  have bare : occupied (cabinReading b r.cabin s) b = false := by
    rw [occupied_congr (congrArg TableRec.occ (table_of_view tables b))]
    exact h
  generalize cabinReading b r.cabin s = x at cabin bare ⊢
  have counted : (closedCount b r.closed x).poolView = x.poolView := closedCount_pool bare
  generalize closedCount b r.closed x = y at counted ⊢
  have tail : (pollTail b r y).poolView = y.poolView := by simp [pollTail]
  rw [tail, counted, cabin]

/-! ### The next poll -/

theorem pollPeriod_pos : 0 < pollPeriod s b := by
  unfold pollPeriod Config.sec
  split
  · decide
  · split <;> decide

/-- A poll that has just ended is held over nothing. -/
theorem heldPoll_now (h : (t.bay b).loop.poll = .classed t.time) : heldPoll s t b = .classed t.time := by
  unfold heldPoll
  rw [h]
  split
  case h_1 lastEnd due hpoll hdue =>
    cases hpoll
    rw [if_neg]
    rintro ⟨hsame, -, -, hle⟩
    unfold pollDueAt at hdue
    rw [hsame] at hdue
    dsimp only at hdue
    split at hdue
    · cases hdue
      exact absurd hle (Nat.not_le.mpr (Nat.lt_add_of_pos_right pollPeriod_pos))
    · exact absurd hdue (by simp)
  case h_2 => contradiction
  case h_3 => rfl

/-- The next poll of a bay that can be reached counts from now (spec 02, R40). -/
theorem pollEnded_reachable (h : reachable s b = true) : pollEnded b s = setPoll b (.classed s.time) s := by
  unfold pollEnded
  unfold reachable at h
  split <;> simp_all

end

end Sys2Proof.Machine
end

section
/-! PROOF. A good POLL of a bay that can be reached: the plug count and its transitions (spec 01, R4, R5), and what its
owners store (spec 02, R30, R36, R40). -/

namespace Sys2Proof.Machine

section
variable {s t u y : State} {b : Bay} {r : PollReply} {plug : Plug} {latch : Latch}

/-! ### After the Bay Table -/

/-- What the rest of a POLL leaves of the state that the Bay Table leaves. -/
structure PollTaken (y t : State) (b : Bay) (r : PollReply) : Prop where
  table : ∀ x, (t.bay x).table = (y.bay x).table
  failures : ∀ x, (t.bay x).loop.failures = (y.bay x).loop.failures
  poll : (t.bay b).loop.poll = .classed t.time
  cabin : (t.bay b).heat.cabin = r.cabin
  closed : (t.bay b).power.closed = r.closed
  reader : ∀ x, (t.bay x).reader = (y.bay x).reader
  told : ∀ e x, announced e x y → announced e x t
  calls : ∀ e, isCall e = true → ∀ p, eventSet t p (bayEventKind e) = eventSet y p (bayEventKind e)
  pool : occupied y b = false → t.poolView = y.poolView
  line : y.line = none → t.line = none
  time : t.time = y.time
  departures : t.departures = y.departures

theorem pollTaken (h : reachable y b = true) : PollTaken y (pollEnded b (pollContents b r y)) b r := by
  have report : Work (.report b) y (pollContents b r y) := pollContents_report
  obtain ⟨cabin, closed⟩ := pollContents_stored (b := b) (r := r) (s := y)
  have reader := fun x => pollContents_reader (b := b) (r := r) (s := y) (x := x)
  have pool := pollContents_pool (b := b) (r := r) (s := y)
  have reach : reachable (pollContents b r y) b = true := by
    rw [← h]
    exact reachable_congr (congrArg TableRec.occ (report.rests fun h => h).table)
  generalize pollContents b r y = z at *
  rw [pollEnded_reachable reach]
  have rests := fun x : Bay => report.rests (b := x) fun h => h
  have set : (setPoll b (.classed z.time) z).poolView = z.poolView := by simp
  exact
    { table := fun x => by rw [setPoll, updLoop_table]; exact (rests x).table
      failures := fun x => by
        rw [← (rests x).failures, setPoll, updLoop_bay]
        split
        case isTrue hx => subst hx; rfl
        · rfl
      poll := by rw [setPoll, updLoop_bay_self]; rfl
      cabin := by rw [setPoll, updLoop_heat]; exact cabin
      closed := by rw [setPoll, updLoop_power]; exact closed
      reader := fun x => by rw [setPoll, updLoop_reader]; exact reader x
      told := fun e x he => announced_of_ports (s := z) rfl (report.announced he)
      calls := fun e he p => (eventSet_congr (s := z) rfl).trans (report.eventSet he fun h => h)
      pool := fun ho => set.trans (pool ho)
      line := fun hl => report.line_none hl
      time := report.outside.time
      departures := report.sameDepartures fun _ h => h }

theorem pollDone_reachable (h : reachable s b = true) :
    pollDone b r s = pollEnded b (pollContents b r (tablePoll b r.plug r.latch s)) := by
  unfold pollDone
  unfold reachable at h
  split <;> simp_all

/-! ### The plug count -/

/-- The bay's record with the reply's plug and latch and a plug count. -/
def TableRec.polled (plug : Plug) (latch : Latch) (n : Nat) (t : TableRec) : TableRec :=
  { t with plug := some plug, latch := some latch, plugCount := n }

/-- The state with that record stored. -/
def polled (b : Bay) (plug : Plug) (latch : Latch) (n : Nat) (s : State) : State :=
  updTable b (TableRec.polled plug latch n) s

theorem polled_bay {n : Nat} :
    (polled b plug latch n s).bay b = { s.bay b with table := (s.bay b).table.polled plug latch n } :=
  updTable_bay_self b _ s

theorem updTable_updTable {f g : TableRec → TableRec} :
    updTable b g (updTable b f s) = updTable b (fun t => g (f t)) s := by
  unfold updTable updBay
  simp only [State.bay]
  congr 1
  ext1 i hi
  simp [Vector.getElem_set]

theorem storePolled_mark : plugMark (storePolled b plug latch s) b = plugMark s b := by
  unfold plugMark storePolled
  simp

/-- A plug reading that agrees (spec 01, R5). -/
theorem tablePoll_agrees (h : contrary (s.bay b).table.occ plug = false) :
    tablePoll b plug latch s = polled b plug latch 0 s := by
  unfold tablePoll countPlug
  have occ : ((storePolled b plug latch s).bay b).table.occ = (s.bay b).table.occ := by simp [storePolled]
  rw [occ, h, if_neg Bool.false_ne_true, storePolled, updTable_updTable]
  rfl

/-- A contrary plug reading below the mark (spec 01, R5). -/
theorem tablePoll_counts (h : contrary (s.bay b).table.occ plug = true)
    (hm : (s.bay b).table.plugCount + 1 < plugMark s b) :
    tablePoll b plug latch s = polled b plug latch ((s.bay b).table.plugCount + 1) s := by
  unfold tablePoll countPlug
  have occ : ((storePolled b plug latch s).bay b).table.occ = (s.bay b).table.occ := by simp [storePolled]
  have count : ((storePolled b plug latch s).bay b).table.plugCount = (s.bay b).table.plugCount := by simp [storePolled]
  rw [occ, h, if_pos rfl, storePolled_mark, count, if_neg (Nat.not_le.mpr hm), storePolled, updTable_updTable]
  unfold polled updTable updBay
  rfl

/-- A contrary plug reading at the mark (spec 01, R5). -/
theorem tablePoll_moves (h : contrary (s.bay b).table.occ plug = true)
    (hm : plugMark s b ≤ (s.bay b).table.plugCount + 1) :
    tablePoll b plug latch s = plugTransition b (polled b plug latch 0 s) := by
  unfold tablePoll countPlug
  have occ : ((storePolled b plug latch s).bay b).table.occ = (s.bay b).table.occ := by simp [storePolled]
  have count : ((storePolled b plug latch s).bay b).table.plugCount = (s.bay b).table.plugCount := by simp [storePolled]
  rw [occ, h, if_pos rfl, storePolled_mark, count, if_pos hm, storePolled, updTable_updTable]
  rfl

/-! ### The transitions -/

/-- A bay's record as a coach arrives (spec 01, R6). -/
def TableRec.arrived (t : TableRec) : TableRec :=
  { t with
    occ := .arriving, beforeLoss := none, recovery := false, plugCount := 0, identity := none
    lampPlan := t.planOverride }

/-- What ARRIVAL leaves (spec 01, R6). -/
structure Arrived (s t : State) (b : Bay) : Prop where
  table : (t.bay b).table = (s.bay b).table.arrived
  failures : (t.bay b).loop.failures = (s.bay b).loop.failures
  told : announced .arrival b t
  identity : (t.bay b).reader.identityWanted = true
  pass : (t.bay b).reader.passWanted = true

theorem becomeArriving_arrived : Arrived s (becomeArriving b s) b := by
  have work : Work .none (arrived b s) (becomeArriving b s) := needsReading_work .refl
  have rests := work.resting b
  have told : announced .arrival b (arrived b s) := announced_post
  obtain ⟨st, reader⟩ := needsReading_reader (b := b) (s := arrived b s)
  have self : (arrived b s).bay b = _ := arrived_bay.trans (if_pos rfl)
  exact
    { table := rests.table.trans (by rw [self]; rfl)
      failures := rests.failures.trans (by rw [self])
      told := work.announced told
      identity := (congrArg ReaderRec.identityWanted reader).trans rfl
      pass := (congrArg ReaderRec.passWanted reader).trans rfl }

/-- A bay's record as its coach departs (spec 01, R10 to R12). -/
def TableRec.departed (kind : DepartureKind) (keep : Bool) (t : TableRec) : TableRec :=
  { t with
    occ := .vacant, beforeLoss := none, recovery := false, plugCount := 0, lastDeparture := some kind
    identity := none, lampPlan := none, departure := if keep then t.departure else none }

theorem departed_taken {kind : DepartureKind} {k : Bool} {x : State} (hx : x = becomeVacant b (departs kind k false b s)) :
    (x.bay b).table = (s.bay b).table.departed kind k ∧ (x.bay b).loop.failures = (s.bay b).loop.failures ∧
      announced .departed b x ∧ Cleaned s x b := by
  have v := departs_vacated (kind := kind) (k := k) (c := false) (b := b) (s := s)
  have cleaned := departs_cleaned (kind := kind) (k := k) (b := b) (s := s)
  have told := departs_announced (kind := kind) (k := k) (b := b) (s := s)
  subst hx
  generalize departs kind k false b s = y at v cleaned told ⊢
  refine ⟨?_, ?_, announced_of_ports (s := y) rfl told, cleaned.vacant⟩
  · rw [becomeVacant, updTable_bay_self, v.table]
    simp [TableRec.departed]
  · rw [becomeVacant, updTable_loop, v.failures, updTable_loop]

/-- What a transition at the mark leaves (spec 01, R5). -/
theorem plugTransition_kept (h : reachable s b = true) :
    reachable (plugTransition b s) b = true ∧ ((plugTransition b s).bay b).table.plug = (s.bay b).table.plug ∧
      ((plugTransition b s).bay b).table.latch = (s.bay b).table.latch ∧
      ((plugTransition b s).bay b).loop.failures = (s.bay b).loop.failures := by
  have arrives : reachable (becomeArriving b s) b = true ∧
      ((becomeArriving b s).bay b).table.plug = (s.bay b).table.plug ∧
      ((becomeArriving b s).bay b).table.latch = (s.bay b).table.latch ∧
      ((becomeArriving b s).bay b).loop.failures = (s.bay b).loop.failures := by
    have a := becomeArriving_arrived (s := s) (b := b)
    unfold reachable
    rw [a.table]
    exact ⟨rfl, rfl, rfl, a.failures⟩
  have leaves : ∀ kind k x, x = becomeVacant b (departs kind k false b s) → reachable x b = true ∧
      (x.bay b).table.plug = (s.bay b).table.plug ∧ (x.bay b).table.latch = (s.bay b).table.latch ∧
      (x.bay b).loop.failures = (s.bay b).loop.failures := by
    intro kind k x hx
    obtain ⟨table, failures, -, -⟩ := departed_taken hx
    unfold reachable
    rw [table]
    exact ⟨rfl, rfl, rfl, failures⟩
  unfold plugTransition
  unfold reachable at h
  split
  case h_1 => exact arrives
  case h_2 => exact leaves .unreleased true _ rfl
  case h_3 =>
    split
    · exact leaves .clean false _ rfl
    · exact leaves .unreleased true _ rfl
  case h_4 ho => rw [ho] at h; exact absurd h (by simp)
  case h_5 ho => rw [ho] at h; exact absurd h (by simp)

theorem polled_reachable {n : Nat} (h : reachable s b = true) : reachable (polled b plug latch n s) b = true := by
  rw [← h]
  exact reachable_congr (by rw [polled_bay]; rfl)

/-- The plug and the latch are the reply's, the bay can still be reached, and no failure is counted. -/
theorem tablePoll_kept (h : reachable s b = true) :
    reachable (tablePoll b plug latch s) b = true ∧ ((tablePoll b plug latch s).bay b).table.plug = some plug ∧
      ((tablePoll b plug latch s).bay b).table.latch = some latch ∧
      ((tablePoll b plug latch s).bay b).loop.failures = (s.bay b).loop.failures := by
  have stored : ∀ n, reachable (polled b plug latch n s) b = true ∧
      ((polled b plug latch n s).bay b).table.plug = some plug ∧
      ((polled b plug latch n s).bay b).table.latch = some latch ∧
      ((polled b plug latch n s).bay b).loop.failures = (s.bay b).loop.failures := fun n => by
    rw [polled_bay]
    exact ⟨polled_reachable h, rfl, rfl, rfl⟩
  cases hc : contrary (s.bay b).table.occ plug with
  | false =>
    rw [tablePoll_agrees hc]
    exact stored 0
  | true =>
    by_cases hm : (s.bay b).table.plugCount + 1 < plugMark s b
    · rw [tablePoll_counts hc hm]
      exact stored _
    · rw [tablePoll_moves hc (Nat.not_lt.mp hm)]
      obtain ⟨reach, plug', latch', failures⟩ := stored 0
      obtain ⟨reach', same, same', failures'⟩ := plugTransition_kept (s := polled b plug latch 0 s) (b := b) reach
      exact ⟨reach', same.trans plug', same'.trans latch', failures'.trans failures⟩

theorem tablePoll_line (hl : s.line = none) : (tablePoll b plug latch s).line = none ∧
    (tablePoll b plug latch s).time = s.time := by
  have work : Work (.table b fun _ => True) s (tablePoll b plug latch s) := tablePoll_work .refl rfl trivial trivial
  exact ⟨work.line_none hl, work.outside.time⟩

/-- The reply has ended its transaction. -/
theorem replyEnded_bay {l : OnLine} {bytes : List Byte} :
    (replyEnded l bytes s).bay l.bay =
      { s.bay l.bay with loop := { (s.bay l.bay).loop with failures := 0 } } := by
  unfold replyEnded
  rw [updLoop_bay_self]
  rfl

theorem replyEnded_reachable {l : OnLine} {bytes : List Byte} :
    reachable (replyEnded l bytes s) l.bay = reachable s l.bay :=
  reachable_congr (by rw [replyEnded_bay])

end

/-- Settles O40: the Bay Table stores plug and latch and may move the bay, the Planner and the allocator store theirs, and
the poll that follows counts from the reply's end. -/
theorem goodPollIsStoredByItsOwners : Obligations.GoodPollIsStoredByItsOwners := by
  unfold Obligations.GoodPollIsStoredByItsOwners
  intro l bytes r s hreset hline hquiet hreq hreach hparse htime
  have reply : replies l bytes (.ok (.poll r)) s := ⟨⟨hreset, hline, hquiet⟩, htime, by rw [hreq]; exact hparse⟩
  have ran := exec_pollReply reply hreq
  have reach : reachable (replyEnded l bytes s) l.bay = true := replyEnded_reachable.trans hreach
  rw [pollDone_reachable reach] at ran
  obtain ⟨reach', plug, latch, failures⟩ := tablePoll_kept (plug := r.plug) (latch := r.latch) reach
  obtain ⟨free, timed⟩ := tablePoll_line (s := replyEnded l bytes s) (b := l.bay) (plug := r.plug) (latch := r.latch) rfl
  rw [replyEnded_bay] at failures
  have time : (replyEnded l bytes s).time = heardAt l bytes s := rfl
  generalize tablePoll l.bay r.plug r.latch (replyEnded l bytes s) = y at *
  have taken : PollTaken y _ l.bay r := pollTaken reach'
  generalize pollEnded l.bay (pollContents l.bay r y) = t at *
  refine ⟨_, ran, ?_, ?_, ?_, ?_, ?_, ?_, ?_, ?_⟩
  · rw [pollsHeld_line, taken.line free]
  · rw [pollsHeld_time, taken.time, timed, time]
    rfl
  · rw [pollsHeld_table, taken.table, plug]
  · rw [pollsHeld_table, taken.table, latch]
  · rw [pollsHeld_heat, taken.cabin]
  · rw [pollsHeld_power, taken.closed]
  · rw [pollsHeld_loop]
    exact (taken.failures l.bay).trans failures
  · rw [pollsHeld_loop, pollsHeld_time]
    exact heldPoll_now taken.poll

end Sys2Proof.Machine
end

section
/-! PROOF. A failed attempt: the retry after 2 ms, and the failure that is counted (spec 02, R26, R27, R36). -/

namespace Sys2Proof.Machine

section
variable {s t u : State} {b : Bay} {l : OnLine} {bytes : List Byte}

/-! ### The owner of a FAILED transaction -/

theorem pollFailed_work : Work (.table b fun _ => True) s (pollFailed b s) := by
  have ended : ∀ x, Work (.table b fun _ => True) s x → Work (.table b fun _ => True) s (pollEnded b x) :=
    fun x h => pollEnded_work h rfl
  unfold pollFailed
  split
  case h_1 =>
    refine ended _ ?_
    split
    · exact .refl
    · exact sweepFailed_work .refl rfl trivial
  all_goals exact ended _ .refl

/-- A FAILED transaction of a bay writes at most that bay's record. -/
theorem failedOutcome_work {e : Entry} : Work (.table b fun _ => True) s (ownerOutcome b e .failed .nothing s) := by
  unfold ownerOutcome
  split
  case h_1 => exact pollFailed_work
  case h_2 => exact stageOutcome_work .refl (.inl rfl)
  case h_3 => exact latchOutcome_work .refl
  case h_4 => exact sampleOutcome_work .refl
  case h_5 => exact lampOffOutcome_work .refl
  all_goals exact readerOutcome_work .refl rfl trivial trivial

/-- A poll's end counts no failure. -/
theorem pollEnded_failures : ((pollEnded b s).bay b).loop.failures = (s.bay b).loop.failures := by
  unfold pollEnded setPoll
  split <;> rw [updLoop_bay_self]

theorem pollFailed_failures : ((pollFailed b s).bay b).loop.failures = (s.bay b).loop.failures := by
  unfold pollFailed
  split
  case h_1 =>
    rw [pollEnded_failures]
    split
    · rfl
    · simp [sweepFailed]
  all_goals exact pollEnded_failures

theorem unidentified_failures : ((unidentified b s).bay b).loop.failures = (s.bay b).loop.failures := by
  rw [unidentified_rests.failures]
  simp [becomePresent]

theorem identityFailed_failures : ((identityFailed b s).bay b).loop.failures = (s.bay b).loop.failures := by
  unfold identityFailed
  split
  case h_1 =>
    split
    · rw [unidentified_failures, updReader_loop, otherCoach_failures]
    · exact unidentified_failures
  case h_2 => exact unidentified_failures
  all_goals rfl

theorem visitsExhausted_failures : ((visitsExhausted b s).bay b).loop.failures = (s.bay b).loop.failures := by
  rw [visitsExhausted_eq]
  have dropped : Work .none (givingUp b s) (dropClears b (givingUp b s)) := dropClears_work .refl
  have kept : ((dropClears b (givingUp b s)).bay b).loop.failures = (s.bay b).loop.failures := by
    rw [(dropped.resting b).failures]
    simp [givingUp]
  generalize dropClears b (givingUp b s) = x at kept ⊢
  cases (s.bay b).reader.identityWanted with
  | true => exact identityFailed_failures.trans kept
  | false => exact kept

theorem visitEnds_failures {v : Visit} :
    ((visitEnds v s).bay v.bay).loop.failures = (s.bay v.bay).loop.failures := by
  cases hf : v.failed with
  | false => exact ((visitEnds_fresh_work hf).resting v.bay).failures
  | true =>
    rw [visitEnds_failed hf]
    have left : Work .none s (giveBack .reader { s with visit := none }) := visitLeft_work .refl
    have kept := (left.resting v.bay).failures
    generalize giveBack .reader { s with visit := none } = x at kept ⊢
    have asked : ∀ y, ((askVisit y).bay v.bay).loop.failures = (y.bay v.bay).loop.failures := fun y =>
      ((askVisit_work (w := .none) .refl).resting v.bay).failures
    rw [asked]
    unfold failedVisitEnds
    split
    · have placed : Work .none x
          (placeIfWanted v.bay (updReader v.bay (fun r => { r with failedVisits := r.failedVisits + 1 }) x)) :=
        placeIfWanted_work (Work.refl.reader)
      exact (placed.resting v.bay).failures.trans kept
    · exact visitsExhausted_failures.trans kept

theorem readerFailed_failures {req : LoopReq} {wanted : Bool} {reply : ReaderReply} :
    ((readerOutcome b req wanted .failed reply s).bay b).loop.failures = (s.bay b).loop.failures := by
  have late : lateOutcome b req .failed reply s = s := by
    unfold lateOutcome
    split
    · contradiction
    · rfl
  unfold readerOutcome
  split
  case h_1 v _ =>
    split
    case isTrue hb =>
      subst hb
      show ((readerNotDone v.bay req v s).bay v.bay).loop.failures = _
      unfold readerNotDone
      split
      · exact visitEnds_failures
      · exact ((visitFails_work (w := .none) .refl).resting v.bay).failures
    case isFalse => rw [late]
  case h_2 => rw [late]

/-- A FAILED transaction counts no failure by itself: the loop does (spec 02, R36). -/
theorem failedOutcome_failures {e : Entry} {x : Bay} :
    ((ownerOutcome b e .failed .nothing s).bay x).loop.failures = (s.bay x).loop.failures := by
  by_cases hx : x = b
  · subst hx
    unfold ownerOutcome
    split
    case h_1 => exact pollFailed_failures
    case h_2 => exact ((stageOutcome_work (w := .none) .refl (.inr (.inr (by decide)))).resting x).failures
    case h_3 => exact ((latchOutcome_work (w := .none) .refl).resting x).failures
    case h_4 => exact ((sampleOutcome_work (w := .none) .refl).resting x).failures
    case h_5 => exact ((lampOffOutcome_work (w := .none) .refl).resting x).failures
    all_goals exact readerFailed_failures
  · exact (failedOutcome_work.rests hx).failures

/-! ### The attempt -/

/-- The first attempt is followed by 2 ms of quiet. -/
theorem attemptFails_first (ha : l.attempt = 1) :
    attemptFails l s = { s with line := some { l with quietUntil := some (s.time + 2000) } } := by
  unfold attemptFails
  rw [if_pos ha]
  rfl

/-- The failure of a second attempt is counted at a bay that can be reached and is not lost by it. -/
theorem attemptFails_counted (ha : l.attempt = 2) (hr : reachable s l.bay = true)
    (hf : (s.bay l.bay).loop.failures < 2) :
    attemptFails l s =
      ownerOutcome l.bay l.entry .failed .nothing
        (updLoop l.bay (fun r => { r with failures := r.failures + 1 }) (leaveLine s)) := by
  unfold attemptFails countedFailure
  rw [if_neg (by omega)]
  dsimp only
  rw [if_pos hr, if_pos (by unfold lossLimit; omega)]

/-- The failure of a second attempt is not counted at a bay that cannot be reached. -/
theorem attemptFails_unreached (ha : l.attempt = 2) (hr : reachable s l.bay = false) :
    attemptFails l s = ownerOutcome l.bay l.entry .failed .nothing (leaveLine s) := by
  unfold attemptFails countedFailure
  rw [if_neg (by omega)]
  dsimp only
  rw [if_neg (by rw [hr]; simp)]

/-- What a second failed attempt leaves: the line free, the time as it was, and the failures counted as this. -/
structure Counted (s t : State) (l : OnLine) (n : Nat) : Prop where
  line : t.line = none
  time : t.time = s.time
  own : (t.bay l.bay).loop.failures = n
  other : ∀ b, b ≠ l.bay → (t.bay b).loop.failures = (s.bay b).loop.failures

theorem counted_reached (ha : l.attempt = 2) (hr : reachable s l.bay = true)
    (hf : (s.bay l.bay).loop.failures < 2) :
    Counted s (attemptFails l s) l ((s.bay l.bay).loop.failures + 1) := by
  rw [attemptFails_counted ha hr hf]
  set x := updLoop l.bay (fun r => { r with failures := r.failures + 1 }) (leaveLine s) with hx
  have work : Work (.table l.bay fun _ => True) x (ownerOutcome l.bay l.entry .failed .nothing x) := failedOutcome_work
  exact
    { line := work.line_none rfl
      time := work.outside.time
      own := by rw [failedOutcome_failures, hx, updLoop_bay_self]; rfl
      other := fun b hb => by rw [failedOutcome_failures, hx, updLoop_bay_ne hb]; rfl }

theorem counted_unreached (ha : l.attempt = 2) (hr : reachable s l.bay = false) :
    Counted s (attemptFails l s) l (s.bay l.bay).loop.failures := by
  rw [attemptFails_unreached ha hr]
  have work : Work (.table l.bay fun _ => True) (leaveLine s) (ownerOutcome l.bay l.entry .failed .nothing (leaveLine s)) :=
    failedOutcome_work
  exact
    { line := work.line_none rfl
      time := work.outside.time
      own := failedOutcome_failures
      other := fun b _ => failedOutcome_failures }

theorem Counted.polled {n : Nat} {x : State} (h : Counted s t l n) : Counted s (pollsHeld x t) l n :=
  { line := by rw [pollsHeld_line, h.line]
    time := by rw [pollsHeld_time, h.time]
    own := by rw [pollsHeld_loop]; exact h.own
    other := fun b hb => by rw [pollsHeld_loop]; exact h.other b hb }

/-- The sweep poll of a bay that failed (spec 01, R3; spec 02, R37, R39). -/
theorem sweepFailed_taken (ha : l.attempt = 2) (hreq : l.entry.req = .poll) (hr : reachable s l.bay = false)
    (ho : (s.bay l.bay).table.occ = .lost) (hd : (s.bay l.bay).table.discovered = false) :
    ((attemptFails l s).bay l.bay).table = { (s.bay l.bay).table with discovered := true } ∧
      announced .nodeLost l.bay (attemptFails l s) ∧
      ((attemptFails l s).bay l.bay).loop.poll = .probe (s.time + 10000000) := by
  rw [attemptFails_unreached ha hr]
  have failed : ownerOutcome l.bay l.entry .failed .nothing (leaveLine s) = pollFailed l.bay (leaveLine s) := by
    unfold ownerOutcome
    rw [hreq]
    rfl
  have lost : pollFailed l.bay (leaveLine s) =
      setPoll l.bay (.probe ((sweepFailed l.bay (leaveLine s)).time + probePeriod)) (sweepFailed l.bay (leaveLine s)) := by
    unfold pollFailed
    have occ : ((leaveLine s).bay l.bay).table.occ = .lost := ho
    have found : ((leaveLine s).bay l.bay).table.discovered = false := hd
    rw [occ]
    dsimp only
    rw [found, if_neg Bool.false_ne_true]
    unfold pollEnded
    have still : ((sweepFailed l.bay (leaveLine s)).bay l.bay).table.occ = .lost := by
      simp only [sweepFailed, post_bay, updTable_bay_self]
      exact ho
    rw [still]
  rw [failed, lost]
  refine ⟨?_, ?_, ?_⟩
  · rw [setPoll, updLoop_table, sweepFailed, post_bay, updTable_bay_self]
    rfl
  · exact announced_of_ports (s := sweepFailed l.bay (leaveLine s)) rfl announced_post
  · rw [setPoll, updLoop_bay_self]
    rfl

/-! ### The rows of failed attempts -/

/-- Neither the time nor the line moves a poll class. -/
theorem pollsHeld_line_time {m : Moment} {line : Option OnLine} :
    pollsHeld s { s with time := m, line := line } = { s with time := m, line := line } :=
  pollsHeld_of_period fun _ => rfl

theorem firstTimeout (h : awaitsReply l s) (ha : l.attempt = 1) :
    exec .replyTimeout s =
      .next { s with
        time := max s.time (l.sentEnd + 8000)
        line := some { l with quietUntil := some (max s.time (l.sentEnd + 8000) + 2000) } } := by
  rw [exec_replyTimeout h.1, timesOut_eq h, attemptFails_first ha]
  exact congrArg _ pollsHeld_line_time

theorem malformed_eq (h : awaitsReply l s) (hp : parseReply l.bay l.entry.req bytes = none)
    (ht : heardAt l bytes s ≤ l.sentEnd + 8000) :
    exec (.malformedReply bytes) s = .next (pollsHeld s (attemptFails l { s with time := heardAt l bytes s })) := by
  rw [exec_malformedReply h.1, heard_inTime h ht, hp]

theorem firstMalformed (h : awaitsReply l s) (ha : l.attempt = 1)
    (hp : parseReply l.bay l.entry.req bytes = none) (ht : heardAt l bytes s ≤ l.sentEnd + 8000) :
    exec (.malformedReply bytes) s =
      .next { s with
        time := heardAt l bytes s
        line := some { l with quietUntil := some (heardAt l bytes s + 2000) } } := by
  rw [malformed_eq h hp ht, attemptFails_first ha]
  exact congrArg _ pollsHeld_line_time

theorem retryQuiet_ends {m : Nat} (hreset : s.inReset = false) (hline : s.line = some l)
    (hquiet : l.quietUntil = some m) :
    exec .retryQuietEnd s =
      .next { s with
        time := max s.time m
        line := some
          { l with
            attempt := 2
            quietUntil := none
            sentEnd := max s.time m + (requestFrame l.bay l.entry.req).length * 40 } } := by
  have ended : quietEnds s = sendAgain l (timeTo m s) := by
    unfold quietEnds
    rw [hline]
    dsimp only
    rw [hquiet]
  show carryOut (outOfReset quietEnds) s = _
  rw [carryOut_outOfReset hreset, ended]
  exact congrArg _ pollsHeld_line_time

end

end Sys2Proof.Machine
end

section
/-! PROOF. The good POLL of a LOST bay, by sweep and by probe (spec 01, R3, R15, R16), and a plug reading contrary to the
occupancy (spec 01, R5). -/

namespace Sys2Proof.Machine

section
variable {s t u y : State} {b : Bay} {r : PollReply} {plug : Plug} {latch : Latch}

theorem storeCount_bay {n : Nat} :
    (storeCount b n s).bay b = { s.bay b with power := { (s.bay b).power with closed := n } } :=
  updPower_bay_self b _ s

theorem pollDone_lost (ho : (s.bay b).table.occ = .lost) :
    pollDone b r s =
      pollEnded b (pollContents b r
        (if (s.bay b).table.discovered then probeAnswered b r.plug r.latch (storeCount b r.closed s)
          else sweepAnswered b r.plug r.latch (storeCount b r.closed s))) := by
  unfold pollDone
  rw [ho]
  dsimp only
  split
  · rfl
  · rfl

/-! ### The sweep (spec 01, R3) -/

/-- The bay's record as it is found. -/
def TableRec.found (plug : Plug) (latch : Latch) (t : TableRec) : TableRec :=
  { t with discovered := true, plug := some plug, latch := some latch }

theorem sweepAnswered_out :
    ((sweepAnswered b .out latch s).bay b).table =
      { (s.bay b).table.found .out latch with occ := .vacant, beforeLoss := none, plugCount := 0 } := by
  simp [sweepAnswered, becomeVacant, storePolled, TableRec.found]

theorem sweepAnswered_in :
    ((sweepAnswered b .in_ latch s).bay b).table = ((s.bay b).table.found .in_ latch).arrived ∧
      announced .arrival b (sweepAnswered b .in_ latch s) ∧
      ((sweepAnswered b .in_ latch s).bay b).reader.identityWanted = true ∧
      ((sweepAnswered b .in_ latch s).bay b).reader.passWanted = true := by
  unfold sweepAnswered
  dsimp only
  have found : ((storePolled b .in_ latch (updTable b (fun t => { t with discovered := true }) s)).bay b).table =
      (s.bay b).table.found .in_ latch := by simp [storePolled, TableRec.found]
  generalize storePolled b .in_ latch (updTable b (fun t => { t with discovered := true }) s) = x at found ⊢
  have a : Arrived x (becomeArriving b x) b := becomeArriving_arrived
  exact ⟨by rw [a.table, found], a.told, a.identity, a.pass⟩

theorem sweepAnswered_reachable : reachable (sweepAnswered b plug latch s) b = true := by
  unfold reachable
  cases plug with
  | out => rw [sweepAnswered_out]
  | in_ => rw [sweepAnswered_in.1]; rfl

theorem sweepAnswered_calls {p : Port} :
    eventSet (sweepAnswered b plug latch s) p (bayEventKind .nodeBack) = eventSet s p (bayEventKind .nodeBack) := by
  have work : Work (.table b (· = .arrival)) s (sweepAnswered b plug latch s) := sweepAnswered_work .refl rfl rfl
  exact work.eventSet rfl fun h => BayEvent.noConfusion h

/-! ### The probes (spec 01, R15, R16) -/

/-- The state in which NODE_BACK has been posted. -/
def nodeBack (b : Bay) (plug : Plug) (latch : Latch) (s : State) : State :=
  post .nodeBack b (storePolled b plug latch s)

/-- The bay's record with the plug and the latch of the probe. -/
def TableRec.probed (plug : Plug) (latch : Latch) (t : TableRec) : TableRec :=
  { t with plug := some plug, latch := some latch }

theorem nodeBack_table : ((nodeBack b plug latch s).bay b).table = (s.bay b).table.probed plug latch := by
  simp [nodeBack, storePolled, TableRec.probed]

theorem nodeBack_announced : announced .nodeBack b (nodeBack b plug latch s) := announced_post

theorem probeAnswered_out : probeAnswered b .out latch s = probeOut b (nodeBack b .out latch s) := rfl

theorem probeAnswered_in : probeAnswered b .in_ latch s = probeIn b (nodeBack b .in_ latch s) := rfl

/-- The coach that was there is gone, or none was. -/
theorem probeOut_vacant (hp : (s.bay b).table.beforeLoss ≠ some .arriving)
    (hq : (s.bay b).table.beforeLoss ≠ some .present) : probeOut b s = becomeVacant b s := by
  unfold probeOut
  rw [if_neg (by simp [hp, hq])]

theorem probeOut_departs (h : (s.bay b).table.beforeLoss = some .arriving ∨ (s.bay b).table.beforeLoss = some .present) :
    probeOut b s = becomeVacant b (departs .unobserved true false b s) := by
  unfold probeOut
  rw [if_pos h]

/-- The bay's record as a coach is found again. -/
def TableRec.foundAgain (t : TableRec) : TableRec :=
  { t with
    occ := .arriving, beforeLoss := none, recovery := decide (t.beforeLoss = some .present), plugCount := 0 }

theorem probeIn_again (h : (s.bay b).table.beforeLoss = some .arriving ∨ (s.bay b).table.beforeLoss = some .present) :
    probeIn b s = needsReading b (updTable b (fun t =>
      { t with occ := .arriving, beforeLoss := none, recovery := decide ((s.bay b).table.beforeLoss = some .present), plugCount := 0 }) s) := by
  unfold probeIn
  obtain h | h := h <;> rw [h] <;> rfl

theorem probeIn_arrives (hp : (s.bay b).table.beforeLoss ≠ some .arriving)
    (hq : (s.bay b).table.beforeLoss ≠ some .present) : probeIn b s = becomeArriving b s := by
  unfold probeIn
  split
  case h_1 h => exact absurd h hq
  case h_2 h => exact absurd h hp
  case h_3 => rfl

/-- A bay with its coach found again: its record, its wanted reads, and no ARRIVAL (spec 01, R16). -/
theorem probeIn_found (h : (s.bay b).table.beforeLoss = some .arriving ∨ (s.bay b).table.beforeLoss = some .present) :
    ((probeIn b s).bay b).table = (s.bay b).table.foundAgain ∧
      ((probeIn b s).bay b).reader.identityWanted = true ∧ ((probeIn b s).bay b).reader.passWanted = true ∧
      ∀ p, eventSet (probeIn b s) p (bayEventKind .arrival) = eventSet s p (bayEventKind .arrival) := by
  rw [probeIn_again h]
  have table : ((updTable b (fun t => { t with
      occ := .arriving, beforeLoss := none, recovery := decide ((s.bay b).table.beforeLoss = some .present)
      plugCount := 0 }) s).bay b).table = (s.bay b).table.foundAgain := by
    rw [updTable_bay_self]
    rfl
  have events : ∀ p, eventSet (updTable b (fun t => { t with
      occ := .arriving, beforeLoss := none, recovery := decide ((s.bay b).table.beforeLoss = some .present)
      plugCount := 0 }) s) p (bayEventKind .arrival) = eventSet s p (bayEventKind .arrival) := fun p => eventSet_congr rfl
  generalize updTable b (fun t => { t with
    occ := .arriving, beforeLoss := none, recovery := decide ((s.bay b).table.beforeLoss = some .present)
    plugCount := 0 }) s = x at table events ⊢
  have work : Work .none x (needsReading b x) := needsReading_work .refl
  obtain ⟨st, reader⟩ := needsReading_reader (s := x) (b := b)
  exact ⟨(work.resting b).table.trans table, by rw [reader], by rw [reader],
    fun p => (work.eventSet rfl fun h => h).trans (events p)⟩

theorem probeOut_reachable : reachable (probeOut b s) b = true := by
  unfold reachable
  by_cases h : (s.bay b).table.beforeLoss = some .arriving ∨ (s.bay b).table.beforeLoss = some .present
  · obtain ⟨table, -, -, -⟩ := departed_taken (probeOut_departs h)
    rw [table]
    rfl
  · rw [not_or] at h
    rw [probeOut_vacant h.1 h.2, becomeVacant, updTable_bay_self]

theorem probeIn_reachable : reachable (probeIn b s) b = true := by
  unfold reachable
  by_cases h : (s.bay b).table.beforeLoss = some .arriving ∨ (s.bay b).table.beforeLoss = some .present
  · rw [(probeIn_found h).1]
    rfl
  · rw [not_or] at h
    rw [probeIn_arrives h.1 h.2, becomeArriving_arrived.table]
    rfl

theorem probeAnswered_reachable : reachable (probeAnswered b plug latch s) b = true := by
  cases plug with
  | out => rw [probeAnswered_out]; exact probeOut_reachable
  | in_ => rw [probeAnswered_in]; exact probeIn_reachable

theorem probeAnswered_announced : announced .nodeBack b (probeAnswered b plug latch s) := by
  cases plug with
  | out =>
    have work : Work (.table b fun _ => True) (nodeBack b .out latch s) (probeOut b (nodeBack b .out latch s)) :=
      probeOut_work .refl rfl trivial
    rw [probeAnswered_out]
    exact work.announced nodeBack_announced
  | in_ =>
    have work : Work (.table b fun _ => True) (nodeBack b .in_ latch s) (probeIn b (nodeBack b .in_ latch s)) :=
      probeIn_work .refl rfl fun _ _ => trivial
    rw [probeAnswered_in]
    exact work.announced nodeBack_announced

/-! ### The transitions of a bay that can be reached -/

theorem contrary_iff (h : reachable s b = true) :
    contrary (s.bay b).table.occ plug = true ↔
      ((s.bay b).table.occ = .vacant ∧ plug = .in_) ∨ (occupied s b = true ∧ plug = .out) := by
  unfold reachable at h
  unfold occupied
  cases ho : (s.bay b).table.occ <;> cases plug <;> simp_all [contrary]

theorem agrees_iff (h : reachable s b = true) :
    contrary (s.bay b).table.occ plug = false ↔
      ((s.bay b).table.occ = .vacant ∧ plug = .out) ∨ (occupied s b = true ∧ plug = .in_) := by
  unfold reachable at h
  unfold occupied
  cases ho : (s.bay b).table.occ <;> cases plug <;> simp_all [contrary]

/-- The transition at the mark of a VACANT bay. -/
theorem plugTransition_vacant (h : (s.bay b).table.occ = .vacant) : plugTransition b s = becomeArriving b s := by
  unfold plugTransition
  rw [h]

/-- The transition at the mark of a bay with a coach. -/
theorem plugTransition_occupied (h : occupied s b = true) :
    plugTransition b s =
      if (s.bay b).table.occ = .present ∧ (s.bay b).clear.state = .released then
        becomeVacant b (departs .clean false false b s)
      else becomeVacant b (departs .unreleased true false b s) := by
  unfold plugTransition
  unfold occupied at h
  split
  case h_1 ho => rw [ho] at h; exact absurd h (by simp)
  case h_2 ho => rw [if_neg (by simp [ho])]; rfl
  case h_3 ho =>
    split
    case isTrue hc => rw [if_pos ⟨ho, hc⟩]; rfl
    case isFalse hc => rw [if_neg (by simp [hc])]; rfl
  case h_4 ho => rw [ho] at h; exact absurd h (by simp)
  case h_5 ho => rw [ho] at h; exact absurd h (by simp)

end

end Sys2Proof.Machine
end

section
/-! PROOF. What a good POLL leaves of the heat record of a bay with a coach (spec 04, R79 to R82), and the reduction that
an excess of closed contactors brings (spec 03, R65). -/

namespace Sys2Proof.Machine

section
variable {s t u y z : State} {b : Bay} {r : PollReply}

/-! ### Records with nothing to project -/

/-- A record that neither a projection nor a grant moves: not HEATING, and not STARVED. -/
structure HeatRec.Quiet (h : HeatRec) : Prop where
  state : h.state ≠ .heating
  starved : h.starved = false

theorem judgeStarved_quiet {x : Bay} (h : (s.bay b).heat.Quiet) :
    ((judgeStarved x s).bay b).heat = (s.bay b).heat := by
  unfold judgeStarved
  rw [updHeat_bay]
  split
  case isTrue hx =>
    subst hx
    rw [decide_eq_false h.state, Bool.false_and, ← h.starved]
  · rfl

theorem project_quiet {x : Bay} (h : (s.bay b).heat.Quiet) : ((project x s).bay b).heat = (s.bay b).heat := by
  unfold project
  split
  case isTrue hx =>
    have other : b ≠ x := fun he => h.state (he ▸ hx)
    rw [heat_of_view (onlyIf_heats _ _ (fun u => by simp) _), updHeat_bay_ne other]
  · rfl

theorem setGrant_quiet {starting : Option Bay} {x : Bay} {grant : Nat} (h : (s.bay b).heat.Quiet) :
    ((setGrant starting x grant s).bay b).heat = (s.bay b).heat := by
  unfold setGrant
  split
  · rfl
  · have granted : ((updPower x (fun p => { p with grant := grant }) s).bay b).heat = (s.bay b).heat := updPower_heat ..
    generalize updPower x (fun p => { p with grant := grant }) s = y at granted ⊢
    have judged : ((judgeStarved x y).bay b).heat = (s.bay b).heat :=
      (judgeStarved_quiet (granted ▸ h)).trans granted
    generalize judgeStarved x y = z at judged ⊢
    cases decide (starting ≠ some x) with
    | true => exact (project_quiet (judged ▸ h)).trans judged
    | false => exact judged

theorem recompute_quiet {starting : Option Bay} (h : (s.bay b).heat.Quiet) :
    ((recompute starting s).bay b).heat = (s.bay b).heat := by
  have books : ((recomputeBooks starting s).bay b).heat = (s.bay b).heat :=
    forAllBays_keeps (P := fun t => (t.bay b).heat = (s.bay b).heat)
      (fun x t ht => (setGrant_quiet (ht ▸ h)).trans ht) s rfl
  have asked : (recompute starting s).heatsView = (recomputeBooks starting s).heatsView := by
    unfold recompute
    simp
  rw [heat_of_view asked, books]

theorem setDemand_quiet {starting : Option Bay} {demand : Nat} (h : (s.bay b).heat.Quiet) :
    ((setDemand starting b demand s).bay b).heat = { (s.bay b).heat with demand := demand } := by
  unfold setDemand
  split
  case isTrue hd => rw [← hd]
  case isFalse =>
    rw [recompute_quiet (by rw [updHeat_bay_self]; exact ⟨h.state, h.starved⟩), updHeat_bay_self]

/-! ### The reading -/

/-- The state in which the reading is stored. -/
def stored (b : Bay) (reading : Option Int) (s : State) : State := updHeat b (fun h => { h with cabin := reading }) s

theorem stored_heat {x : Option Int} : ((stored b x s).bay b).heat = { (s.bay b).heat with cabin := x } :=
  congrArg BayRec.heat (updHeat_bay_self b _ s)

theorem stored_departureOf {x : Option Int} : departureOf (stored b x s) b = departureOf s b := by
  simp [departureOf, stored]

theorem becomeHolding_heat :
    ((becomeHolding b s).bay b).heat =
      { (s.bay b).heat with state := .holding, demand := 0, projection := none, late := false, starved := false } := by
  unfold becomeHolding
  rw [setDemand_quiet (by simp only [post_bay, updHeat_bay_self]; exact ⟨by simp, rfl⟩)]
  simp only [post_bay, updHeat_bay_self]

theorem becomeHolding_announced : announced .heatReady b (becomeHolding b s) := by
  unfold becomeHolding
  set x := updHeat b (fun h => { h with state := .holding, projection := none, late := false, starved := false }) s
  have work : Plans (post .heatReady b x) (setDemand none b 0 (post .heatReady b x)) := setDemand_plans .refl
  exact (Work.refl.plans work : Work .none _ _).announced announced_post

/-! ### The projection -/

/-- A projection rests on the bay's profile, record, temperature and grant, on the outside temperature and the clock. -/
theorem projectionOf_congr (hp : (t.bay b).heat.profile = (s.bay b).heat.profile)
    (hc : (t.bay b).heat.cabin = (s.bay b).heat.cabin) (hg : (t.bay b).power.grant = (s.bay b).power.grant)
    (hd : departureOf t b = departureOf s b) (ho : t.outside = s.outside) (hm : t.clock = s.clock) :
    projectionOf t b = projectionOf s b := by
  unfold projectionOf
  rw [hp, hc, hg, hd, ho, hm]

/-- A projection of a HEATING bay is stored and judged (spec 04, R79, R80). -/
theorem project_heat (h : (s.bay b).heat.state = .heating) :
    ((project b s).bay b).heat =
      { (s.bay b).heat with
        projection := projectionOf s b, late := isLate (projectionOf s b) (departureOf s b) } := by
  unfold project
  rw [if_pos h, heat_of_view (onlyIf_heats _ _ (fun u => by simp) _), updHeat_bay_self]

theorem project_announced (h : (s.bay b).heat.state = .heating)
    (hl : isLate (projectionOf s b) (departureOf s b) = true) (hn : (s.bay b).heat.late = false) :
    announced .heatLate b (project b s) := by
  unfold project
  rw [if_pos h, hl, hn]
  exact announced_post

theorem project_projectionOf : projectionOf (project b s) b = projectionOf s b := by
  have steady := project_steady (s := s) (b := b) b
  have plans : Plans s (project b s) := project_plans .refl
  have outside := (Work.refl.plans plans : Work .none _ _).outside
  have power : (project b s).powersView = s.powersView := by simp
  exact projectionOf_congr steady.profile steady.cabin (congrArg PowerRec.grant (power_of_view power b))
    plans.departureOf outside.outside outside.clock

/-! ### What follows the reading -/

/-- The rest of a POLL once the reading is taken. -/
def afterReading (b : Bay) (r : PollReply) (s : State) : State :=
  pollEnded b (pollTail b r (closedCount b r.closed s))

theorem pollEnded_afterReading : pollEnded b (pollContents b r s) = afterReading b r (cabinReading b r.cabin s) := rfl

/-- Every bay's grant is as it was. -/
def SameGrants (s t : State) : Prop := ∀ x, (t.bay x).power.grant = (s.bay x).power.grant

namespace SameGrants

theorem refl : SameGrants s s := fun _ => rfl

theorem trans (h : SameGrants s t) (k : SameGrants t u) : SameGrants s u := fun x => (k x).trans (h x)

theorem of_view (h : t.powersView = s.powersView) : SameGrants s t := fun x =>
  congrArg PowerRec.grant (power_of_view h x)

theorem updPower {f : PowerRec → PowerRec} (hf : ∀ p, (f p).grant = p.grant) : SameGrants s (updPower b f s) := by
  intro x
  rw [updPower_bay]
  split
  case isTrue hx => subst hx; exact hf _
  · rfl

theorem onlyIf {c : Bool} {f : State → State} (hf : ∀ u, SameGrants u (f u)) : SameGrants s (onlyIf c f s) := by
  cases c with
  | true => exact hf s
  | false => exact refl

end SameGrants

theorem stageUnqueued_grants {increase : Bool} : SameGrants s (stageUnqueued b increase s) := by
  unfold stageUnqueued
  split
  · exact .updPower fun _ => rfl
  · exact .onlyIf fun u => .updPower fun _ => rfl

theorem askStage_grants {target : Nat} {increase : Bool} : SameGrants s (askStage b target increase s) := by
  have told : SameGrants s (noteStage b (updPower b (fun p => { p with commanded := target, watch := none }) s)) :=
    SameGrants.trans (t := updPower b (fun p => { p with commanded := target, watch := none }) s)
      (.updPower fun _ => rfl) (.of_view (by simp))
  unfold askStage
  dsimp only
  generalize noteStage b (updPower b (fun p => { p with commanded := target, watch := none }) s) = x at told ⊢
  split
  · exact told.trans (.of_view (by simp))
  · have ended : SameGrants x (stageEnded b x) := .updPower fun _ => rfl
    exact ((told.trans ended).trans stageUnqueued_grants).trans (.onlyIf fun u => .of_view (by simp))

theorem askReduction_grants {target : Nat} : SameGrants s (askReduction b target s) := by
  unfold askReduction
  exact (SameGrants.onlyIf fun u => .of_view (by simp)).trans askStage_grants

theorem foundStuck_grants : SameGrants s (foundStuck b s) := by
  have marked : SameGrants s (updPower b (fun p => { p with stuck := true, watch := none }) s) :=
    .updPower fun _ => rfl
  exact marked.trans (.of_view (by simp [foundStuck]))

theorem watchPoll_grants : SameGrants s (watchPoll b s) := by
  unfold watchPoll
  split
  · exact .refl
  · split
    · exact .updPower fun _ => rfl
    · split
      · exact .updPower fun _ => rfl
      · exact foundStuck_grants

theorem allocatorCount_grants {n : Nat} : SameGrants s (allocatorCount b n s) := by
  have counted : SameGrants s (updPower b (fun p => { p with closed := n, polledSince := true }) s) :=
    .updPower fun _ => rfl
  have judged : ∀ u, SameGrants u (judgeStuckMark b u) := fun u => .onlyIf fun _ => .updPower fun _ => rfl
  have reduced : ∀ u, SameGrants u (reduceExcess b u) := fun u => .onlyIf fun _ => askReduction_grants
  exact ((counted.trans (judged _)).trans watchPoll_grants).trans (reduced _)

/-- What follows the reading leaves the heat record of a bay that is not STOPPING, its projection, and what is told. -/
theorem afterReading_heat (h : (s.bay b).heat.state ≠ .stopping) :
    ((afterReading b r s).bay b).heat = (s.bay b).heat ∧
      projectionOf (afterReading b r s) b = projectionOf s b := by
  have heats : (allocatorCount b r.closed s).heatsView = s.heatsView := by simp
  have grants : SameGrants s (allocatorCount b r.closed s) := allocatorCount_grants
  have work : Work (.report b) s (closedCount b r.closed s) := closedCount_work .refl rfl
  have heat := heat_of_view heats b
  have counted : closedCount b r.closed s = allocatorCount b r.closed s := by
    unfold closedCount stoppingToOff
    rw [if_neg]
    rintro ⟨hs, -⟩
    rw [heat] at hs
    exact h hs
  unfold afterReading
  rw [counted] at work ⊢
  generalize allocatorCount b r.closed s = x at heat grants work ⊢
  have tail : (pollEnded b (pollTail b r x)).heatsView = x.heatsView ∧
      (pollEnded b (pollTail b r x)).powersView = x.powersView := by simp [pollTail]
  have tailed : Work .none x (pollTail b r x) := pollTail_work
  have ended : Work (.table b fun _ => True) (pollTail b r x) (pollEnded b (pollTail b r x)) :=
    pollEnded_work .refl rfl
  have same := heat_of_view tail.1 b
  have rests : ((pollEnded b (pollTail b r x)).bay b).table = (s.bay b).table := by
    have kept : (pollEnded b (pollTail b r x)).tablesView = (pollTail b r x).tablesView := by simp
    rw [table_of_view kept, (tailed.resting b).table, (work.rests (b := b) fun h => h).table]
  refine ⟨same.trans heat, ?_⟩
  refine projectionOf_congr ?_ ?_ ?_ ?_ ?_ ?_
  · rw [same, heat]
  · rw [same, heat]
  · exact (congrArg PowerRec.grant (power_of_view tail.2 b)).trans (grants b)
  · unfold departureOf; rw [rests]
  · rw [ended.outside.outside, tailed.outside.outside, work.outside.outside]
  · rw [ended.outside.clock, tailed.outside.clock, work.outside.clock]

theorem afterReading_announced {e : BayEvent} {x : Bay} (h : announced e x s) :
    announced e x (afterReading b r s) := by
  have count : Work (.report b) s (closedCount b r.closed s) := closedCount_work .refl rfl
  have told : announced e x (pollTail b r (closedCount b r.closed s)) := pollTail_work.announced (count.announced h)
  unfold afterReading
  generalize pollTail b r (closedCount b r.closed s) = y at told ⊢
  have ports : (pollEnded b y).eventsView = y.eventsView := by simp
  exact announced_of_ports ports told

end

end Sys2Proof.Machine
end

section
/-! PROOF. The cases of a cabin reading (spec 04, R79 to R82) and the reduction of an excess (spec 03, R65). -/

namespace Sys2Proof.Machine

section
variable {s t u y z : State} {b : Bay} {r : PollReply} {x : Int} {d : Departure} {f : HeatProfile}

/-! ### Heating (spec 04, R79 to R81) -/

theorem cabinReading_heating (hs : (s.bay b).heat.state = .heating) :
    cabinReading b (some x) s = readyTest b (stored b (some x) s) := by
  have state : ((stored b (some x) s).bay b).heat.state = .heating := by rw [stored_heat]; exact hs
  show actOnReading b (stored b (some x) s) = _
  unfold actOnReading
  rw [state]

theorem readyTest_stored (hd : departureOf s b = some d) :
    readyTest b (stored b (some x) s) =
      if d.target ≤ x then becomeHolding b (stored b (some x) s) else project b (stored b (some x) s) := by
  have cabin : ((stored b (some x) s).bay b).heat.cabin = some x := by rw [stored_heat]
  unfold readyTest
  rw [cabin, stored_departureOf, hd]

/-- A HEATING bay at its target. -/
theorem cabinReading_holds (hs : (s.bay b).heat.state = .heating) (hd : departureOf s b = some d) (hx : d.target ≤ x) :
    ((cabinReading b (some x) s).bay b).heat =
        { (s.bay b).heat with
          state := .holding, demand := 0, cabin := some x, projection := none, late := false, starved := false } ∧
      announced .heatReady b (cabinReading b (some x) s) := by
  rw [cabinReading_heating hs, readyTest_stored hd, if_pos hx]
  refine ⟨?_, becomeHolding_announced⟩
  rw [becomeHolding_heat, stored_heat]

/-- A HEATING bay below its target. -/
theorem cabinReading_projects (hs : (s.bay b).heat.state = .heating) (hd : departureOf s b = some d) (hx : x < d.target) :
    cabinReading b (some x) s = project b (stored b (some x) s) := by
  rw [cabinReading_heating hs, readyTest_stored hd, if_neg (not_le.mpr hx)]

/-! ### The hold thermostat (spec 04, R82) -/

theorem cabinReading_thermostat (hs : (s.bay b).heat.state = .holding) (hp : (s.bay b).heat.profile = some f)
    (hd : departureOf s b = some d) :
    cabinReading b (some x) s =
      if d.target ≤ x then setDemand none b 0 (stored b (some x) s)
      else if d.target - (f.hysteresis : Int) ≤ x then stored b (some x) s
      else if d.target - 3 * (f.hysteresis : Int) ≤ x then setDemand none b 1 (stored b (some x) s)
      else project b (beginHeating b (stored b (some x) s)) := by
  have state : ((stored b (some x) s).bay b).heat.state = .holding := by rw [stored_heat]; exact hs
  have cabin : ((stored b (some x) s).bay b).heat.cabin = some x := by rw [stored_heat]
  have profile : ((stored b (some x) s).bay b).heat.profile = some f := by rw [stored_heat]; exact hp
  show actOnReading b (stored b (some x) s) = _
  unfold actOnReading thermostatNow
  rw [state]
  dsimp only
  rw [cabin]
  dsimp only
  unfold thermostat
  rw [profile, stored_departureOf, hd]

theorem setDemand_held {n : Nat} (h : (s.bay b).heat.state = .holding) :
    ((setDemand none b n (stored b (some x) s)).bay b).heat.cabin = some x ∧
      ((setDemand none b n (stored b (some x) s)).bay b).heat.demand = n ∧
      ((setDemand none b n (stored b (some x) s)).bay b).heat.state = .holding := by
  refine ⟨?_, setDemand_demand, ?_⟩
  · rw [(setDemand_steady b).cabin, updHeat_bay_self, stored_heat]
  · rw [setDemand_state, stored_heat]
    exact h

theorem beginHeating_heat :
    ((beginHeating b s).bay b).heat.cabin = (s.bay b).heat.cabin ∧
      ((beginHeating b s).bay b).heat.demand = stageCount s b := by
  unfold beginHeating
  have judged := fun u => judgeStarved_steady (s := u) (b := b) b
  rw [(judged _).cabin, (judged _).demand, setDemand_demand, (setDemand_steady b).cabin, updHeat_bay_self]
  simp

theorem beginHeating_announced : announced .heatStarted b (beginHeating b s) := by
  unfold beginHeating
  have work : ∀ u n, Plans u (judgeStarved b (setDemand (some b) b n u)) := fun u n =>
    judgeStarved_plans (setDemand_plans .refl)
  exact (work _ _).announced announced_post

/-- Below the third step of the hysteresis a HOLDING bay heats again. -/
theorem heatsAgain_heat (hp : (s.bay b).heat.profile = some f) :
    ((project b (beginHeating b (stored b (some x) s))).bay b).heat.cabin = some x ∧
      ((project b (beginHeating b (stored b (some x) s))).bay b).heat.demand = f.stages ∧
      ((project b (beginHeating b (stored b (some x) s))).bay b).heat.state = .heating ∧
      announced .heatStarted b (project b (beginHeating b (stored b (some x) s))) ∧
      ((project b (beginHeating b (stored b (some x) s))).bay b).heat.projection =
        projectionOf (project b (beginHeating b (stored b (some x) s))) b := by
  have count : stageCount (stored b (some x) s) b = f.stages := by
    unfold stageCount
    rw [stored_heat]
    simp [hp]
  obtain ⟨cabin, demand⟩ := beginHeating_heat (s := stored b (some x) s) (b := b)
  have state : ((beginHeating b (stored b (some x) s)).bay b).heat.state = .heating := beginHeating_state
  have told : announced .heatStarted b (beginHeating b (stored b (some x) s)) := beginHeating_announced
  rw [stored_heat] at cabin
  rw [count] at demand
  generalize beginHeating b (stored b (some x) s) = y at *
  have steady := project_steady (s := y) (b := b) b
  have projects : Plans y (project b y) := project_plans .refl
  exact ⟨steady.cabin.trans cabin, steady.demand.trans demand, steady.state.trans state, projects.announced told, by
    rw [project_projectionOf, project_heat state]⟩

/-- What the hold thermostat leaves (spec 04, R82's table). -/
theorem cabinReading_held (hs : (s.bay b).heat.state = .holding) (hp : (s.bay b).heat.profile = some f)
    (hd : departureOf s b = some d) :
    ((cabinReading b (some x) s).bay b).heat.cabin = some x ∧
      ((cabinReading b (some x) s).bay b).heat.demand =
        (if d.target ≤ x then 0
        else if d.target - (f.hysteresis : Int) ≤ x then (s.bay b).heat.demand
        else if d.target - 3 * (f.hysteresis : Int) ≤ x then 1
        else f.stages) ∧
      (d.target - 3 * (f.hysteresis : Int) ≤ x → ((cabinReading b (some x) s).bay b).heat.state = .holding) ∧
      (x < d.target - 3 * (f.hysteresis : Int) →
        ((cabinReading b (some x) s).bay b).heat.state = .heating ∧
          announced .heatStarted b (cabinReading b (some x) s) ∧
          ((cabinReading b (some x) s).bay b).heat.projection = projectionOf (cabinReading b (some x) s) b) := by
  rw [cabinReading_thermostat hs hp hd]
  by_cases full : d.target ≤ x
  · rw [if_pos full, if_pos full]
    obtain ⟨cabin, demand, state⟩ := setDemand_held (n := 0) (x := x) hs
    exact ⟨cabin, demand, fun _ => state, fun h => by omega⟩
  rw [if_neg full, if_neg full]
  by_cases near : d.target - (f.hysteresis : Int) ≤ x
  · rw [if_pos near, if_pos near, stored_heat]
    exact ⟨rfl, rfl, fun _ => hs, fun h => by omega⟩
  rw [if_neg near, if_neg near]
  by_cases far : d.target - 3 * (f.hysteresis : Int) ≤ x
  · rw [if_pos far, if_pos far]
    obtain ⟨cabin, demand, state⟩ := setDemand_held (n := 1) (x := x) hs
    exact ⟨cabin, demand, fun _ => state, fun h => by omega⟩
  · rw [if_neg far, if_neg far]
    obtain ⟨cabin, demand, state, told, projection⟩ := heatsAgain_heat (x := x) hp
    exact ⟨cabin, demand, fun h => absurd h far, fun _ => ⟨state, told, projection⟩⟩

/-! ### Stage lanes -/

/-- The bay's STAGE entries off the line are as they were. -/
def StagesKept (b : Bay) (s t : State) : Prop := laneOf t b .stage = laneOf s b .stage

namespace StagesKept

theorem refl : StagesKept b s s := rfl

theorem trans (h : StagesKept b s t) (k : StagesKept b t u) : StagesKept b s u := Eq.trans k h

theorem of_view (h : t.loopsView = s.loopsView) : StagesKept b s t :=
  congrArg (fun l : LoopRec => l.lane .stage) (congrFun (congrArg Prod.snd h) b)

theorem updLane {y : Bay} {sort : LoopSort} {f : Lane → Lane} (h : sort ≠ .stage) :
    StagesKept b s (updLane y sort f s) := by
  unfold StagesKept laneOf
  rw [updLane_lane, if_neg]
  rintro ⟨-, hs, -⟩
  exact h hs.symm

end StagesKept

theorem enterPhase_stages {y : Bay} {phase : VisitPhase} {req : LoopReq} (h : sortOf req ≠ .stage) :
    StagesKept b s (enterPhase y phase req s) := by
  unfold enterPhase askReader askReplacing
  have opened : ∀ v, StagesKept b s (updLane y .reader (fun l => { l with opened := l.opened.map Entry.unwanted })
      (updVisit v s)) := fun v => StagesKept.trans (t := updVisit v s) (.of_view (by simp)) (.updLane (by simp))
  split
  · exact (opened _).trans (.updLane h)
  · exact opened _

theorem nextClear_stages {y : Bay} : StagesKept b s (nextClear y s) := by
  unfold nextClear goSleep
  split
  · exact enterPhase_stages (by simp [sortOf])
  · split <;> exact enterPhase_stages (by simp [sortOf])

theorem visitFails_stages {y : Bay} : StagesKept b s (visitFails y s) := by
  unfold visitFails goSleep
  exact StagesKept.trans (t := updVisit (fun v => { v with failed := true }) s) (.of_view (by simp))
    (enterPhase_stages (by simp [sortOf]))

theorem bridgeReported_stages {y : Bay} {bridge : Bridge} : StagesKept b s (bridgeReported y bridge s) := by
  unfold bridgeReported
  split
  · split
    · cases bridge
      · exact visitFails_stages
      · exact visitFails_stages
      · dsimp only
        unfold afterWake
        split
        · exact enterPhase_stages (by simp [sortOf])
        · exact nextClear_stages
      · exact visitFails_stages
    · exact .refl
  · exact .refl

theorem clearanceCount_stages {y : Bay} {n : Nat} : StagesKept b s (clearanceCount y n s) := by
  have cleared : ∀ (f : ClearRec → ClearRec) u, StagesKept b u (updClear y f u) := fun f u => .of_view (by simp)
  unfold clearanceCount
  split
  · split
    · unfold askOpen joinLatch
      split
      · exact ((cleared _ _).trans (cleared _ _)).trans (.updLane (by simp))
      · exact (cleared _ _).trans (cleared _ _)
    · exact .refl
  · split
    · have withdrawn : StagesKept b s (withdrawOpen y s) := .updLane (by simp)
      exact withdrawn.trans (cleared _ _)
    · exact .refl
  · exact .refl

theorem pollTail_stages : StagesKept b s (pollEnded b (pollTail b r s)) := by
  unfold pollTail
  have counted := (bridgeReported_stages (b := b) (s := s) (y := b) (bridge := r.bridge)).trans
    (clearanceCount_stages (y := b) (n := r.closed))
  generalize clearanceCount b r.closed (bridgeReported b r.bridge s) = x at counted ⊢
  have latched : StagesKept b x (clearanceLatch b r.latch x) := .of_view (by simp)
  refine (counted.trans latched).trans ?_
  generalize clearanceLatch b r.latch x = y
  unfold StagesKept laneOf pollEnded setPoll
  split <;> rw [updLoop_bay_self] <;> rfl

/-! ### The excess (spec 03, R65) -/

/-- What the reduction of an excess leaves: its STAGE in the pending list, and the commanded target as it stood. -/
theorem reduceExcess_asks (hr : reachable s b = true) (hl : s.line = none)
    (hc : (s.bay b).power.commanded < (s.bay b).power.closed) (he : laneOf s b .stage = .empty)
    (hw : (s.bay b).power.watch = none) (hs : (s.bay b).power.stuck = false) :
    laneOf (reduceExcess b s) b .stage =
        { opened := none, queued := some (newEntry (.stage (s.bay b).power.commanded false) s.time) } ∧
      ((reduceExcess b s).bay b).power = (s.bay b).power ∧
      ((reduceExcess b s).bay b).lamp.latestStage = some s.time := by
  have excess : hasExcess s b = true := by
    unfold hasExcess anyOf lineHas
    rw [hl, he, hw, hs, decide_eq_true hc]
    rfl
  have none_replaced : isIncrease (replaceable s b .stage) = false := by
    unfold replaceable lineHas
    rw [hl, he]
    rfl
  have asked : reduceExcess b s = askStage b (s.bay b).power.commanded false s := by
    unfold reduceExcess
    rw [excess]
    show askReduction b (s.bay b).power.commanded s = _
    unfold askReduction
    rw [none_replaced]
    rfl
  rw [asked]
  unfold askStage
  dsimp only
  rw [if_pos hr]
  unfold joinStage lineHas
  have told : (noteStage b (updPower b (fun p => { p with commanded := (s.bay b).power.commanded, watch := none }) s)).bay b =
      { s.bay b with lamp := { (s.bay b).lamp with latestStage := some s.time } } := by
    unfold noteStage
    rw [updLamp_bay_self, updPower_bay_self, ← hw]
    rfl
  have line : (noteStage b (updPower b (fun p => { p with commanded := (s.bay b).power.commanded, watch := none }) s)).line =
      none := hl
  have time : (noteStage b (updPower b (fun p => { p with commanded := (s.bay b).power.commanded, watch := none }) s)).time =
      s.time := rfl
  generalize noteStage b (updPower b (fun p => { p with commanded := (s.bay b).power.commanded, watch := none }) s) = x at *
  refine ⟨?_, ?_, ?_⟩
  · unfold laneOf at *
    rw [updLane_lane, if_pos ⟨rfl, rfl, by simp⟩, line, time, told]
    dsimp only
    rw [he]
    rfl
  · unfold updLane
    rw [updLoop_power, told]
  · rw [updLane_lamp, told]

theorem judgeStuckMark_above (h : (s.bay b).power.commanded < (s.bay b).power.closed) : judgeStuckMark b s = s := by
  unfold judgeStuckMark
  rw [decide_eq_false (Nat.not_le.mpr h)]
  rfl

theorem watchPoll_idle (h : (s.bay b).power.watch = none) : watchPoll b s = s := by
  unfold watchPoll
  rw [h]

/-- The state in which the closed count is stored. -/
def counted (b : Bay) (n : Nat) (s : State) : State :=
  updPower b (fun p => { p with closed := n, polledSince := true }) s

theorem counted_bay {n : Nat} :
    (counted b n s).bay b =
      { s.bay b with power := { (s.bay b).power with closed := n, polledSince := true } } := updPower_bay_self b _ s

/-- A closed count above the commanded target of a bay in OFF, with nothing asked. -/
theorem closedCount_excess {n : Nat} (hr : reachable s b = true) (hl : s.line = none) (ho : (s.bay b).heat.state = .off)
    (hc : (s.bay b).power.commanded < n) (he : laneOf s b .stage = .empty) (hw : (s.bay b).power.watch = none)
    (hs : (s.bay b).power.stuck = false) :
    laneOf (closedCount b n s) b .stage =
        { opened := none, queued := some (newEntry (.stage (s.bay b).power.commanded false) s.time) } ∧
      ((closedCount b n s).bay b).power = { (s.bay b).power with closed := n, polledSince := true } ∧
      ((closedCount b n s).bay b).lamp.latestStage = some s.time := by
  have heats : (allocatorCount b n s).heatsView = s.heatsView := by simp
  have power : ((counted b n s).bay b).power = { (s.bay b).power with closed := n, polledSince := true } := by
    rw [counted_bay]
  have still : closedCount b n s = allocatorCount b n s := by
    unfold closedCount stoppingToOff
    rw [if_neg]
    rintro ⟨hst, -⟩
    rw [heat_of_view heats, ho] at hst
    exact absurd hst (by simp)
  have above : ((counted b n s).bay b).power.commanded < ((counted b n s).bay b).power.closed := by rw [power]; exact hc
  have idle : ((counted b n s).bay b).power.watch = none := by rw [power]; exact hw
  have same : closedCount b n s = reduceExcess b (counted b n s) := by
    rw [still]
    show reduceExcess b (watchPoll b (judgeStuckMark b (counted b n s))) = _
    rw [judgeStuckMark_above above, watchPoll_idle idle]
  rw [same]
  have loop : laneOf (counted b n s) b .stage = .empty := by
    unfold laneOf
    rw [counted_bay]
    exact he
  have reach : reachable (counted b n s) b = true := by
    rw [← hr]
    exact reachable_congr (by rw [counted_bay])
  have asks := reduceExcess_asks (s := counted b n s) (b := b) reach hl above loop idle (by rw [power]; exact hs)
  rw [power] at asks
  exact asks

/-- The same after the whole POLL. -/
theorem afterReading_excess (hr : reachable s b = true) (hl : s.line = none) (ho : (s.bay b).heat.state = .off)
    (hc : (s.bay b).power.commanded < r.closed) (he : laneOf s b .stage = .empty) (hw : (s.bay b).power.watch = none)
    (hs : (s.bay b).power.stuck = false) :
    laneOf (afterReading b r s) b .stage =
        { opened := none, queued := some (newEntry (.stage (s.bay b).power.commanded false) s.time) } ∧
      ((afterReading b r s).bay b).power = { (s.bay b).power with closed := r.closed, polledSince := true } ∧
      ((afterReading b r s).bay b).lamp.latestStage = some s.time := by
  obtain ⟨lane, power, lamp⟩ := closedCount_excess (n := r.closed) hr hl ho hc he hw hs
  unfold afterReading
  generalize closedCount b r.closed s = x at *
  have tail : (pollEnded b (pollTail b r x)).powersView = x.powersView ∧
      (pollEnded b (pollTail b r x)).engineView = x.engineView := by simp [pollTail]
  refine ⟨Eq.trans pollTail_stages lane, ?_, ?_⟩
  · rw [power_of_view tail.1, power]
  · rw [lamp_of_view tail.2, lamp]

end

end Sys2Proof.Machine
end

section
/-! PROOF. The outcomes of a POLL and of a failed attempt, put together (spec 01, R3, R5, R15, R16; spec 02, R26, R27, R36;
spec 03, R65; spec 04, R81, R82). -/

namespace Sys2Proof.Machine

section
variable {s t u y : State} {b : Bay} {r : PollReply} {l : OnLine} {bytes : List Byte} {m : Nat} {x : Int} {d : Departure}
  {f : HeatProfile}

/-- The holding of due polls leaves what a POLL leaves. -/
theorem PollTaken.held (h : PollTaken y t b r) : PollTaken y (pollsHeld s t) b r where
  table x := by rw [pollsHeld_table]; exact h.table x
  failures x := by rw [pollsHeld_loop]; exact h.failures x
  poll := by rw [pollsHeld_loop, pollsHeld_time]; exact heldPoll_now h.poll
  cabin := by rw [pollsHeld_heat]; exact h.cabin
  closed := by rw [pollsHeld_power]; exact h.closed
  reader x := by rw [pollsHeld_reader]; exact h.reader x
  told e x he := pollsHeld_announced (h.told e x he)
  calls e he p := pollsHeld_eventSet.trans (h.calls e he p)
  pool ho := (by simp [State.poolView] : (pollsHeld s t).poolView = t.poolView).trans (h.pool ho)
  line hl := by rw [pollsHeld_line]; exact h.line hl
  time := by rw [pollsHeld_time]; exact h.time
  departures := by rw [pollsHeld_departures]; exact h.departures

/-- The good POLL of a bay that is not LOST, after the Bay Table's part. -/
theorem exec_pollReachable (h : replies l bytes (.ok (.poll r)) s) (hreq : l.entry.req = .poll)
    (hr : reachable s l.bay = true) :
    exec (.replyTaken bytes) s =
        .next (pollsHeld s (pollEnded l.bay (pollContents l.bay r (tablePoll l.bay r.plug r.latch (replyEnded l bytes s))))) ∧
      PollTaken (tablePoll l.bay r.plug r.latch (replyEnded l bytes s))
        (pollsHeld s (pollEnded l.bay (pollContents l.bay r (tablePoll l.bay r.plug r.latch (replyEnded l bytes s)))))
        l.bay r := by
  have reach : reachable (replyEnded l bytes s) l.bay = true := replyEnded_reachable.trans hr
  have ran := exec_pollReply h hreq
  rw [pollDone_reachable reach] at ran
  exact ⟨ran, (pollTaken (tablePoll_kept reach).1).held⟩

/-- The good POLL of a LOST bay, after the Bay Table's part. -/
theorem exec_pollLost (h : replies l bytes (.ok (.poll r)) s) (hreq : l.entry.req = .poll)
    (ho : (s.bay l.bay).table.occ = .lost) :
    ∃ t, exec (.replyTaken bytes) s = .next t ∧
      PollTaken
        (if (s.bay l.bay).table.discovered then
            probeAnswered l.bay r.plug r.latch (storeCount l.bay r.closed (replyEnded l bytes s))
          else sweepAnswered l.bay r.plug r.latch (storeCount l.bay r.closed (replyEnded l bytes s)))
        t l.bay r := by
  have occ : ((replyEnded l bytes s).bay l.bay).table.occ = .lost := by rw [replyEnded_bay]; exact ho
  have found : ((replyEnded l bytes s).bay l.bay).table.discovered = (s.bay l.bay).table.discovered := by
    rw [replyEnded_bay]
  have ran := exec_pollReply h hreq
  rw [pollDone_lost occ, found] at ran
  refine ⟨_, ran, (pollTaken ?_).held⟩
  split
  · exact probeAnswered_reachable
  · exact sweepAnswered_reachable

/-- The bay as the Bay Table finds it in the reply of a LOST bay. -/
theorem storedReply_table {n : Nat} :
    ((storeCount l.bay n (replyEnded l bytes s)).bay l.bay).table = (s.bay l.bay).table := by
  rw [storeCount_bay, replyEnded_bay]

theorem storedReply_eventSet {n : Nat} {p : Port} {k : Fin 18} :
    eventSet (storeCount l.bay n (replyEnded l bytes s)) p k = eventSet s p k := eventSet_congr rfl

/-! ### The sweep (spec 01, R3) -/

theorem sweepPoll_taken (h : replies l bytes (.ok (.poll r)) s) (hreq : l.entry.req = .poll)
    (ho : (s.bay l.bay).table.occ = .lost) (hd : (s.bay l.bay).table.discovered = false) :
    ∃ t, exec (.replyTaken bytes) s = .next t ∧
      (∀ p : Port, (t.port p).baySets[bayEventKind .nodeBack] = (s.port p).baySets[bayEventKind .nodeBack]) ∧
        (t.bay l.bay).loop.poll = .classed t.time ∧
        (r.plug = .out →
          (t.bay l.bay).table =
            { (s.bay l.bay).table with
              occ := .vacant, beforeLoss := none, discovered := true, plugCount := 0, plug := some .out,
              latch := some r.latch }) ∧
        (r.plug = .in_ →
          (t.bay l.bay).table =
              { (s.bay l.bay).table with
                occ := .arriving, beforeLoss := none, discovered := true, recovery := false, plugCount := 0,
                plug := some .in_, latch := some r.latch, identity := none,
                lampPlan := (s.bay l.bay).table.planOverride } ∧
            announced .arrival l.bay t ∧ (t.bay l.bay).reader.identityWanted = true ∧
            (t.bay l.bay).reader.passWanted = true) := by
  obtain ⟨t, ran, taken⟩ := exec_pollLost h hreq ho
  rw [if_neg (by simp [hd])] at taken
  have table := storedReply_table (l := l) (bytes := bytes) (s := s) (n := r.closed)
  have events := fun p k => storedReply_eventSet (l := l) (bytes := bytes) (s := s) (n := r.closed) (p := p) (k := k)
  generalize storeCount l.bay r.closed (replyEnded l bytes s) = z at *
  refine ⟨t, ran, fun p => ?_, taken.poll, fun hp => ?_, fun hp => ?_⟩
  · exact (taken.calls .nodeBack rfl p).trans (sweepAnswered_calls.trans (events p _))
  · rw [taken.table, hp, sweepAnswered_out, table]
    rfl
  · obtain ⟨found, told, identity, pass⟩ := sweepAnswered_in (b := l.bay) (latch := r.latch) (s := z)
    rw [hp] at taken
    rw [taken.table, taken.reader, found, table]
    exact ⟨rfl, taken.told _ _ told, identity, pass⟩

/-! ### The probes (spec 01, R15, R16) -/

theorem probeOut_taken (ho : probeOut b (nodeBack b .out r.latch y) = u) (h : PollTaken u t b r)
    (hq : (y.bay b).table.beforeLoss ≠ some .arriving) (hp : (y.bay b).table.beforeLoss ≠ some .present) :
    (t.bay b).table =
      { (y.bay b).table with
        occ := .vacant, beforeLoss := none, plugCount := 0, plug := some .out, latch := some r.latch } := by
  have found := nodeBack_table (b := b) (plug := .out) (latch := r.latch) (s := y)
  rw [h.table, ← ho, probeOut_vacant (by rw [found]; exact hq) (by rw [found]; exact hp), becomeVacant,
    updTable_bay_self, found]
  rfl

/-- The coach of before the loss is gone. -/
theorem probeOut_departed (ho : probeOut b (nodeBack b .out r.latch y) = u) (h : PollTaken u t b r)
    (hq : (y.bay b).table.beforeLoss = some .arriving ∨ (y.bay b).table.beforeLoss = some .present) :
    (t.bay b).table =
        { (y.bay b).table with
          occ := .vacant, beforeLoss := none, recovery := false, plugCount := 0, plug := some .out,
          latch := some r.latch, lastDeparture := some .unobserved, identity := none, lampPlan := none } ∧
      announced .departed b t ∧ (t.bay b).faults.list = [] ∧ t.departures = y.departures := by
  have found := nodeBack_table (b := b) (plug := .out) (latch := r.latch) (s := y)
  have list : (nodeBack b .out r.latch y).departures = y.departures := rfl
  generalize nodeBack b .out r.latch y = z at *
  rw [probeOut_departs (by rw [found]; exact hq)] at ho
  obtain ⟨table, -, told, cleaned⟩ := departed_taken ho.symm
  have bare : occupied u b = false := by
    unfold occupied
    rw [table]
    rfl
  have kept : u.departures = z.departures := by
    have same : (departs .unobserved true false b z).departures = z.departures := departs_kept
    generalize departs .unobserved true false b z = v at ho same
    rw [← ho]
    exact same
  refine ⟨?_, h.told _ _ told, ?_, ?_⟩
  · rw [h.table, table, found]
    rfl
  · rw [faults_of_view (h.pool bare), cleaned.list]
  · rw [h.departures, kept, list]

/-- The coach of before the loss is found again. -/
theorem probeIn_taken (ho : probeIn b (nodeBack b .in_ r.latch y) = u) (h : PollTaken u t b r)
    (hq : (y.bay b).table.beforeLoss = some .arriving ∨ (y.bay b).table.beforeLoss = some .present) :
    (t.bay b).table =
        { (y.bay b).table with
          occ := .arriving, beforeLoss := none, plugCount := 0, plug := some .in_, latch := some r.latch
          recovery := decide ((y.bay b).table.beforeLoss = some .present) } ∧
      (t.bay b).reader.identityWanted = true ∧ (t.bay b).reader.passWanted = true ∧
      ∀ p, eventSet t p (bayEventKind .arrival) = eventSet y p (bayEventKind .arrival) := by
  have found := nodeBack_table (b := b) (plug := .in_) (latch := r.latch) (s := y)
  have events : ∀ p, eventSet (nodeBack b .in_ r.latch y) p (bayEventKind .arrival) =
      eventSet y p (bayEventKind .arrival) := fun p =>
    (eventSet_post.trans (if_neg (by decide))).trans (eventSet_congr rfl)
  generalize nodeBack b .in_ r.latch y = z at *
  obtain ⟨table, identity, pass, quiet⟩ := probeIn_found (b := b) (s := z) (by rw [found]; exact hq)
  rw [ho] at table identity pass quiet
  rw [h.table, h.reader, table, found]
  exact ⟨rfl, identity, pass, fun p => ((h.calls _ rfl p).trans (quiet p)).trans (events p)⟩

/-- A coach is found where none was before the loss. -/
theorem probeIn_arrived (ho : probeIn b (nodeBack b .in_ r.latch y) = u) (h : PollTaken u t b r)
    (hq : (y.bay b).table.beforeLoss ≠ some .arriving) (hp : (y.bay b).table.beforeLoss ≠ some .present) :
    (t.bay b).table =
        { (y.bay b).table with
          occ := .arriving, beforeLoss := none, recovery := false, plugCount := 0, plug := some .in_,
          latch := some r.latch, identity := none, lampPlan := (y.bay b).table.planOverride } ∧
      announced .arrival b t ∧ (t.bay b).reader.identityWanted = true ∧ (t.bay b).reader.passWanted = true := by
  have found := nodeBack_table (b := b) (plug := .in_) (latch := r.latch) (s := y)
  generalize nodeBack b .in_ r.latch y = z at *
  rw [probeIn_arrives (by rw [found]; exact hq) (by rw [found]; exact hp)] at ho
  have a : Arrived z (becomeArriving b z) b := becomeArriving_arrived
  rw [ho] at a
  rw [h.table, h.reader, a.table, found]
  exact ⟨rfl, h.told _ _ a.told, a.identity, a.pass⟩

theorem probePoll_taken (h : replies l bytes (.ok (.poll r)) s) (hreq : l.entry.req = .poll)
    (ho : (s.bay l.bay).table.occ = .lost) (hd : (s.bay l.bay).table.discovered = true) :
    ∃ t, exec (.replyTaken bytes) s = .next t ∧
      announced .nodeBack l.bay t ∧ (t.bay l.bay).loop.poll = .classed t.time ∧
        (r.plug = .out →
          (s.bay l.bay).table.beforeLoss ≠ some .arriving → (s.bay l.bay).table.beforeLoss ≠ some .present →
          (t.bay l.bay).table =
            { (s.bay l.bay).table with
              occ := .vacant, beforeLoss := none, plugCount := 0, plug := some .out,
              latch := some r.latch }) ∧
        (r.plug = .out →
          (s.bay l.bay).table.beforeLoss = some .arriving ∨ (s.bay l.bay).table.beforeLoss = some .present →
          (t.bay l.bay).table =
              { (s.bay l.bay).table with
                occ := .vacant, beforeLoss := none, recovery := false, plugCount := 0, plug := some .out,
                latch := some r.latch, lastDeparture := some .unobserved, identity := none,
                lampPlan := none } ∧
            announced .departed l.bay t ∧ (t.bay l.bay).faults.list = [] ∧ t.departures = s.departures) ∧
        (r.plug = .in_ →
          (s.bay l.bay).table.beforeLoss = some .arriving ∨ (s.bay l.bay).table.beforeLoss = some .present →
          (t.bay l.bay).table =
              { (s.bay l.bay).table with
                occ := .arriving, beforeLoss := none, plugCount := 0, plug := some .in_,
                latch := some r.latch
                recovery := decide ((s.bay l.bay).table.beforeLoss = some .present) } ∧
            (t.bay l.bay).reader.identityWanted = true ∧ (t.bay l.bay).reader.passWanted = true ∧
            (∀ p : Port,
              (t.port p).baySets[bayEventKind .arrival] = (s.port p).baySets[bayEventKind .arrival])) ∧
        (r.plug = .in_ →
          (s.bay l.bay).table.beforeLoss ≠ some .arriving → (s.bay l.bay).table.beforeLoss ≠ some .present →
          (t.bay l.bay).table =
              { (s.bay l.bay).table with
                occ := .arriving, beforeLoss := none, recovery := false, plugCount := 0, plug := some .in_,
                latch := some r.latch, identity := none,
                lampPlan := (s.bay l.bay).table.planOverride } ∧
            announced .arrival l.bay t ∧ (t.bay l.bay).reader.identityWanted = true ∧
            (t.bay l.bay).reader.passWanted = true) := by
  obtain ⟨t, ran, taken⟩ := exec_pollLost h hreq ho
  rw [if_pos hd] at taken
  have table := storedReply_table (l := l) (bytes := bytes) (s := s) (n := r.closed)
  have events := fun p k => storedReply_eventSet (l := l) (bytes := bytes) (s := s) (n := r.closed) (p := p) (k := k)
  have list : (storeCount l.bay r.closed (replyEnded l bytes s)).departures = s.departures := rfl
  generalize storeCount l.bay r.closed (replyEnded l bytes s) = z at *
  rw [← table, ← list]
  have out : r.plug = .out → PollTaken (probeOut l.bay (nodeBack l.bay .out r.latch z)) t l.bay r := fun hp => by
    rw [← probeAnswered_out, ← hp]
    exact taken
  have in_ : r.plug = .in_ → PollTaken (probeIn l.bay (nodeBack l.bay .in_ r.latch z)) t l.bay r := fun hp => by
    rw [← probeAnswered_in, ← hp]
    exact taken
  refine ⟨t, ran, taken.told _ _ probeAnswered_announced, taken.poll, fun hp => probeOut_taken rfl (out hp),
    fun hp => probeOut_departed rfl (out hp), fun hp hq => ?_, fun hp => probeIn_arrived rfl (in_ hp)⟩
  obtain ⟨found, identity, pass, quiet⟩ := probeIn_taken rfl (in_ hp) hq
  exact ⟨found, identity, pass, fun p => (quiet p).trans (events p _)⟩

/-! ### The plug count (spec 01, R5) -/

theorem replyEnded_plugMark : plugMark (replyEnded l bytes s) l.bay = plugMark s l.bay := by
  unfold plugMark
  rw [replyEnded_bay]

theorem replyEnded_contrary {plug : Plug} :
    contrary ((replyEnded l bytes s).bay l.bay).table.occ plug = contrary (s.bay l.bay).table.occ plug := by
  rw [replyEnded_bay]

theorem agreed_reachable {plug : Plug} {a c : Plug}
    (h : ((s.bay b).table.occ = .vacant ∧ plug = a) ∨ (occupied s b = true ∧ plug = c)) : reachable s b = true := by
  unfold occupied at h
  unfold reachable
  cases ho : (s.bay b).table.occ <;> simp_all

/-- A reading that agrees. -/
theorem exec_pollAgrees (h : replies l bytes (.ok (.poll r)) s) (hreq : l.entry.req = .poll)
    (ha : ((s.bay l.bay).table.occ = .vacant ∧ r.plug = .out) ∨ (occupied s l.bay = true ∧ r.plug = .in_)) :
    exec (.replyTaken bytes) s =
        .next (pollsHeld s (afterReading l.bay r
          (cabinReading l.bay r.cabin (polled l.bay r.plug r.latch 0 (replyEnded l bytes s))))) ∧
      PollTaken (polled l.bay r.plug r.latch 0 (replyEnded l bytes s))
        (pollsHeld s (afterReading l.bay r
          (cabinReading l.bay r.cabin (polled l.bay r.plug r.latch 0 (replyEnded l bytes s))))) l.bay r := by
  have reach : reachable s l.bay = true := agreed_reachable ha
  have agrees : contrary ((replyEnded l bytes s).bay l.bay).table.occ r.plug = false :=
    replyEnded_contrary.trans ((agrees_iff reach).mpr ha)
  have ran := exec_pollReachable h hreq reach
  rw [tablePoll_agrees agrees, pollEnded_afterReading] at ran
  exact ran

theorem agreedReply_bay :
    (polled l.bay r.plug r.latch 0 (replyEnded l bytes s)).bay l.bay =
      { s.bay l.bay with
        table := (s.bay l.bay).table.polled r.plug r.latch 0
        loop := { (s.bay l.bay).loop with failures := 0 } } := by
  rw [polled_bay, replyEnded_bay]

/-- A contrary reading below the mark. -/
theorem contraryPoll_counts (h : replies l bytes (.ok (.poll r)) s) (hreq : l.entry.req = .poll)
    (hc : ((s.bay l.bay).table.occ = .vacant ∧ r.plug = .in_) ∨ (occupied s l.bay = true ∧ r.plug = .out))
    (hm : (s.bay l.bay).table.plugCount + 1 < plugMark s l.bay) :
    ∃ t, exec (.replyTaken bytes) s = .next t ∧
      (t.bay l.bay).table =
        { (s.bay l.bay).table with
          plugCount := (s.bay l.bay).table.plugCount + 1, plug := some r.plug, latch := some r.latch } := by
  have reach : reachable s l.bay = true := agreed_reachable hc
  have contrary_ : contrary ((replyEnded l bytes s).bay l.bay).table.occ r.plug = true :=
    replyEnded_contrary.trans ((contrary_iff reach).mpr hc)
  have count : ((replyEnded l bytes s).bay l.bay).table.plugCount = (s.bay l.bay).table.plugCount := by
    rw [replyEnded_bay]
  obtain ⟨ran, taken⟩ := exec_pollReachable h hreq reach
  refine ⟨_, ran, ?_⟩
  rw [taken.table, tablePoll_counts contrary_ (by rw [replyEnded_plugMark, count]; exact hm), polled_bay, count,
    replyEnded_bay]
  rfl

/-- A contrary reading at the mark. -/
theorem contraryPoll_moves (h : replies l bytes (.ok (.poll r)) s) (hreq : l.entry.req = .poll)
    (hc : ((s.bay l.bay).table.occ = .vacant ∧ r.plug = .in_) ∨ (occupied s l.bay = true ∧ r.plug = .out))
    (hm : plugMark s l.bay ≤ (s.bay l.bay).table.plugCount + 1) :
    ∃ t, exec (.replyTaken bytes) s = .next t ∧
      (t.bay l.bay).table.plugCount = 0 ∧
        (t.bay l.bay).table.occ = (if (s.bay l.bay).table.occ = .vacant then .arriving else .vacant) ∧
        ((s.bay l.bay).table.occ = .vacant → announced .arrival l.bay t) ∧
        (occupied s l.bay = true →
          announced .departed l.bay t ∧
            (t.bay l.bay).table.lastDeparture =
              some
                (if (s.bay l.bay).table.occ = .present ∧ (s.bay l.bay).clear.state = .released then .clean
                else .unreleased)) := by
  have reach : reachable s l.bay = true := agreed_reachable hc
  have contrary_ : contrary ((replyEnded l bytes s).bay l.bay).table.occ r.plug = true :=
    replyEnded_contrary.trans ((contrary_iff reach).mpr hc)
  have count : ((replyEnded l bytes s).bay l.bay).table.plugCount = (s.bay l.bay).table.plugCount := by
    rw [replyEnded_bay]
  obtain ⟨ran, taken⟩ := exec_pollReachable h hreq reach
  refine ⟨_, ran, ?_⟩
  have same := tablePoll_moves (latch := r.latch) contrary_ (by rw [replyEnded_plugMark, count]; exact hm)
  have self := agreedReply_bay (s := s) (l := l) (bytes := bytes) (r := r)
  generalize pollsHeld s (pollEnded l.bay (pollContents l.bay r (tablePoll l.bay r.plug r.latch (replyEnded l bytes s)))) = t
    at *
  rw [same] at taken
  generalize polled l.bay r.plug r.latch 0 (replyEnded l bytes s) = z at *
  have occ : (z.bay l.bay).table.occ = (s.bay l.bay).table.occ := by rw [self]; rfl
  have clear : (z.bay l.bay).clear = (s.bay l.bay).clear := by rw [self]
  rw [taken.table]
  by_cases hv : (s.bay l.bay).table.occ = .vacant
  · have bare : occupied s l.bay = false := by unfold occupied; rw [hv]
    rw [plugTransition_vacant (occ.trans hv)] at taken ⊢
    have a : Arrived z (becomeArriving l.bay z) l.bay := becomeArriving_arrived
    rw [a.table, if_pos hv]
    exact ⟨rfl, rfl, fun _ => taken.told _ _ a.told, fun ho => absurd ho (by rw [bare]; simp)⟩
  · have coach : occupied s l.bay = true := (hc.resolve_left fun hx => hv hx.1).1
    rw [plugTransition_occupied ((occupied_congr occ).trans coach), occ, clear] at taken ⊢
    rw [if_neg hv]
    have left : ∀ kind k, PollTaken (becomeVacant l.bay (departs kind k false l.bay z)) t l.bay r →
        ((becomeVacant l.bay (departs kind k false l.bay z)).bay l.bay).table.plugCount = 0 ∧
          ((becomeVacant l.bay (departs kind k false l.bay z)).bay l.bay).table.occ = .vacant ∧
          ((s.bay l.bay).table.occ = .vacant → announced .arrival l.bay t) ∧
          (occupied s l.bay = true →
            announced .departed l.bay t ∧
              ((becomeVacant l.bay (departs kind k false l.bay z)).bay l.bay).table.lastDeparture = some kind) := by
      intro kind k tk
      obtain ⟨table, -, told, -⟩ := departed_taken (x := becomeVacant l.bay (departs kind k false l.bay z)) rfl
      rw [table]
      exact ⟨rfl, rfl, fun h => absurd h hv, fun _ => ⟨tk.told _ _ told, rfl⟩⟩
    by_cases hk : (s.bay l.bay).table.occ = .present ∧ (s.bay l.bay).clear.state = .released
    · rw [if_pos hk] at taken ⊢
      rw [if_pos hk]
      exact left _ _ taken
    · rw [if_neg hk] at taken ⊢
      rw [if_neg hk]
      exact left _ _ taken

end

end Sys2Proof.Machine
end

section
/-! PROOF. The heat state and the contactors after a good POLL (spec 03, R65; spec 04, R79 to R82), and the obligation on
failed attempts and polls. -/

namespace Sys2Proof.Machine

section
variable {s t u y : State} {b : Bay} {r : PollReply} {l : OnLine} {bytes : List Byte} {m : Nat} {x : Int} {d : Departure}
  {f : HeatProfile}

theorem pollsHeld_projectionOf : projectionOf (pollsHeld s t) b = projectionOf t b :=
  projectionOf_congr (by rw [pollsHeld_heat]) (by rw [pollsHeld_heat]) (by rw [pollsHeld_power])
    (by simp [departureOf]) (pollsHeld_outside s t) (pollsHeld_clock s t)

/-- The reading of a POLL whose plug agrees: what it leaves of the heat record stands. -/
theorem exec_pollReading (h : replies l bytes (.ok (.poll r)) s) (hreq : l.entry.req = .poll)
    (ho : occupied s l.bay = true) (hp : r.plug = .in_) (hx : r.cabin = some x) (hd : departureOf s l.bay = some d)
    (hs : ∀ y : State, (y.bay l.bay).heat = (s.bay l.bay).heat → departureOf y l.bay = some d →
      ((cabinReading l.bay (some x) y).bay l.bay).heat.state ≠ .stopping) :
    ∃ t y, exec (.replyTaken bytes) s = .next t ∧
      (y.bay l.bay).heat = (s.bay l.bay).heat ∧ departureOf y l.bay = some d ∧
      (t.bay l.bay).heat = ((cabinReading l.bay (some x) y).bay l.bay).heat ∧
      projectionOf t l.bay = projectionOf (cabinReading l.bay (some x) y) l.bay ∧
      ∀ e, announced e l.bay (cabinReading l.bay (some x) y) → announced e l.bay t := by
  obtain ⟨ran, -⟩ := exec_pollAgrees h hreq (.inr ⟨ho, hp⟩)
  rw [hx] at ran
  have self := agreedReply_bay (s := s) (l := l) (bytes := bytes) (r := r)
  generalize polled l.bay r.plug r.latch 0 (replyEnded l bytes s) = y at *
  have heat : (y.bay l.bay).heat = (s.bay l.bay).heat := by rw [self]
  have record : departureOf y l.bay = some d := by
    rw [← hd]
    unfold departureOf
    rw [self]
    rfl
  obtain ⟨kept, projection⟩ := afterReading_heat (r := r) (hs y heat record)
  refine ⟨_, y, ran, heat, record, ?_, ?_, fun e he => pollsHeld_announced (afterReading_announced he)⟩
  · rw [pollsHeld_heat, kept]
  · rw [pollsHeld_projectionOf, projection]

theorem pollHolds (h : replies l bytes (.ok (.poll r)) s) (hreq : l.entry.req = .poll)
    (ho : occupied s l.bay = true) (hp : r.plug = .in_) (hx : r.cabin = some x) (hd : departureOf s l.bay = some d)
    (hs : (s.bay l.bay).heat.state = .heating) (ht : d.target ≤ x) :
    ∃ t, exec (.replyTaken bytes) s = .next t ∧
      (t.bay l.bay).heat =
          { (s.bay l.bay).heat with
            state := .holding, demand := 0, cabin := some x, projection := none, late := false, starved := false } ∧
        announced .heatReady l.bay t := by
  obtain ⟨t, y, ran, heat, record, kept, -, told⟩ := exec_pollReading h hreq ho hp hx hd fun y hy hr => by
    rw [(cabinReading_holds (by rw [hy]; exact hs) hr ht).1]
    simp
  obtain ⟨holds, ready⟩ := cabinReading_holds (by rw [heat]; exact hs) record ht
  refine ⟨t, ran, ?_, told _ ready⟩
  rw [kept, holds, heat]

theorem pollProjects (h : replies l bytes (.ok (.poll r)) s) (hreq : l.entry.req = .poll)
    (ho : occupied s l.bay = true) (hp : r.plug = .in_) (hx : r.cabin = some x) (hd : departureOf s l.bay = some d)
    (hs : (s.bay l.bay).heat.state = .heating) (ht : x < d.target) :
    ∃ t, exec (.replyTaken bytes) s = .next t ∧
      (t.bay l.bay).heat =
          { (s.bay l.bay).heat with
            cabin := some x
            projection := projectionOf t l.bay
            late := isLate (projectionOf t l.bay) (some d) } ∧
        (isLate (projectionOf t l.bay) (some d) = true → (s.bay l.bay).heat.late = false →
          announced .heatLate l.bay t) := by
  have storedState : ∀ y : State, (y.bay l.bay).heat = (s.bay l.bay).heat →
      ((stored l.bay (some x) y).bay l.bay).heat.state = .heating := fun y hy => by
    rw [stored_heat, hy]
    exact hs
  obtain ⟨t, y, ran, heat, record, kept, projection, told⟩ := exec_pollReading h hreq ho hp hx hd fun y hy hr => by
    rw [cabinReading_projects (by rw [hy]; exact hs) hr ht, (project_steady l.bay).state, storedState y hy]
    simp
  rw [cabinReading_projects (by rw [heat]; exact hs) record ht] at kept projection told
  have late : departureOf (stored l.bay (some x) y) l.bay = some d := stored_departureOf.trans record
  have first : ((stored l.bay (some x) y).bay l.bay).heat = { (s.bay l.bay).heat with cabin := some x } := by
    rw [stored_heat, heat]
  refine ⟨t, ran, ?_, fun hl hn => told _ ?_⟩
  · rw [kept, projection, project_projectionOf, project_heat (storedState y heat), late, first]
  · rw [projection, project_projectionOf] at hl
    exact project_announced (storedState y heat) (by rw [late]; exact hl) (by rw [first]; exact hn)

theorem pollHeld_thermostat (h : replies l bytes (.ok (.poll r)) s) (hreq : l.entry.req = .poll)
    (ho : occupied s l.bay = true) (hp : r.plug = .in_) (hx : r.cabin = some x) (hd : departureOf s l.bay = some d)
    (hs : (s.bay l.bay).heat.state = .holding) (hf : (s.bay l.bay).heat.profile = some f) :
    ∃ t, exec (.replyTaken bytes) s = .next t ∧
      (t.bay l.bay).heat.cabin = some x ∧
        (t.bay l.bay).heat.demand =
          (if d.target ≤ x then 0
          else if d.target - f.hysteresis ≤ x then (s.bay l.bay).heat.demand
          else if d.target - 3 * f.hysteresis ≤ x then 1
          else f.stages) ∧
        (d.target - 3 * f.hysteresis ≤ x → (t.bay l.bay).heat.state = .holding) ∧
        (x < d.target - 3 * f.hysteresis →
          (t.bay l.bay).heat.state = .heating ∧ announced .heatStarted l.bay t ∧
            (t.bay l.bay).heat.projection = projectionOf t l.bay) := by
  obtain ⟨t, y, ran, heat, record, kept, projection, told⟩ := exec_pollReading h hreq ho hp hx hd fun y hy hr => by
    obtain ⟨-, -, near, far⟩ :=
      cabinReading_held (x := x) (s := y) (by rw [hy]; exact hs) (by rw [hy]; exact hf) hr
    rcases lt_or_ge x (d.target - 3 * (f.hysteresis : Int)) with hlt | hge
    · rw [(far hlt).1]; simp
    · rw [near hge]; simp
  obtain ⟨cabin, demand, near, far⟩ :=
    cabinReading_held (x := x) (s := y) (by rw [heat]; exact hs) (by rw [heat]; exact hf) record
  rw [heat] at demand
  rw [← kept] at cabin demand near far
  refine ⟨t, ran, cabin, demand, near, fun hlt => ?_⟩
  obtain ⟨state, started, made⟩ := far hlt
  exact ⟨state, told _ started, made.trans projection.symm⟩

theorem pollExcess (h : replies l bytes (.ok (.poll r)) s) (hreq : l.entry.req = .poll)
    (ho : (s.bay l.bay).heat.state = .off) (hr : reachable s l.bay = true)
    (ha : ((s.bay l.bay).table.occ = .vacant ∧ r.plug = .out) ∨ (occupied s l.bay = true ∧ r.plug = .in_))
    (hc : (s.bay l.bay).power.commanded < r.closed) (he : laneOf s l.bay .stage = .empty)
    (hw : (s.bay l.bay).power.watch = none) (hs : (s.bay l.bay).power.stuck = false) :
    ∃ t, exec (.replyTaken bytes) s = .next t ∧
      laneOf t l.bay .stage =
          { opened := none
            queued := some (newEntry (.stage (s.bay l.bay).power.commanded false) t.time) } ∧
        (t.bay l.bay).power = { (s.bay l.bay).power with closed := r.closed, polledSince := true } ∧
        (t.bay l.bay).lamp.latestStage = some t.time := by
  obtain ⟨ran, taken⟩ := exec_pollAgrees h hreq ha
  have self := agreedReply_bay (s := s) (l := l) (bytes := bytes) (r := r)
  have line : (polled l.bay r.plug r.latch 0 (replyEnded l bytes s)).line = none := rfl
  have reach : reachable (polled l.bay r.plug r.latch 0 (replyEnded l bytes s)) l.bay = true :=
    polled_reachable (replyEnded_reachable.trans hr)
  generalize polled l.bay r.plug r.latch 0 (replyEnded l bytes s) = y at *
  have state : (y.bay l.bay).heat.state = .off := by rw [self]; exact ho
  have same : cabinReading l.bay r.cabin y = stored l.bay r.cabin y := by
    show actOnReading l.bay (stored l.bay r.cabin y) = _
    unfold actOnReading
    rw [stored_heat]
    dsimp only
    rw [state]
  rw [same] at ran taken
  have bay : (stored l.bay r.cabin y).bay l.bay = { y.bay l.bay with heat := { (y.bay l.bay).heat with cabin := r.cabin } } :=
    updHeat_bay_self l.bay _ y
  have power : ((stored l.bay r.cabin y).bay l.bay).power = (s.bay l.bay).power := by rw [bay, self]
  have lane : laneOf (stored l.bay r.cabin y) l.bay .stage = .empty := by
    rw [← he]
    unfold laneOf
    rw [bay, self]
    rfl
  have time : (stored l.bay r.cabin y).time = y.time := rfl
  have reach' : reachable (stored l.bay r.cabin y) l.bay = true := by
    rw [← reach]
    exact reachable_congr (by rw [bay])
  have asks := afterReading_excess (r := r) reach' line (by rw [bay]; exact state) (by rw [power]; exact hc) lane
    (by rw [power]; exact hw) (by rw [power]; exact hs)
  generalize stored l.bay r.cabin y = z at *
  rw [power, time, ← taken.time] at asks
  refine ⟨_, ran, ?_⟩
  rw [pollsHeld_laneOf, pollsHeld_power, pollsHeld_lamp]
  exact asks

/-- The sweep poll of a bay that failed, and the failures of a bay that cannot be reached. -/
theorem unreachedTimeout (h : awaitsReply l s) (ha : l.attempt = 2) (hr : reachable s l.bay = false) :
    ∃ t, exec .replyTimeout s = .next t ∧
      t.line = none ∧ t.time = max s.time (l.sentEnd + 8000) ∧
        (∀ b : Bay, (t.bay b).loop.failures = (s.bay b).loop.failures) ∧
        (l.entry.req = .poll → (s.bay l.bay).table.occ = .lost → (s.bay l.bay).table.discovered = false →
          (t.bay l.bay).table = { (s.bay l.bay).table with discovered := true } ∧ announced .nodeLost l.bay t ∧
            (t.bay l.bay).loop.poll = .probe (t.time + 10000000)) := by
  have ran := exec_replyTimeout h.1
  rw [timesOut_eq h] at ran
  have counted : Counted { s with time := max s.time (l.sentEnd + 8000) } _ l _ := counted_unreached ha hr
  have held := counted.polled (x := s)
  have sweep := sweepFailed_taken (s := { s with time := max s.time (l.sentEnd + 8000) }) (l := l) ha
  generalize attemptFails l { s with time := max s.time (l.sentEnd + 8000) } = x at *
  refine ⟨_, ran, held.line, held.time, fun b => ?_, fun hreq ho hd => ?_⟩
  · by_cases hb : b = l.bay
    · subst hb; exact held.own
    · exact held.other b hb
  · obtain ⟨table, told, poll⟩ := sweep hreq hr ho hd
    refine ⟨?_, pollsHeld_announced told, ?_⟩
    · rw [pollsHeld_table, table]
      rfl
    · rw [pollsHeld_loop, held.time]
      exact heldPoll_probe poll

theorem unreachedMalformed (h : awaitsReply l s) (ha : l.attempt = 2) (hr : reachable s l.bay = false)
    (hp : parseReply l.bay l.entry.req bytes = none) (ht : heardAt l bytes s ≤ l.sentEnd + 8000) :
    ∃ t, exec (.malformedReply bytes) s = .next t ∧
      t.line = none ∧ t.time = heardAt l bytes s ∧
        ∀ b : Bay, (t.bay b).loop.failures = (s.bay b).loop.failures := by
  have counted : Counted { s with time := heardAt l bytes s } _ l _ := counted_unreached ha hr
  have held := counted.polled (x := s)
  refine ⟨_, malformed_eq h hp ht, held.line, held.time, fun b => ?_⟩
  by_cases hb : b = l.bay
  · subst hb; exact held.own
  · exact held.other b hb

theorem lastTimeout (h : lastAttempt l s) :
    ∃ t, exec .replyTimeout s = .next t ∧
      t.line = none ∧ t.time = max s.time (l.sentEnd + 8000) ∧
        (t.bay l.bay).loop.failures = (s.bay l.bay).loop.failures + 1 ∧
        ∀ b : Bay, b ≠ l.bay → (t.bay b).loop.failures = (s.bay b).loop.failures := by
  obtain ⟨hawaits, hattempt, hr, hf⟩ := h
  have ran := exec_replyTimeout hawaits.1
  rw [timesOut_eq hawaits] at ran
  have counted : Counted { s with time := max s.time (l.sentEnd + 8000) } _ l _ := counted_reached hattempt hr hf
  have held := counted.polled (x := s)
  exact ⟨_, ran, held.line, held.time, held.own, held.other⟩

theorem lastMalformed (h : lastAttempt l s) (hp : parseReply l.bay l.entry.req bytes = none)
    (ht : heardAt l bytes s ≤ l.sentEnd + 8000) :
    ∃ t, exec (.malformedReply bytes) s = .next t ∧
      t.line = none ∧ t.time = heardAt l bytes s ∧
        (t.bay l.bay).loop.failures = (s.bay l.bay).loop.failures + 1 ∧
        ∀ b : Bay, b ≠ l.bay → (t.bay b).loop.failures = (s.bay b).loop.failures := by
  obtain ⟨hawaits, hattempt, hr, hf⟩ := h
  have counted : Counted { s with time := heardAt l bytes s } _ l _ := counted_reached hattempt hr hf
  have held := counted.polled (x := s)
  exact ⟨_, malformed_eq hawaits hp ht, held.line, held.time, held.own, held.other⟩

theorem pollAgrees (h : replies l bytes (.ok (.poll r)) s) (hreq : l.entry.req = .poll)
    (ha : ((s.bay l.bay).table.occ = .vacant ∧ r.plug = .out) ∨ (occupied s l.bay = true ∧ r.plug = .in_)) :
    ∃ t, exec (.replyTaken bytes) s = .next t ∧
      (t.bay l.bay).table =
        { (s.bay l.bay).table with plugCount := 0, plug := some r.plug, latch := some r.latch } := by
  obtain ⟨ran, taken⟩ := exec_pollAgrees h hreq ha
  refine ⟨_, ran, ?_⟩
  rw [taken.table, agreedReply_bay]
  rfl

end

/-- Settles O42: the attempts by their number, the POLL by the bay's occupancy, and within it by what its owners see. -/
theorem failedAttemptsAreCountedAndPollsAreTaken : Obligations.FailedAttemptsAreCountedAndPollsAreTaken := by
  unfold Obligations.FailedAttemptsAreCountedAndPollsAreTaken
  intro l bytes m r x d f s
  refine ⟨fun h ha => ⟨firstTimeout h ha, firstMalformed h ha⟩, fun h ht => ?_, retryQuiet_ends,
    fun h => ⟨lastTimeout h, lastMalformed h⟩,
    fun h ha hr => ⟨unreachedTimeout h ha hr, unreachedMalformed h ha hr⟩, fun h hreq => ?_⟩
  · rw [exec_replyTaken h.1, exec_malformedReply h.1, exec_replyTimeout h.1, heard_late h ht]
    exact ⟨rfl, rfl⟩
  · exact ⟨sweepPoll_taken h hreq, probePoll_taken h hreq, pollAgrees h hreq,
      fun hc => ⟨contraryPoll_counts h hreq hc, contraryPoll_moves h hreq hc⟩,
      fun ho hp hx hd => ⟨pollHolds h hreq ho hp hx hd, pollProjects h hreq ho hp hx hd,
        pollHeld_thermostat h hreq ho hp hx hd⟩,
      fun ho hr ha hc he hw hs => pollExcess h hreq ho hr ha hc he hw hs⟩

end Sys2Proof.Machine
end

section
/-! PROOF. The minute told to the four blocks that compare against it (spec 03, R48): OVERDUE, the planned starts, the
deferrals and the stale marks. -/

namespace Sys2Proof.Machine

section
variable {s t u : State} {b : Bay}

/-! ### Going over the bays -/

theorem forBays_each {f : Bay → State → State} {P : State → Bay → Prop} (own : ∀ b u, P (f b u) b)
    (other : ∀ b x u, P u x → P (f b u) x) {bays : List Bay} {x : Bay} (hx : x ∈ bays ∨ P s x) :
    P (forBays bays f s) x := by
  unfold forBays
  induction bays generalizing s with
  | nil => exact hx.resolve_left (by simp)
  | cons b bays ih =>
    refine ih ?_
    obtain hx | hp := hx
    · obtain rfl | hx := List.mem_cons.mp hx
      · exact .inr (own x s)
      · exact .inl hx
    · exact .inr (other b x s hp)

/-- What an operation brings about at its own bay, and takes from no other, holds of every bay after all. -/
theorem forAllBays_each {f : Bay → State → State} {P : State → Bay → Prop} (own : ∀ b u, P (f b u) b)
    (other : ∀ b x u, P u x → P (f b u) x) (x : Bay) : P (forAllBays f s) x :=
  forBays_each own other (.inl (mem_allBays x))

/-! ### OVERDUE (spec 01, R25) -/

/-- The bay is not to be reported overdue. -/
def reported (s : State) (b : Bay) : Prop := isOverdue s b = false

theorem isOverdue_congr (hd : departureOf t b = departureOf s b) (hc : t.clock = s.clock)
    (hr : (t.bay b).clear.state = .released ↔ (s.bay b).clear.state = .released) : isOverdue t b = isOverdue s b := by
  have same : ((t.bay b).clear.state != .released) = ((s.bay b).clear.state != .released) := by
    rw [bne, bne, Bool.not_inj_iff, Bool.eq_iff_iff, beq_iff_eq, beq_iff_eq]
    exact hr
  unfold isOverdue
  rw [hd, hc, same]

theorem clock_of_frozen (h : Frozen s t) : t.clock = s.clock := congrArg (·.1) h.2.2.1

theorem settings_of_frozen (h : Frozen s t) : t.settings = s.settings := congrArg (·.2.1) h.2.2.1

theorem judgeOverdue_clock {x : Bay} : (judgeOverdue x s).clock = s.clock := clock_of_frozen (judgeOverdue_keeps x s).1

theorem judgeOverdue_reported : reported (judgeOverdue b s) b := by
  cases h : isOverdue s b with
  | false =>
    unfold reported judgeOverdue
    rw [h, if_neg Bool.false_ne_true, h]
  | true =>
    have record : departureOf (judgeOverdue b s) b = (departureOf s b).map fun d => { d with overdue := true } := by
      rw [departureOf, judgeOverdue_table, if_pos rfl]
      unfold judged
      rw [h]
      rfl
    unfold reported isOverdue
    rw [record]
    cases departureOf s b with
    | none => rfl
    | some d => simp

theorem judgeOverdue_others {x : Bay} (h : reported s x) : reported (judgeOverdue b s) x := by
  by_cases hx : x = b
  · subst hx
    exact judgeOverdue_reported
  · unfold reported
    rw [isOverdue_congr (s := s) (by rw [departureOf, judgeOverdue_table, if_neg hx, departureOf]) judgeOverdue_clock
      (by rw [judgeOverdue_clear])]
    exact h

/-- The Clearance Unit's news neither begin nor end RELEASED. -/
theorem clearanceNews_released {x : Bay} {r : Reason} :
    ((clearanceNews b r s).bay x).clear.state = .released ↔ (s.bay x).clear.state = .released := by
  by_cases hx : x = b
  · subst hx
    unfold clearanceNews
    split
    case h_1 h => simp [postClearance, h]
    case h_2 h => simp [h]
    all_goals rfl
  · unfold clearanceNews
    split
    case h_1 => rw [postClearance, post_bay, updClear_bay_ne hx]
    case h_2 => rw [updClear_bay_ne hx]
    all_goals rfl

theorem onlyIf_news_released {x : Bay} {r : Reason} {c : Bool} :
    ((onlyIf c (clearanceNews b r) s).bay x).clear.state = .released ↔ (s.bay x).clear.state = .released := by
  cases c with
  | true => exact clearanceNews_released
  | false => exact Iff.rfl

theorem expireDeferrals_released {x : Bay} :
    ((expireDeferrals b s).bay x).clear.state = .released ↔ (s.bay x).clear.state = .released := by
  unfold expireDeferrals
  exact onlyIf_news_released.trans (by rw [updFaults_clear])

theorem judgeStale_released {x : Bay} :
    ((judgeStale b s).bay x).clear.state = .released ↔ (s.bay x).clear.state = .released := by
  unfold judgeStale
  exact onlyIf_news_released.trans (by rw [updLamp_clear])

/-- An operation that leaves the Bay Table and the clock, and RELEASED, leaves no bay to be reported. -/
theorem reported_kept {x : Bay} (hf : Frozen s t) (hr : SameRecords s t)
    (hc : (t.bay x).clear.state = .released ↔ (s.bay x).clear.state = .released) (h : reported s x) : reported t x := by
  unfold reported
  rw [isOverdue_congr (by rw [departureOf, table_of_view hr.2, departureOf]) (clock_of_frozen hf) hc]
  exact h

/-! ### Planned starts (spec 04, R77) -/

theorem unfired_congr {x : Bay} (hs : (t.bay x).heat.state = (s.bay x).heat.state)
    (hp : (t.bay x).heat.plannedStart = (s.bay x).heat.plannedStart) (hc : t.clock = s.clock) (h : unfired s x) :
    unfired t x := by
  unfold unfired
  rw [hs, hp, hc]
  exact h

theorem fireIfDue_others {x : Bay} (h : unfired s x) : unfired (fireIfDue b s) x := by
  by_cases hx : x = b
  · subst hx
    exact fireIfDue_unfired
  · have steady := fireIfDue_but (s := s) (b := b) x hx
    exact unfired_congr steady.state steady.plannedStart (clock_of_frozen (fireIfDue_keeps b s).1) h

/-! ### Deferrals (spec 06, R131) -/

/-- No deferral of the bay has outlived its expiry. -/
def unexpired (s : State) (b : Bay) : Prop := ∀ e ∈ (s.bay b).faults.list, e.expired s.clock.minute = false

theorem clearanceNews_view {r : Reason} {c : Bool} : (onlyIf c (clearanceNews b r) s).poolView = s.poolView := by simp

/-- An entry whose deferral is over. -/
def FaultEntry.undeferred (now : Nat) (e : FaultEntry) : FaultEntry :=
  if e.expired now then { e with state := .active, expiry := none } else e

theorem undeferred_unexpired {now : Nat} {e : FaultEntry} : (e.undeferred now).expired now = false := by
  unfold FaultEntry.undeferred
  cases h : e.expired now with
  | true => rfl
  | false => exact h

theorem expireDeferrals_list {x : Bay} :
    ((expireDeferrals b s).bay x).faults.list =
      if x = b then (s.bay b).faults.list.map (FaultEntry.undeferred s.clock.minute) else (s.bay x).faults.list := by
  unfold expireDeferrals
  rw [faults_of_view clearanceNews_view, updFaults_bay]
  split
  · rfl
  · rfl

theorem expireDeferrals_clock {x : Bay} : (expireDeferrals x s).clock = s.clock :=
  clock_of_frozen (expireDeferrals_keeps x s).1

theorem expireDeferrals_unexpired : unexpired (expireDeferrals b s) b := by
  intro e he
  rw [expireDeferrals_list, if_pos rfl] at he
  obtain ⟨o, -, rfl⟩ := List.mem_map.mp he
  rw [expireDeferrals_clock]
  exact undeferred_unexpired

theorem expireDeferrals_others {x : Bay} (h : unexpired s x) : unexpired (expireDeferrals b s) x := by
  by_cases hx : x = b
  · subst hx
    exact expireDeferrals_unexpired
  · unfold unexpired
    rw [expireDeferrals_list, if_neg hx, expireDeferrals_clock]
    exact h

/-! ### Stale marks (spec 05, R95) -/

/-- The bay's stale mark is as the age says. -/
def marked (s : State) (b : Bay) : Prop := (s.bay b).lamp.stale = isStale s b

theorem judgeStale_lamp {x : Bay} :
    ((judgeStale b s).bay x).lamp = if x = b then { (s.bay b).lamp with stale := isStale s b } else (s.bay x).lamp := by
  have news : ∀ (c : Bool) (r : Reason) (y : State), (onlyIf c (clearanceNews b r) y).engineView = y.engineView :=
    fun c r y => by simp
  unfold judgeStale
  rw [lamp_of_view (news _ _ _), updLamp_bay]
  split
  · rfl
  · rfl

theorem judgeStale_clock {x : Bay} : (judgeStale x s).clock = s.clock := clock_of_frozen (judgeStale_keeps x s).1

theorem judgeStale_settings {x : Bay} : (judgeStale x s).settings = s.settings :=
  settings_of_frozen (judgeStale_keeps x s).1

theorem isStale_judged {x : Bay} : isStale (judgeStale b s) x = isStale s x := by
  unfold isStale
  rw [judgeStale_clock, judgeStale_settings, judgeStale_lamp]
  split
  case isTrue h => subst h; rfl
  · rfl

theorem judgeStale_marked : marked (judgeStale b s) b := by
  unfold marked
  rw [isStale_judged, judgeStale_lamp, if_pos rfl]

theorem judgeStale_others {x : Bay} (h : marked s x) : marked (judgeStale b s) x := by
  by_cases hx : x = b
  · subst hx
    exact judgeStale_marked
  · unfold marked
    rw [isStale_judged, judgeStale_lamp, if_neg hx]
    exact h

/-! ### The minute told -/

/-- The minute is told, in a state whose clock is SET. -/
theorem minuteTold_told (h : s.clock.isSet = true) : minuteIsTold (minuteTold s) := by
  have clock : (minuteTold s).clock = s.clock := clock_of_frozen (minuteTold_keeps s).1
  have overdue : ∀ x, reported (forAllBays judgeOverdue s) x :=
    forAllBays_each (fun _ _ => judgeOverdue_reported) (fun _ _ _ => judgeOverdue_others)
  have fired : ∀ x, unfired (forAllBays fireIfDue (forAllBays judgeOverdue s)) x :=
    forAllBays_each (fun _ _ => fireIfDue_unfired) (fun _ _ _ => fireIfDue_others)
  have started : ∀ x, reported (forAllBays fireIfDue (forAllBays judgeOverdue s)) x := fun x =>
    forAllBays_keeps (P := fun u => reported u x)
      (fun c u => reported_kept (fireIfDue_keeps c u).1 (fireIfDue_keeps c u).2.1
        (by rw [clear_of_view (fireIfDue_keeps c u).2.2.1.2])) _ (overdue x)
  have ripe : ∀ x, unexpired (forAllBays expireDeferrals (forAllBays fireIfDue (forAllBays judgeOverdue s))) x :=
    forAllBays_each (fun _ _ => expireDeferrals_unexpired) (fun _ _ _ => expireDeferrals_others)
  have waiting : ∀ x,
      reported (forAllBays expireDeferrals (forAllBays fireIfDue (forAllBays judgeOverdue s))) x ∧
        unfired (forAllBays expireDeferrals (forAllBays fireIfDue (forAllBays judgeOverdue s))) x := fun x =>
    forAllBays_keeps (P := fun u => reported u x ∧ unfired u x)
      (fun c u ⟨hr, hf⟩ =>
        ⟨reported_kept (expireDeferrals_keeps c u).1 (expireDeferrals_keeps c u).2.1 expireDeferrals_released hr,
          have heat := heat_of_view (expireDeferrals_keeps c u).2.2.2.2.1 x
          unfired_congr (congrArg HeatRec.state heat) (congrArg HeatRec.plannedStart heat) expireDeferrals_clock hf⟩)
      _ ⟨started x, fired x⟩
  have stale : ∀ x, marked (minuteTold s) x :=
    forAllBays_each (fun _ _ => judgeStale_marked) (fun _ _ _ => judgeStale_others)
  have last : ∀ x, reported (minuteTold s) x ∧ unfired (minuteTold s) x ∧ unexpired (minuteTold s) x := fun x =>
    forAllBays_keeps (P := fun u => reported u x ∧ unfired u x ∧ unexpired u x)
      (fun c u ⟨hr, hf, he⟩ =>
        ⟨reported_kept (judgeStale_keeps c u).1 (judgeStale_keeps c u).2.1 judgeStale_released hr,
          have heat := heat_of_view (judgeStale_keeps c u).2.2.2.2.1 x
          unfired_congr (congrArg HeatRec.state heat) (congrArg HeatRec.plannedStart heat) judgeStale_clock hf,
          by
            unfold unexpired
            rw [faults_of_view (judgeStale_keeps c u).2.2.1, judgeStale_clock]
            exact he⟩)
      _ ⟨(waiting x).1, (waiting x).2, ripe x⟩
  intro x
  obtain ⟨hr, hf, he⟩ := last x
  exact ⟨hr, fun hp m hm => hf hp m hm (by rw [clock]; exact h), he, stale x⟩

theorem minuteTold_departures : (minuteTold s).departures = s.departures :=
  have judged : (forAllBays judgeOverdue s).departures = s.departures :=
    forAllBays_keeps (P := fun u => u.departures = s.departures) (fun _ _ h => judgeOverdue_departures.trans h) s rfl
  have rest : (minuteTold s).bookingsView = (forAllBays judgeOverdue s).bookingsView := by simp [minuteTold]
  (departures_of_view rest).trans judged

/-- What has been told stands in a state with the same records, clock and settings. -/
theorem minuteIsTold_polled (h : minuteIsTold t) : minuteIsTold (pollsHeld s t) := by
  intro x
  obtain ⟨hr, hf, he, hm⟩ := h x
  unfold isStale
  rw [pollsHeld_heat, pollsHeld_clock, pollsHeld_faults, pollsHeld_lamp, pollsHeld_settings]
  refine ⟨?_, hf, he, hm⟩
  rw [isOverdue_congr (s := t) (by rw [departureOf, pollsHeld_table, departureOf]) (pollsHeld_clock s t)
    (by rw [pollsHeld_clear])]
  exact hr

end

/-- Settles O7: each of the four blocks goes over the bays and leaves its own comparison made, and none of those that
follow undoes it. -/
theorem minuteAdvanceIsToldToTheFourBlocks : Obligations.MinuteAdvanceIsToldToTheFourBlocks := by
  unfold Obligations.MinuteAdvanceIsToldToTheFourBlocks
  intro s hreset hset hlow
  have advanced : minuteAdvances s =
      minuteTold { secondsPass (60 - s.clock.seconds) s with
        clock := { minute := s.clock.minute + 1, seconds := 0, isSet := s.clock.isSet } } := by
    unfold minuteAdvances secondsWrap advanceMinute
    rw [if_pos ⟨hset, hlow⟩, if_pos ⟨hset, hlow⟩]
    rfl
  have ran : exec .minuteAdvance s = .next (pollsHeld s (minuteAdvances s)) := by
    show carryOut (outOfReset minuteAdvances) s = _
    rw [carryOut_outOfReset hreset]
  rw [advanced, hset] at ran
  have last : ({ secondsPass (60 - s.clock.seconds) s with
      clock := { minute := s.clock.minute + 1, seconds := 0, isSet := true } } : State).lastSecond =
      s.lastSecond + (60 - s.clock.seconds) * 1000000 := rfl
  have clock : ({ secondsPass (60 - s.clock.seconds) s with
      clock := { minute := s.clock.minute + 1, seconds := 0, isSet := true } } : State).clock =
      { minute := s.clock.minute + 1, seconds := 0, isSet := true } := rfl
  have others : ∀ x : State, x = { secondsPass (60 - s.clock.seconds) s with
      clock := { minute := s.clock.minute + 1, seconds := 0, isSet := true } } →
      x.settings = s.settings ∧ x.profiles = s.profiles ∧ x.lampPlans = s.lampPlans ∧ x.departures = s.departures ∧
        x.readersView = s.readersView := by
    rintro _ rfl
    exact ⟨rfl, rfl, rfl, rfl, rfl⟩
  have others := others _ rfl
  generalize ({ secondsPass (60 - s.clock.seconds) s with
    clock := { minute := s.clock.minute + 1, seconds := 0, isSet := true } } : State) = x at *
  obtain ⟨settings, profiles, plans, list, readers⟩ := others
  obtain ⟨frozen, read⟩ := minuteTold_keeps x
  have told := minuteTold_told (s := x) (by rw [clock])
  have kept := minuteTold_departures (s := x)
  generalize minuteTold x = y at *
  obtain ⟨-, times, depot, lamps⟩ := frozen
  refine ⟨_, ran, ?_, ?_, minuteIsTold_polled told, ?_, ?_, ?_, ?_, fun b => ?_⟩
  · rw [pollsHeld_clock, ← clock]
    exact congrArg (·.1) depot
  · rw [pollsHeld_lastSecond, ← last]
    exact congrArg (·.2) times
  · rw [pollsHeld_settings, ← settings]
    exact congrArg (·.2.1) depot
  · rw [pollsHeld_profiles, ← profiles]
    exact congrArg (·.2.2.2) depot
  · rw [pollsHeld_lampPlans, ← plans]
    exact lamps
  · rw [pollsHeld_departures, kept, list]
  · rw [pollsHeld_reader, reader_of_view read, reader_of_view readers]

end Sys2Proof.Machine
end

section
/-! PROOF. No timer moves as the minute is told (spec 03, R48). -/

namespace Sys2Proof.Machine

section
variable {s t u : State} {b : Bay}

/-! ### The timers of one bay -/

/-- The waits of an open entry after a BUSY. -/
def Lane.waits (l : Lane) : Option (Option Moment × Option Moment) := l.opened.map fun e => (e.rejoinAt, e.firstBusy)

/-- The clearance timers stand; the validity goes only with its CLEARED state. -/
structure ClearRec.TimersStand (c c' : ClearRec) : Prop where
  stop : c'.stopFrom = c.stopFrom
  latch : c'.latchFrom = c.latchFrom
  window : c'.windowFrom = c.windowFrom
  relatch : c'.relatchAt = c.relatchAt
  validity : c'.state = .cleared → c.state = .cleared ∧ c'.validityFrom = c.validityFrom

theorem ClearRec.TimersStand.refl {c : ClearRec} : c.TimersStand c := ⟨rfl, rfl, rfl, rfl, fun h => ⟨h, rfl⟩⟩

theorem ClearRec.TimersStand.trans {c c' c'' : ClearRec} (h : c.TimersStand c') (k : c'.TimersStand c'') :
    c.TimersStand c'' :=
  ⟨k.stop.trans h.stop, k.latch.trans h.latch, k.window.trans h.window, k.relatch.trans h.relatch, fun hc =>
    ⟨(h.validity (k.validity hc).1).1, (k.validity hc).2.trans (h.validity (k.validity hc).1).2⟩⟩

/-- A bay's timers stand; a stuck watch may end with a STAGE asked at `now`. -/
structure BayRec.TimersStand (now : Moment) (r r' : BayRec) : Prop where
  step : r'.power.lastIncrease = r.power.lastIncrease
  watch : r'.power.watch = r.power.watch ∨ r'.power.watch = none ∧ r'.lamp.latestStage = some now
  latest : r'.lamp.latestStage = r.lamp.latestStage ∨ r'.lamp.latestStage = some now
  clear : r.clear.TimersStand r'.clear
  retry : r'.lamp.offRetryAt = r.lamp.offRetryAt
  waits : ∀ sort, (r'.loop.lane sort).waits = (r.loop.lane sort).waits
  poll : r'.loop.poll = r.loop.poll
  occ : r'.table.occ = r.table.occ

namespace BayRec.TimersStand

variable {now : Moment} {r r' r'' : BayRec}

theorem refl : r.TimersStand now r := ⟨rfl, .inl rfl, .inl rfl, .refl, rfl, fun _ => rfl, rfl, rfl⟩

theorem trans (h : r.TimersStand now r') (k : r'.TimersStand now r'') : r.TimersStand now r'' where
  step := k.step.trans h.step
  watch := by
    obtain same | ended := k.watch
    · obtain first | ⟨gone, told⟩ := h.watch
      · exact .inl (same.trans first)
      · exact .inr ⟨same.trans gone, k.latest.elim (·.trans told) id⟩
    · exact .inr ended
  latest := by
    obtain same | told := k.latest
    · exact h.latest.imp same.trans same.trans
    · exact .inr told
  clear := h.clear.trans k.clear
  retry := k.retry.trans h.retry
  waits sort := (k.waits sort).trans (h.waits sort)
  poll := k.poll.trans h.poll
  occ := k.occ.trans h.occ

end BayRec.TimersStand

/-! ### The timers of the state -/

/-- Every timer of the state stands. -/
structure TimersStand (s t : State) : Prop where
  time : t.time = s.time
  second : t.lastSecond = s.lastSecond
  restore : t.supply.restoreFrom = s.supply.restoreFrom
  spacing : t.supply.lastIncrease = s.supply.lastIncrease
  visit : t.visit = s.visit
  slots : t.slots = s.slots
  line : t.line = s.line
  bays : ∀ b, (s.bay b).TimersStand s.time (t.bay b)

namespace TimersStand

theorem refl : TimersStand s s := ⟨rfl, rfl, rfl, rfl, rfl, rfl, rfl, fun _ => .refl⟩

theorem trans (h : TimersStand s t) (k : TimersStand t u) : TimersStand s u :=
  ⟨k.time.trans h.time, k.second.trans h.second, k.restore.trans h.restore, k.spacing.trans h.spacing,
    k.visit.trans h.visit, k.slots.trans h.slots, k.line.trans h.line,
    fun b => (h.bays b).trans (h.time ▸ k.bays b)⟩

/-- A change of one bay's record. -/
theorem updBay {f : BayRec → BayRec} (hf : (s.bay b).TimersStand s.time (f (s.bay b))) :
    TimersStand s (updBay b f s) where
  time := rfl
  second := rfl
  restore := rfl
  spacing := rfl
  visit := rfl
  slots := rfl
  line := rfl
  bays x := by
    rw [updBay_bay]
    split
    case isTrue hx => subst hx; exact hf
    · exact .refl

theorem onlyIf {c : Bool} {f : State → State} (hf : ∀ u, TimersStand u (f u)) : TimersStand s (onlyIf c f s) := by
  cases c with
  | true => exact hf s
  | false => exact refl

theorem forAllBays {f : Bay → State → State} (hf : ∀ b u, TimersStand u (f b u)) : TimersStand s (forAllBays f s) :=
  forAllBays_keeps (P := TimersStand s) (fun b u h => h.trans (hf b u)) s .refl

/-- The ports alone. -/
theorem post {e : BayEvent} {x : Bay} : TimersStand s (post e x s) :=
  ⟨rfl, rfl, rfl, rfl, rfl, rfl, rfl, fun _ => .refl⟩

end TimersStand

/-! ### The Planner and the allocator -/

theorem join_waits {now : Moment} {onLine : Bool} {req : LoopReq} {l : Lane} :
    (l.join onLine now req).waits = l.waits := by
  obtain ⟨o, q⟩ := l
  unfold Lane.join Lane.waits
  cases q with
  | some q => rfl
  | none =>
    cases o with
    | none => rfl
    | some o => cases onLine <;> rfl

theorem joinStage_timers {target : Nat} {increase : Bool} : TimersStand s (joinStage b target increase s) := by
  unfold joinStage updLane updLoop
  refine TimersStand.updBay ⟨rfl, .inl rfl, .inl rfl, .refl, rfl, fun sort => ?_, rfl, rfl⟩
  rw [setLane_lane]
  split
  case isTrue h => rw [h.1, join_waits]
  · rfl

theorem noteStage_timers {target : Nat} :
    TimersStand s (noteStage b (updPower b (fun p => { p with commanded := target, watch := none }) s)) where
  time := rfl
  second := rfl
  restore := rfl
  spacing := rfl
  visit := rfl
  slots := rfl
  line := rfl
  bays x := by
    unfold noteStage
    rw [updLamp_bay]
    split
    case isTrue hx =>
      subst hx
      rw [updPower_bay_self]
      exact ⟨rfl, .inr ⟨rfl, rfl⟩, .inr rfl, .refl, rfl, fun _ => rfl, rfl, rfl⟩
    case isFalse hx =>
      rw [updPower_bay_ne hx]
      exact .refl

theorem Plans.timers (h : Plans s t) : TimersStand s t := by
  induction h with
  | refl => exact .refl
  | heat _ _ ih => exact ih.trans (.updBay ⟨rfl, .inl rfl, .inl rfl, .refl, rfl, fun _ => rfl, rfl, rfl⟩)
  | power _ hf _ ih =>
    exact ih.trans (.updBay ⟨(hf _).2.2, .inl (hf _).2.1, .inl rfl, .refl, rfl, fun _ => rfl, rfl, rfl⟩)
  | told _ _ ih => exact ih.trans noteStage_timers
  | free _ ih => exact ih.trans ⟨rfl, rfl, rfl, rfl, rfl, rfl, rfl, fun _ => .refl⟩
  | join _ _ ih => exact ih.trans joinStage_timers
  | post _ _ ih => exact ih.trans .post

/-! ### The Bay Table, the Fault Pool, the Lamp Check Engine and the Clearance Unit -/

theorem clearanceNews_timers {r : Reason} : TimersStand s (clearanceNews b r s) := by
  unfold clearanceNews
  split
  case h_1 =>
    exact (TimersStand.updBay
      ⟨rfl, .inl rfl, .inl rfl, ⟨rfl, rfl, rfl, rfl, fun h => absurd h (by simp)⟩, rfl, fun _ => rfl, rfl, rfl⟩).trans .post
  case h_2 =>
    exact .updBay ⟨rfl, .inl rfl, .inl rfl, ⟨rfl, rfl, rfl, rfl, fun h => ⟨h, rfl⟩⟩, rfl, fun _ => rfl, rfl, rfl⟩
  all_goals exact .refl

theorem judgeOverdue_timers : TimersStand s (judgeOverdue b s) := by
  unfold judgeOverdue
  split
  · have marked : TimersStand s
        (updTable b (fun t => { t with departure := t.departure.map fun d => { d with overdue := true } }) s) :=
      .updBay ⟨rfl, .inl rfl, .inl rfl, .refl, rfl, fun _ => rfl, rfl, rfl⟩
    have revised : ∀ u, TimersStand u (departuresChanged u) := fun u =>
      ⟨rfl, rfl, rfl, rfl, rfl, rfl, rfl, fun _ => .refl⟩
    exact (marked.trans (revised _)).trans .post
  · exact .refl

theorem expireDeferrals_timers : TimersStand s (expireDeferrals b s) := by
  unfold expireDeferrals
  have listed : ∀ f : FaultRec → FaultRec, TimersStand s (updFaults b f s) := fun f =>
    .updBay ⟨rfl, .inl rfl, .inl rfl, .refl, rfl, fun _ => rfl, rfl, rfl⟩
  exact (listed _).trans (.onlyIf fun _ => clearanceNews_timers)

theorem judgeStale_timers : TimersStand s (judgeStale b s) := by
  unfold judgeStale
  have marked : TimersStand s (updLamp b (fun l => { l with stale := isStale s b }) s) :=
    .updBay ⟨rfl, .inl rfl, .inl rfl, .refl, rfl, fun _ => rfl, rfl, rfl⟩
  exact marked.trans (.onlyIf fun _ => clearanceNews_timers)

theorem minuteTold_timers : TimersStand s (minuteTold s) := by
  have overdue : TimersStand s (forAllBays judgeOverdue s) := .forAllBays fun _ _ => judgeOverdue_timers
  have fired : ∀ u, TimersStand u (forAllBays fireIfDue u) := fun u => .forAllBays fun _ _ => (fireIfDue_plans .refl).timers
  have expired : ∀ u, TimersStand u (forAllBays expireDeferrals u) := fun u =>
    .forAllBays fun _ _ => expireDeferrals_timers
  have stale : ∀ u, TimersStand u (forAllBays judgeStale u) := fun u => .forAllBays fun _ _ => judgeStale_timers
  exact ((overdue.trans (fired _)).trans (expired _)).trans (stale _)

/-! ### The polls -/

/-- The probe of a LOST bay stands. -/
theorem heldPoll_probeFalls (hp : (t.bay b).loop.poll = (s.bay b).loop.poll)
    (ho : (t.bay b).table.occ = (s.bay b).table.occ) :
    probeFallsDueAt (pollsHeld s t) b = probeFallsDueAt s b := by
  unfold probeFallsDueAt
  rw [pollsHeld_table, ho, pollsHeld_loop]
  dsimp only
  cases hs : (s.bay b).loop.poll with
  | probe due => rw [heldPoll_probe (hp.trans hs)]
  | idle => rw [heldPoll_idle (hp.trans hs)]
  | sweep age =>
    have held : heldPoll s t b = .sweep age := by unfold heldPoll; rw [hp, hs]
    rw [held]
  | classed lastEnd =>
    have held : ∀ m, heldPoll s t b ≠ .probe m := by
      intro m
      unfold heldPoll
      rw [hp, hs]
      split
      · split <;> simp
      · simp
      case h_3 h => simp
    split
    case h_1 m h => exact absurd h (held m)
    all_goals rfl
  | held lastEnd due promoted =>
    have held : heldPoll s t b = .held lastEnd due (promoted || leavesPromoted s t b due) := by unfold heldPoll; rw [hp, hs]
    rw [held]

theorem pollsHeld_period (s t : State) (b : Bay) : pollPeriod (pollsHeld s t) b = pollPeriod t b :=
  pollPeriod_congr (by rw [pollsHeld_table]) (by rw [pollsHeld_power]) (by rw [pollsHeld_power]) (by rw [pollsHeld_lamp])
    (by unfold inRelease; rw [pollsHeld_clear]) (by rw [pollsHeld_visit])

/-- The timers kept, in the obligation's own words. -/
theorem TimersStand.kept (h : TimersStand s t) : timersKept s (pollsHeld s t) := by
  unfold timersKept
  rw [pollsHeld_time, pollsHeld_lastSecond, pollsHeld_supply, pollsHeld_visit, pollsHeld_slots, pollsHeld_line]
  refine ⟨h.time, h.second, h.restore, h.spacing, h.visit, h.slots, h.line, fun b => ?_⟩
  have k := h.bays b
  rw [pollsHeld_power, pollsHeld_clear, pollsHeld_lamp]
  refine ⟨k.step, k.watch, k.clear.stop, k.clear.latch, k.clear.window, k.clear.relatch, fun hc => (k.clear.validity hc).2,
    k.retry, fun sort _ => ?_, heldPoll_probeFalls k.poll k.occ, fun hp => ?_⟩
  · rw [pollsHeld_laneOf]
    exact k.waits sort
  · rw [pollsHeld_loop]
    exact (heldPoll_of_period ((pollsHeld_period ..).symm.trans hp)).trans k.poll

end

end Sys2Proof.Machine
end

section
/-! PROOF. SET_CLOCK and SET_OUTSIDE (spec 03, R47; spec 04, R71, R91), the heat-up time as numbers (spec 04, R74), and
requests that are refused (spec 01, R22, R23; spec 06, R132; spec 08, R154). -/

namespace Sys2Proof.Machine

section
variable {s t u : State} {b : Bay}

/-! ### What may still be planned (spec 04, R76, R91) -/

/-- No bay in OFF is left that may be planned. -/
def planned (s : State) (b : Bay) : Prop := mayPlan s b = false

/-- A bay may be planned no more where nothing but its heat state has moved, and not to OFF. -/
theorem planned_kept {x : Bay} (hs : (t.bay x).heat.state = .off → (s.bay x).heat.state = .off)
    (hp : (t.bay x).heat.profile = (s.bay x).heat.profile) (ho : (t.bay x).table.occ = (s.bay x).table.occ)
    (hd : (departureOf t x).isSome = (departureOf s x).isSome) (hc : t.clock = s.clock)
    (hr : inRelease t x = inRelease s x) (h : planned s x) : planned t x := by
  unfold planned mayPlan at *
  rw [hp, ho, hd, hc, hr]
  by_cases off : (t.bay x).heat.state = .off
  · rw [hs off] at h
    rw [off]
    exact h
  · rw [beq_eq_false_iff_ne.mpr off]
    rfl

theorem inRelease_of_clears (h : t.clearsView = s.clearsView) {x : Bay} : inRelease t x = inRelease s x := by
  unfold inRelease
  rw [clear_of_view h]

/-- A plan or a start of the bay leaves its heat record out of OFF, or as it was. -/
theorem fireIfDue_off (h : ((fireIfDue b s).bay b).heat.state = .off) : (s.bay b).heat.state = .off := by
  unfold fireIfDue at h
  split at h
  · split at h
    · obtain h' | h' := started_state (s := s) (b := b) <;> rw [h'] at h <;> exact absurd h (by simp)
    · exact h
  · exact h

theorem fireIfDue_planned {x : Bay} (h : planned s x) : planned (fireIfDue b s) x := by
  obtain ⟨frozen, records, faults, -⟩ := fireIfDue_keeps b s
  have plans : Plans s (fireIfDue b s) := fireIfDue_plans .refl
  refine planned_kept ?_ (plans.rests x).profile ?_ ?_ (clock_of_frozen frozen) (inRelease_of_clears faults.2) h
  · by_cases hx : x = b
    · subst hx
      exact fireIfDue_off
    · intro off
      rw [← off, (fireIfDue_but x hx).state]
  · rw [table_of_view records.2]
  · rw [departureOf, table_of_view records.2, departureOf]

/-- A bay that may be planned is planned. -/
theorem judgePlan_own : planned (judgePlan b s) b := by
  unfold judgePlan
  split
  case isTrue h =>
    set y := updHeat b (fun h => { h with state := .planned }) s
    have state : ((plan b y).bay b).heat.state = .planned := by
      unfold plan
      split
      · rw [updHeat_bay_self, updHeat_bay_self]
      · rw [updHeat_bay_self]
    unfold planned mayPlan
    have left : ((replan b y).bay b).heat.state ≠ .off := fun off => by
      have := fireIfDue_off off
      rw [state] at this
      exact absurd this (by simp)
    rw [beq_eq_false_iff_ne.mpr left]
    rfl
  case isFalse h => exact Bool.eq_false_iff.mpr h

theorem judgePlan_planned {x : Bay} (h : planned s x) : planned (judgePlan b s) x := by
  by_cases hx : x = b
  · subst hx
    exact judgePlan_own
  · have plans : Plans s (judgePlan b s) := judgePlan_plans .refl
    have kept : Frozen s (judgePlan b s) ∧ SameRecords s (judgePlan b s) ∧ SameFaults s (judgePlan b s) := by
      simp [Frozen, SameRecords, SameFaults]
    obtain ⟨frozen, records, faults⟩ := kept
    refine planned_kept (fun off => ?_) (plans.rests x).profile ?_ ?_ (clock_of_frozen frozen)
      (inRelease_of_clears faults.2) h
    · rw [← off, (judgePlan_but x hx).state]
    · rw [table_of_view records.2]
    · rw [departureOf, table_of_view records.2, departureOf]

theorem judgeOverdue_planned {x : Bay} (h : planned s x) : planned (judgeOverdue b s) x := by
  obtain ⟨frozen, faults, -, -, heats, -⟩ := judgeOverdue_keeps b s
  have heat := heat_of_view heats x
  refine planned_kept (fun off => by rw [← off, heat]) (by rw [heat]) ?_ ?_ (clock_of_frozen frozen)
    (inRelease_of_clears faults.2) h
  · rw [judgeOverdue_table]
    split
    case isTrue hx => subst hx; rfl
    · rfl
  · rw [departureOf, judgeOverdue_table]
    split
    case isTrue hx =>
      subst hx
      show ((departureOf s x).map (judged s x)).isSome = _
      rw [Option.isSome_map]
    · rfl

/-- The news neither begin nor end a release. -/
theorem clearanceNews_inRelease {x : Bay} {r : Reason} : inRelease (clearanceNews b r s) x = inRelease s x := by
  unfold inRelease
  by_cases hx : x = b
  · subst hx
    unfold clearanceNews
    cases h : (s.bay x).clear.state <;> simp [postClearance, h]
  · have same : ((clearanceNews b r s).bay x).clear = (s.bay x).clear := by
      unfold clearanceNews
      split
      case h_1 => rw [postClearance, post_bay, updClear_bay_ne hx]
      case h_2 => rw [updClear_bay_ne hx]
      all_goals rfl
    rw [same]

theorem onlyIf_news_inRelease {x : Bay} {r : Reason} {c : Bool} :
    inRelease (onlyIf c (clearanceNews b r) s) x = inRelease s x := by
  cases c with
  | true => exact clearanceNews_inRelease
  | false => rfl

theorem expireDeferrals_planned {x : Bay} (h : planned s x) : planned (expireDeferrals b s) x := by
  obtain ⟨frozen, records, -, -, heats, -⟩ := expireDeferrals_keeps b s
  have heat := heat_of_view heats x
  refine planned_kept (fun off => by rw [← off, heat]) (by rw [heat]) ?_ ?_ (clock_of_frozen frozen) ?_ h
  · rw [table_of_view records.2]
  · rw [departureOf, table_of_view records.2, departureOf]
  · unfold expireDeferrals
    rw [onlyIf_news_inRelease]
    unfold inRelease
    rw [updFaults_clear]

theorem judgeStale_planned {x : Bay} (h : planned s x) : planned (judgeStale b s) x := by
  obtain ⟨frozen, records, -, -, heats, -⟩ := judgeStale_keeps b s
  have heat := heat_of_view heats x
  refine planned_kept (fun off => by rw [← off, heat]) (by rw [heat]) ?_ ?_ (clock_of_frozen frozen) ?_ h
  · rw [table_of_view records.2]
  · rw [departureOf, table_of_view records.2, departureOf]
  · unfold judgeStale
    rw [onlyIf_news_inRelease]
    unfold inRelease
    rw [updLamp_clear]

theorem minuteTold_planned (h : ∀ x, planned s x) (x : Bay) : planned (minuteTold s) x := by
  have kept : ∀ (f : Bay → State → State) (u : State), (∀ c v, planned v x → planned (f c v) x) →
      planned u x → planned (forAllBays f u) x := fun f u hf hu =>
    forAllBays_keeps (P := fun v => planned v x) hf u hu
  unfold minuteTold
  refine kept _ _ (fun _ _ => judgeStale_planned) ?_
  refine kept _ _ (fun _ _ => expireDeferrals_planned) ?_
  refine kept _ _ (fun _ _ => fireIfDue_planned) ?_
  exact kept _ _ (fun _ _ => judgeOverdue_planned) (h x)

/-! ### SET_CLOCK (spec 03, R47) -/

/-- The state with the clock written, and the bays in OFF planned where it was the first time. -/
def clockWritten (minute : Nat) (s : State) : State :=
  onlyIf (!s.clock.isSet) (forAllBays judgePlan) { s with clock := { minute := minute, seconds := 0, isSet := true } }

theorem clockWritten_plans {minute : Nat} :
    Plans { s with clock := { minute := minute, seconds := 0, isSet := true } } (clockWritten minute s) :=
  Plans.refl.onlyIf fun _ => .forAllBays (fun _ _ => judgePlan_plans) .refl

theorem takeSetClock_eq {minute : Nat} (h : minute ≤ 16777215) :
    takeSetClock minute s = done (minuteTold (clockWritten minute s)) := by
  unfold takeSetClock
  rw [if_neg (by unfold Config.maxMinute; omega)]
  rfl

theorem clockWritten_timers {minute : Nat} : TimersStand s (clockWritten minute s) := by
  have written : TimersStand s { s with clock := { minute := minute, seconds := 0, isSet := true } } :=
    ⟨rfl, rfl, rfl, rfl, rfl, rfl, rfl, fun _ => .refl⟩
  exact written.trans clockWritten_plans.timers

theorem clockWritten_planned {minute : Nat} (h : s.clock.isSet = false) (x : Bay) : planned (clockWritten minute s) x := by
  unfold clockWritten
  rw [h, Bool.not_false, onlyIf_true]
  exact forAllBays_each (P := planned) (fun _ _ => judgePlan_own) (fun _ _ _ => judgePlan_planned) x

theorem answerPort_timers {p : Port} {r : Response} : TimersStand s (answerPort p r s) :=
  ⟨rfl, rfl, rfl, rfl, rfl, rfl, rfl, fun _ => .refl⟩

theorem minuteIsTold_answered {p : Port} {r : Response} (h : minuteIsTold t) : minuteIsTold (answerPort p r t) := h

/-- The answer and the holding of due polls leave what may be planned. -/
theorem planned_answered {p : Port} {r : Response} (h : planned t b) : planned (pollsHeld s (answerPort p r t)) b := by
  refine planned_kept (s := t) (fun off => ?_) ?_ ?_ ?_ ?_ ?_ h
  · rw [pollsHeld_heat] at off
    exact off
  · rw [pollsHeld_heat]
    rfl
  · rw [pollsHeld_table]
    rfl
  · rw [departureOf, pollsHeld_table]
    rfl
  · rw [pollsHeld_clock]
    rfl
  · unfold inRelease
    rw [pollsHeld_clear]
    rfl

theorem setClock_taken {minute : Nat} (ht : takes .schedule s) (hm : minute ≤ 16777215) :
    ∃ t, exec (.setClock .schedule minute) s = .next t ∧
      t.clock = { minute := minute, seconds := 0, isSet := true } ∧
        answered .schedule { echo := 1, result := .done, payload := [] } t ∧ minuteIsTold t ∧ timersKept s t ∧
        (s.clock.isSet = false → ∀ x : Bay, mayPlan t x = false) := by
  have owner : handle .schedule { bay := noBay, body := .setClock minute } s =
      done (minuteTold (clockWritten minute s)) := takeSetClock_eq hm
  have ran := exec_done (i := .setClock .schedule minute) (k := 1) rfl rfl ht (by decide) owner
  have clock : (clockWritten minute s).clock = { minute := minute, seconds := 0, isSet := true } :=
    (Work.refl.plans clockWritten_plans : Work .none _ _).outside.clock
  have first := clockWritten_planned (s := s) (minute := minute)
  have timers := clockWritten_timers (s := s) (minute := minute)
  generalize clockWritten minute s = x at *
  have after : (minuteTold x).clock = x.clock := clock_of_frozen (minuteTold_keeps x).1
  have told := minuteTold_told (s := x) (by rw [clock])
  have planning := fun h => minuteTold_planned (s := x) (first h)
  have all := timers.trans minuteTold_timers
  generalize minuteTold x = y at *
  refine ⟨_, ran, ?_, answered_polled, minuteIsTold_polled (minuteIsTold_answered told), ?_, fun h b => ?_⟩
  · rw [pollsHeld_clock, ← clock, ← after]
    rfl
  · exact (all.trans answerPort_timers).kept
  · exact planned_answered (planning h b)

/-! ### SET_OUTSIDE (spec 04, R71) -/

/-- The planned start and UNREACHABLE are those of R75 where the bay is PLANNED. -/
def planFits (s : State) (x : Bay) : Prop :=
  (s.bay x).heat.state = .planned → ∀ pr ∈ (s.bay x).heat.profile, ∀ d ∈ departureOf s x,
    (s.bay x).heat.plannedStart =
        some (d.minute - plannedLead (plannedHeatUp s pr d (s.bay x).heat.cabin) pr.margin) ∧
      (s.bay x).heat.unreachable = (plannedHeatUp s pr d (s.bay x).heat.cabin).isNone

/-- The plan rests on the heat record, the departure record and the outside temperature. -/
theorem planFits_congr {x : Bay} (h : (s.bay x).heat.Steady (t.bay x).heat) (hd : departureOf t x = departureOf s x)
    (ho : t.outside = s.outside) (hf : planFits s x) : planFits t x := by
  unfold planFits plannedHeatUp at *
  rw [h.state, h.profile, h.plannedStart, h.unreachable, h.cabin, hd, ho]
  exact hf

theorem plan_fits : planFits (plan b s) b := by
  unfold planFits
  intro _ pr hpr d hd
  have table : (plan b s).tablesView = s.tablesView := by simp
  have outside : (plan b s).outside = s.outside := congrArg (·.2.2.1) (plan_keeps b s).1.2.2.1
  have record : departureOf s b = some d := by
    rw [departureOf, table_of_view table] at hd
    exact hd
  have profile : (s.bay b).heat.profile = some pr := by
    have plans : Plans s (plan b s) := plan_plans .refl
    rw [← (plans.rests b).profile]
    exact hpr
  unfold plannedHeatUp
  rw [outside]
  unfold plan
  rw [profile, record]
  dsimp only
  rw [updHeat_bay_self]
  exact ⟨rfl, rfl⟩

theorem fireIfDue_fits (h : planFits s b) : planFits (fireIfDue b s) b := by
  by_cases hp : ((fireIfDue b s).bay b).heat.state = .planned
  · have still : fireIfDue b s = s := by
      unfold fireIfDue at hp ⊢
      split
      · split
        case isTrue hdue =>
          exfalso
          simp only [*, and_self, if_true] at hp
          obtain h' | h' := started_state (s := s) (b := b) <;> rw [h'] at hp <;> exact absurd hp (by simp)
        · rfl
      · rfl
    rw [still]
    exact h
  · exact fun h0 => absurd h0 hp

theorem outsideChanged_own : planFits (outsideChanged b s) b := by
  unfold outsideChanged
  split
  case h_1 => exact fireIfDue_fits plan_fits
  case h_2 h =>
    intro hp
    rw [(project_steady b).state, h] at hp
    exact absurd hp (by simp)
  all_goals
    rename_i h
    intro hp
    rw [h] at hp
    exact absurd hp (by simp)

theorem outsideChanged_but : SteadyBut b s (outsideChanged b s) := by
  unfold outsideChanged
  split
  case h_1 => exact replan_but
  case h_2 => exact project_steady.but
  all_goals exact .refl

theorem outsideChanged_fits {x : Bay} (h : planFits s x) : planFits (outsideChanged b s) x := by
  by_cases hx : x = b
  · subst hx
    exact outsideChanged_own
  · obtain ⟨frozen, records, -, -⟩ := outsideChanged_keeps b s
    exact planFits_congr (outsideChanged_but x hx) (by rw [departureOf, table_of_view records.2, departureOf])
      (congrArg (·.2.2.1) frozen.2.2.1) h

theorem setOutside_taken {o : Int} (ht : takes .schedule s) (hl : -500 ≤ o) (hu : o ≤ 500) :
    ∃ t, exec (.setOutside .schedule o) s = .next t ∧ ∀ x : Bay, planFits t x := by
  have owner : handle .schedule { bay := noBay, body := .setOutside o } s =
      done (forAllBays outsideChanged { s with outside := o }) := by
    show takeSetOutside o s = _
    unfold takeSetOutside
    rw [if_neg (by omega)]
  have ran := exec_done (i := .setOutside .schedule o) (k := 2) rfl rfl ht (by decide) owner
  have fits : ∀ x, planFits (forAllBays outsideChanged { s with outside := o }) x :=
    forAllBays_each (fun _ _ => outsideChanged_own) (fun _ _ _ => outsideChanged_fits)
  generalize forAllBays outsideChanged { s with outside := o } = y at *
  refine ⟨_, ran, fun x => planFits_congr (s := y) ?_ ?_ ?_ (fits x)⟩
  · rw [pollsHeld_heat]
    exact .refl
  · rw [departureOf, pollsHeld_table]
    rfl
  · rw [pollsHeld_outside]
    rfl

/-! ### The heat-up time as numbers (spec 04, R74) -/

section
variable {stages gain loss : Nat} {cabin target o : Int}

theorem heatUpTime_noRise (h : target ≤ cabin) : heatUpTime stages gain loss cabin target o = some 0 := by
  unfold heatUpTime
  dsimp only
  rw [if_pos (by omega)]

theorem heatUpTime_unreachable (h : cabin < target)
    (hr : (stages : Int) * gain ≤ max 0 ((cabin + target) / 2 - o) * loss / 1024) :
    heatUpTime stages gain loss cabin target o = none := by
  unfold heatUpTime
  dsimp only
  rw [if_neg (by omega), if_pos (by omega)]

/-- The least whole number of minutes of a positive rate that reaches a gain. -/
theorem leastMinutes {gained rate : Int} (hg : 0 ≤ gained) (hr : 0 < rate) :
    gained ≤ ((gained + rate - 1) / rate).toNat * rate ∧ ((gained + rate - 1) / rate).toNat * rate < gained + rate := by
  have nonneg : 0 ≤ (gained + rate - 1) / rate := Int.ediv_nonneg (by omega) hr.le
  rw [Int.toNat_of_nonneg nonneg]
  have low := Int.ediv_mul_le (gained + rate - 1) hr.ne'
  have high := Int.lt_ediv_add_one_mul_self (gained + rate - 1) hr
  rw [Int.add_mul, Int.one_mul] at high
  constructor <;> omega

theorem heatUpTime_least (h : cabin < target)
    (hr : max 0 ((cabin + target) / 2 - o) * loss / 1024 < (stages : Int) * gain) :
    ((heatUpTime stages gain loss cabin target o).any fun m =>
      decide
        (10 * (target - cabin) ≤ m * ((stages : Int) * gain - max 0 ((cabin + target) / 2 - o) * loss / 1024) ∧
          m * ((stages : Int) * gain - max 0 ((cabin + target) / 2 - o) * loss / 1024) <
            10 * (target - cabin) +
              ((stages : Int) * gain - max 0 ((cabin + target) / 2 - o) * loss / 1024))) = true := by
  have minutes := leastMinutes (gained := 10 * (target - cabin))
    (rate := (stages : Int) * gain - max 0 ((cabin + target) / 2 - o) * loss / 1024) (by omega) (by omega)
  have time : heatUpTime stages gain loss cabin target o =
      some ((10 * (target - cabin) + ((stages : Int) * gain - max 0 ((cabin + target) / 2 - o) * loss / 1024) - 1) /
        ((stages : Int) * gain - max 0 ((cabin + target) / 2 - o) * loss / 1024)).toNat := by
    unfold heatUpTime
    dsimp only
    rw [if_neg (by omega), if_neg (by omega)]
  rw [time]
  exact decide_eq_true minutes

end

/-! ### Refused requests -/

theorem setDeparture_wrongState {minute expected : Nat} {target : Int} (ht : takes .schedule s)
    (h : (s.bay b).table.occ = .outOfService ∨ inRelease s b = true) :
    exec (.setDeparture .schedule b.val minute target expected) s =
      .next (answerPort .schedule { echo := 8, result := .wrongState, payload := [] } s) := by
  refine exec_refused (k := 8) (body := .setDeparture minute target expected) rfl rfl ht (by decide) ?_
  show withBay b.val (fun b => takeSetDeparture b minute target expected) s = _
  rw [withBay_val, takeSetDeparture, if_pos h]

theorem setDeparture_outOfRange {minute expected : Nat} {target : Int} (ht : takes .schedule s)
    (ho : (s.bay b).table.occ ≠ .outOfService) (hr : inRelease s b = false) (hm : 16777215 < minute) :
    exec (.setDeparture .schedule b.val minute target expected) s =
      .next (answerPort .schedule { echo := 8, result := .outOfRange, payload := [] } s) := by
  refine exec_refused (k := 8) (body := .setDeparture minute target expected) rfl rfl ht (by decide) ?_
  show withBay b.val (fun b => takeSetDeparture b minute target expected) s = _
  rw [withBay_val, takeSetDeparture, if_neg (by simp [ho, hr]), if_pos hm]

theorem cancelDeparture_wrongState (ht : takes .schedule s) (hd : departureOf s b ≠ none) (hr : inRelease s b = true) :
    exec (.cancelDeparture .schedule b.val) s =
      .next (answerPort .schedule { echo := 9, result := .wrongState, payload := [] } s) := by
  refine exec_refused (k := 9) (body := .cancelDeparture) rfl rfl ht (by decide) ?_
  show withBay b.val takeCancelDeparture s = _
  rw [withBay_val, takeCancelDeparture, if_neg (by simpa using hd), if_pos hr]

theorem placeHold_outOfRange {tag reason : Nat} (ht : takes .workshop s) (h : tag = 0 ∨ 15 < reason) :
    exec (.placeHold .workshop b.val tag reason) s =
      .next (answerPort .workshop { echo := 20, result := .outOfRange, payload := [] } s) := by
  refine exec_refused (k := 20) (body := .placeHold tag reason) rfl rfl ht (by decide) ?_
  show withBay b.val (fun b => takePlaceHold b tag reason) s = _
  rw [withBay_val, takePlaceHold, if_pos h]

theorem placeHold_inUse {tag reason : Nat} (ht : takes .workshop s) (h0 : tag ≠ 0) (hr : reason ≤ 15)
    (hc : holdsCoach s b = true) (h : ∃ h ∈ (s.bay b).clear.holds, h.tag = tag) :
    exec (.placeHold .workshop b.val tag reason) s =
      .next (answerPort .workshop { echo := 20, result := .inUse, payload := [] } s) := by
  refine exec_refused (k := 20) (body := .placeHold tag reason) rfl rfl ht (by decide) ?_
  show withBay b.val (fun b => takePlaceHold b tag reason) s = _
  rw [withBay_val, takePlaceHold, if_neg (by omega), if_neg (by simp [hc]), if_pos (by simpa using h)]

theorem clearFault_outOfRange {source code : Nat} (ht : takes .workshop s) (h : 15 < source) :
    exec (.clearFault .workshop b.val source code) s =
      .next (answerPort .workshop { echo := 18, result := .outOfRange, payload := [] } s) := by
  refine exec_refused (k := 18) (body := .clearFault source code) rfl rfl ht (by decide) ?_
  show withBay b.val (fun b => takeClear b source code) s = _
  rw [withBay_val, takeClear, if_pos h]

theorem setClock_outOfRange {minute : Nat} (ht : takes .schedule s) (h : 16777215 < minute) :
    exec (.setClock .schedule minute) s =
      .next (answerPort .schedule { echo := 1, result := .outOfRange, payload := [] } s) := by
  refine exec_refused (n := noBay) (k := 1) (body := .setClock minute) rfl rfl ht (by decide) ?_
  show takeSetClock minute s = _
  rw [takeSetClock, if_pos h]

theorem setOutside_outOfRange {o : Int} (ht : takes .schedule s) (h : o < -500 ∨ 500 < o) :
    exec (.setOutside .schedule o) s =
      .next (answerPort .schedule { echo := 2, result := .outOfRange, payload := [] } s) := by
  refine exec_refused (n := noBay) (k := 2) (body := .setOutside o) rfl rfl ht (by decide) ?_
  show takeSetOutside o s = _
  rw [takeSetOutside, if_pos h]

end

/-- Settles O8: the clock and the weather go over the bays, each bay's comparison or plan made where it is met; the
arithmetic of R74; and the refusals, one for each row. -/
theorem clockWeatherAndBadRequestsAreTaken : Obligations.ClockWeatherAndBadRequestsAreTaken := by
  unfold Obligations.ClockWeatherAndBadRequestsAreTaken
  intro b minute expected tag reason source code stages gain loss target cabin o s
  exact ⟨setClock_taken, setClock_outOfRange, setOutside_outOfRange, setOutside_taken, heatUpTime_noRise,
    heatUpTime_unreachable, heatUpTime_least, ⟨by decide, by decide, by decide⟩, setDeparture_wrongState,
    setDeparture_outOfRange, cancelDeparture_wrongState, placeHold_outOfRange, placeHold_inUse, clearFault_outOfRange⟩

end Sys2Proof.Machine
end

section
/-! PROOF. The Pool's intake: what each outcome of an offer leaves of the list and of the free count (spec 06, 6.3, 6.4). -/

namespace Sys2Proof.Machine

section
variable {s t u : State} {b : Bay} {o : Offer} {e : FaultEntry} {source code : Nat}

/-! ### Entries of a list -/

/-- A change that leaves an entry's source and code. -/
def keepsName (f : FaultEntry → FaultEntry) : Prop := ∀ e, (f e).source = e.source ∧ (f e).code = e.code

theorem keepsName.matches {f : FaultEntry → FaultEntry} (h : keepsName f) :
    (f e).matches source code = e.matches source code := by
  unfold FaultEntry.matches
  rw [(h e).1, (h e).2]

/-- The entry found after the entries with a name are changed. -/
theorem find_changed {f : FaultEntry → FaultEntry} (h : keepsName f) (l : List FaultEntry) :
    (l.map fun e => if e.matches source code then f e else e).find? (FaultEntry.matches source code) =
      (l.find? (FaultEntry.matches source code)).map f := by
  induction l with
  | nil => rfl
  | cons a l ih =>
    rw [List.map_cons]
    cases hm : a.matches source code with
    | true =>
      have mapped : (f a).matches source code = true := h.matches.trans hm
      simp [hm, mapped]
    | false => simp [hm, ih]

theorem updEntry_list {f : FaultEntry → FaultEntry} :
    ((updEntry b source code f s).bay b).faults.list =
      (s.bay b).faults.list.map fun e => if e.matches source code then f e else e := by
  unfold updEntry
  rw [updFaults_bay_self]

theorem findEntry_updEntry {f : FaultEntry → FaultEntry} (h : keepsName f) :
    findEntry (updEntry b source code f s) b source code = (findEntry s b source code).map f := by
  unfold findEntry
  rw [updEntry_list, find_changed h]

theorem updEntry_free {f : FaultEntry → FaultEntry} : (updEntry b source code f s).freeCount = s.freeCount := rfl

theorem findEntry_of_view (h : t.poolView = s.poolView) : findEntry t b source code = findEntry s b source code := by
  unfold findEntry
  rw [faults_of_view h]

/-! ### A merge (spec 06, R118 to R120) -/

theorem mergeEntry_keepsName {now : Option Nat} : keepsName (mergeEntry now o) := by
  intro e
  unfold mergeEntry
  split
  · exact ⟨rfl, rfl⟩
  · exact ⟨rfl, rfl⟩

/-- Told of or not, the list and the free count are as the merge leaves them. -/
theorem mergeInto_pool :
    (mergeInto b o e s).poolView = (updEntry b o.source o.code (mergeEntry (minuteIfSet s) o) s).poolView := by
  have told : ∀ (c d : Bool) (x : State), (tellIfBlocks b c d x).poolView = x.poolView := fun c d x => by simp
  have posted : ∀ (c : Bool) (x : State), (onlyIf c (post .faultNew b) x).poolView = x.poolView := fun c x => by simp
  unfold mergeInto
  rw [told, posted]

theorem offer_merges (h : findEntry s b o.source o.code = some e) : offer b o s = (mergeInto b o e s, .merged) := by
  unfold offer
  rw [h]

theorem isCoachSource_of_le (h : source ≤ 13) : isCoachSource source = true := by
  unfold isCoachSource
  simpa using h

theorem isCoachSource_of_ge (h : 14 ≤ source) : isCoachSource source = false := by
  unfold isCoachSource
  simp
  omega

theorem mergedFirstSeen_eq {now first : Option Nat} : mergedFirstSeen now first = first.orElse fun _ => now := by
  cases first <;> rfl

theorem coachMergedState_eq {active : Bool} {st : FaultState} :
    coachMergedState active st =
      if st = .clearPending then .clearPending
      else if active = false then .stored
      else if st = .deferred then .deferred
      else .active := by
  cases st <;> cases active <;> rfl

theorem coachMergedState_deferred {active : Bool} {st : FaultState} :
    coachMergedState active st = .deferred ↔ st = .deferred ∧ active = true := by
  cases st <;> cases active <;> simp [coachMergedState]

/-- A merged record, by its origin, as the list holds it. -/
theorem merged_found (h : findEntry s b o.source o.code = some e) :
    (offer b o s).2 = .merged ∧ (offer b o s).1.freeCount = s.freeCount ∧
      ((offer b o s).1.bay b).faults.list.length = (s.bay b).faults.list.length ∧
      findEntry (offer b o s).1 b o.source o.code = some (mergeEntry (minuteIfSet s) o e) := by
  rw [offer_merges h]
  refine ⟨rfl, (freeCount_of_view mergeInto_pool).trans updEntry_free, ?_, ?_⟩
  · rw [faults_of_view mergeInto_pool, updEntry_list, List.length_map]
  · rw [findEntry_of_view mergeInto_pool, findEntry_updEntry mergeEntry_keepsName, h]
    rfl

theorem mergeEntry_coach (h : o.source ≤ 13) {now : Option Nat} :
    mergeEntry now o e =
      { e with
        occurrences := min o.occurrences 255
        cls := o.cls
        seen := true
        lastSeen := now
        firstSeen := e.firstSeen.orElse fun _ => now
        state :=
          if e.state = .clearPending then .clearPending
          else if o.active = false then .stored
          else if e.state = .deferred then .deferred
          else .active
        expiry := if e.state = .deferred ∧ o.active = true then e.expiry else none } := by
  unfold mergeEntry mergeCoach
  rw [isCoachSource_of_le h, if_pos rfl, mergedFirstSeen_eq]
  simp only [coachMergedState_deferred]
  rw [coachMergedState_eq]
  rfl

theorem mergeEntry_part (h : 14 ≤ o.source) {now : Option Nat} :
    mergeEntry now o e =
      { e with
        occurrences := min (e.occurrences + 1) 255
        cls := o.cls
        lastSeen := now
        firstSeen := e.firstSeen.orElse fun _ => now } := by
  unfold mergeEntry mergePart
  rw [isCoachSource_of_ge h, if_neg Bool.false_ne_true, mergedFirstSeen_eq]
  rfl

/-! ### A new entry (spec 06, R121) -/

theorem judgeLow_list {x : Bay} : ((judgeLow s).bay x).faults = (s.bay x).faults ∧
    (judgeLow s).freeCount = s.freeCount := by
  unfold judgeLow
  split
  · split
    · exact ⟨rfl, rfl⟩
    · exact ⟨rfl, rfl⟩
  · exact ⟨rfl, rfl⟩

theorem announced_blocks {c d : Bool} {k : BayEvent} (h : announced k b s) : announced k b (tellIfBlocks b c d s) := by
  have work : Work .none s (tellIfBlocks b c d s) := Work.refl.onlyIf fun _ => clearanceNews_work .refl
  exact work.announced h

theorem judgeLow_announced {k : BayEvent} (h : announced k b s) : announced k b (judgeLow s) := by
  have work : Work .none s (judgeLow s) := judgeLow_work .refl
  exact work.announced h

/-- What a new entry leaves of the list, the free count and the events. -/
theorem makeEntry_made :
    ((makeEntry b o s).bay b).faults.list = (s.bay b).faults.list ++ [freshEntry (minuteIfSet s) o] ∧
      ((makeEntry b o s).bay b).faults.incomplete = (s.bay b).faults.incomplete ∧
      (makeEntry b o s).freeCount = s.freeCount - 1 ∧ announced .faultNew b (makeEntry b o s) := by
  unfold makeEntry
  dsimp only
  have told : ∀ (c d : Bool) (x : State), (tellIfBlocks b c d x).poolView = x.poolView := fun c d x => by simp
  rw [faults_of_view (told _ _ _), freeCount_of_view (told _ _ _), (judgeLow_list (x := b)).1, (judgeLow_list (x := b)).2,
    post_bay, updFaults_bay_self]
  exact ⟨rfl, rfl, rfl, announced_blocks (judgeLow_announced announced_post)⟩

theorem offer_new (h : findEntry s b o.source o.code = none)
    (hq : (s.bay b).faults.list.length < (s.bay b).faults.quota) (hf : 0 < s.freeCount) :
    offer b o s = (makeEntry b o s, .new) := by
  unfold offer
  rw [h]
  dsimp only
  rw [if_pos hq, if_pos hf]

theorem offer_noRoom (h : findEntry s b o.source o.code = none)
    (hq : (s.bay b).faults.list.length < (s.bay b).faults.quota) (hf : s.freeCount = 0) (ho : o.source ≤ 13) :
    offer b o s = (s, .noRoom) := by
  unfold offer
  rw [h]
  dsimp only
  rw [if_pos hq, if_neg (by omega), if_pos (isCoachSource_of_le ho)]

theorem offer_partRefused (h : findEntry s b o.source o.code = none)
    (hq : (s.bay b).faults.list.length < (s.bay b).faults.quota) (hf : s.freeCount = 0) (ho : 14 ≤ o.source) :
    offer b o s = (refuseRecord b s, .refused) := by
  unfold offer
  rw [h]
  dsimp only
  rw [if_pos hq, if_neg (by omega), if_neg (by rw [isCoachSource_of_ge ho]; simp)]

theorem refuseRecord_faults :
    ((refuseRecord b s).bay b).faults = { (s.bay b).faults with incomplete := true, refusal := true } := by
  unfold refuseRecord
  rw [faults_of_view clearanceNews_view, updFaults_bay_self]

theorem freshEntry_eq {now : Option Nat} :
    freshEntry now o =
      { source := o.source
        code := o.code
        cls := o.cls
        state := if o.source ≤ 13 ∧ o.active = false then .stored else .active
        occurrences := if o.source ≤ 13 then min o.occurrences 255 else 1
        firstSeen := now
        lastSeen := now
        expiry := none
        seen := decide (o.source ≤ 13) } := by
  unfold freshEntry isCoachSource saturate255
  cases o.active <;> simp

/-! ### Displacement (spec 06, R122) -/

theorem offer_displaces {old : FaultEntry} (h : findEntry s b o.source o.code = none)
    (hq : (s.bay b).faults.quota ≤ (s.bay b).faults.list.length)
    (hd : displacement (s.bay b).faults.list o.cls = some old) : offer b o s = (displace b o old s, .displaced) := by
  unfold offer
  rw [h]
  dsimp only
  rw [if_neg (Nat.not_lt.mpr hq), hd]

theorem offer_fullRefused (h : findEntry s b o.source o.code = none)
    (hq : (s.bay b).faults.quota ≤ (s.bay b).faults.list.length)
    (hd : displacement (s.bay b).faults.list o.cls = none) : offer b o s = (refuseRecord b s, .refused) := by
  unfold offer
  rw [h]
  dsimp only
  rw [if_neg (Nat.not_lt.mpr hq), hd]

theorem displace_displaced {old : FaultEntry} :
    ((displace b o old s).bay b).faults.list = (s.bay b).faults.list.erase old ++ [freshEntry (minuteIfSet s) o] ∧
      ((displace b o old s).bay b).faults.incomplete = (s.bay b).faults.incomplete ∧
      (displace b o old s).freeCount = s.freeCount ∧ announced .faultNew b (displace b o old s) := by
  unfold displace
  dsimp only
  have told : ∀ (c d : Bool) (x : State), (tellIfBlocks b c d x).poolView = x.poolView := fun c d x => by simp
  rw [faults_of_view (told _ _ _), freeCount_of_view (told _ _ _), post_bay, updFaults_bay_self]
  exact ⟨rfl, rfl, rfl, announced_blocks announced_post⟩

theorem displaceable_iff {cls : FaultClass} :
    displaceable cls e = true ↔
      e.state ≠ .clearPending ∧ e.cls ≠ .blocking ∧ (e.cls = .advisory → cls ≠ .info) := by
  unfold displaceable
  cases e.cls <;> cases cls <;> simp

/-- The entry a turn finds: the list holds none that an earlier turn would take. -/
inductive Chosen (l : List FaultEntry) (old : FaultEntry) : Prop
  | info (h : old.cls = .info) (hs : old.state ≠ .stored → ∀ x ∈ l, x.cls = .info → x.state ≠ .stored)
  | advisory (h : old.cls = .advisory) (hi : ∀ x ∈ l, x.cls = .info → x.state = .clearPending)
      (hs : old.state ≠ .stored → ∀ x ∈ l, x.cls = .advisory → x.state ≠ .stored)

/-- A turn that finds nothing. -/
theorem turn_none {l : List FaultEntry} {cls : FaultClass} {turn : FaultEntry → Bool}
    (h : l.find? (fun e => displaceable cls e && turn e) = none) :
    ∀ x ∈ l, displaceable cls x = true → turn x = false := by
  intro x hx hd
  have := List.find?_eq_none.mp h x hx
  simpa [hd] using this

theorem turn_some {l : List FaultEntry} {cls : FaultClass} {turn : FaultEntry → Bool} {old : FaultEntry}
    (h : l.find? (fun e => displaceable cls e && turn e) = some old) :
    old ∈ l ∧ displaceable cls old = true ∧ turn old = true := by
  have found := List.find?_some h
  rw [Bool.and_eq_true] at found
  exact ⟨List.mem_of_find?_eq_some h, found⟩

/-- The four turns, taken in order. -/
theorem displacement_chosen {l : List FaultEntry} {cls : FaultClass} {old : FaultEntry}
    (h : displacement l cls = some old) : old ∈ l ∧ displaceable cls old = true ∧ Chosen l old := by
  unfold displacement displacementTurns at h
  simp only [List.findSome?_cons, List.findSome?_nil] at h
  split at h
  case h_1 _ h1 =>
    obtain rfl := (Option.some.inj h).symm
    obtain ⟨hm, hd, ht⟩ := turn_some h1
    simp only [Bool.and_eq_true, beq_iff_eq] at ht
    exact ⟨hm, hd, .info ht.1 fun hs => absurd ht.2 hs⟩
  case h_2 h1 =>
    have stored := turn_none h1
    split at h
    case h_1 _ h2 =>
      obtain rfl := (Option.some.inj h).symm
      obtain ⟨hm, hd, ht⟩ := turn_some h2
      refine ⟨hm, hd, .info (by simpa using ht) fun _ x hx hc hst => ?_⟩
      have := stored x hx (displaceable_iff.mpr ⟨by simp [hst], by simp [hc], by simp [hc]⟩)
      simp [hc, hst] at this
    case h_2 h2 =>
      have noInfo := turn_none h2
      have pending : ∀ x ∈ l, x.cls = .info → x.state = .clearPending := fun x hx hc => by
        by_contra hst
        have := noInfo x hx (displaceable_iff.mpr ⟨hst, by simp [hc], by simp [hc]⟩)
        simp [hc] at this
      split at h
      case h_1 _ h3 =>
        obtain rfl := (Option.some.inj h).symm
        obtain ⟨hm, hd, ht⟩ := turn_some h3
        simp only [Bool.and_eq_true, beq_iff_eq] at ht
        exact ⟨hm, hd, .advisory ht.1 pending fun hs => absurd ht.2 hs⟩
      case h_2 h3 =>
        have advisoryStored := turn_none h3
        split at h
        case h_1 _ h4 =>
          obtain rfl := (Option.some.inj h).symm
          obtain ⟨hm, hd, ht⟩ := turn_some h4
          have advisory : old.cls = .advisory := by simpa using ht
          refine ⟨hm, hd, .advisory advisory pending fun _ x hx hc hst => ?_⟩
          have mayTake := (displaceable_iff.mp hd).2.2 advisory
          have := advisoryStored x hx (displaceable_iff.mpr ⟨by simp [hst], by simp [hc], fun _ => mayTake⟩)
          simp [hc, hst] at this
        case h_2 => exact absurd h (by simp)

/-- Nothing is displaced where no entry may be. -/
theorem displacement_none {l : List FaultEntry} {cls : FaultClass}
    (h : ∀ x ∈ l, x.cls = .blocking ∨ x.state = .clearPending ∨ (x.cls = .advisory ∧ cls = .info)) :
    displacement l cls = none := by
  cases hd : displacement l cls with
  | none => rfl
  | some old =>
    obtain ⟨hm, ho, -⟩ := displacement_chosen hd
    obtain ⟨hst, hb, ha⟩ := displaceable_iff.mp ho
    obtain h' | h' | ⟨hc, hi⟩ := h old hm
    · exact absurd h' hb
    · exact absurd h' hst
    · exact absurd hi (ha hc)

theorem displaced_taken {old : FaultEntry} (h : findEntry s b o.source o.code = none)
    (hq : (s.bay b).faults.quota ≤ (s.bay b).faults.list.length)
    (hd : displacement (s.bay b).faults.list o.cls = some old) :
    (offer b o s).2 = .displaced ∧ old ∈ (s.bay b).faults.list ∧ old.cls ≠ .blocking ∧
      old.state ≠ .clearPending ∧ (old.cls = .advisory → o.cls ≠ .info) ∧
      (old.cls = .advisory → ∀ x ∈ (s.bay b).faults.list, x.cls = .info → x.state = .clearPending) ∧
      (old.state ≠ .stored → ∀ x ∈ (s.bay b).faults.list, x.cls = old.cls → x.state ≠ .stored) ∧
      ((offer b o s).1.bay b).faults.list.length = (s.bay b).faults.list.length ∧
      (offer b o s).1.freeCount = s.freeCount ∧ announced .faultNew b (offer b o s).1 := by
  obtain ⟨hm, ho, chosen⟩ := displacement_chosen hd
  obtain ⟨hst, hb, ha⟩ := displaceable_iff.mp ho
  obtain ⟨list, -, free, told⟩ := displace_displaced (b := b) (o := o) (old := old) (s := s)
  rw [offer_displaces h hq hd]
  have pos := List.length_pos_of_mem hm
  refine ⟨rfl, hm, hb, hst, ha, fun hc => ?_, fun hs => ?_, ?_, free, told⟩
  · cases chosen with
    | info h => exact absurd (h.symm.trans hc) (by simp)
    | advisory _ hi => exact hi
  · cases chosen with
    | info h hs' => rw [h]; exact hs' hs
    | advisory h _ hs' => rw [h]; exact hs' hs
  · rw [list, List.length_append, List.length_erase_of_mem hm, List.length_singleton]
    omega

end

end Sys2Proof.Machine
end

section
/-! PROOF. The phases of a visit: entering one, the wake, the sleep that ends it, and a refusal (spec 07, R137, R138, R144,
R145). -/

namespace Sys2Proof.Machine

section
variable {s t u : State} {b : Bay} {l : OnLine} {bytes : List Byte} {v : Visit}

/-! ### The reply of a visit's transaction -/

theorem ownerOutcome_reader {e : Entry} {h : Handed} {c : Contents} (hs : sortOf e.req = .reader) :
    ownerOutcome b e h c s = readerOutcome b e.req e.wanted h c.readerReply s := by
  unfold ownerOutcome
  cases hr : e.req with
  | poll | stage | latch | lampSample | lampOff => rw [hr] at hs; exact absurd hs (by simp [sortOf])
  | wake | ident | snapshot | fetch | clear | sleep => rfl

theorem readerOutcome_visit {req : LoopReq} {h : Handed} {reply : ReaderReply} (hv : s.visit = some v) (hb : v.bay = b) :
    readerOutcome b req true h reply s = visitOutcome b req h reply v s := by
  unfold readerOutcome
  rw [hv]
  dsimp only
  rw [if_pos hb]

/-- The good OK reply of a transaction that the visit wants. -/
theorem exec_visitReply {reply : ReaderReply} (hv : visitAsks l v s)
    (hr : replies l bytes (.ok (.reader reply)) s) (hs : sortOf l.entry.req = .reader) :
    exec (.replyTaken bytes) s =
      .next (pollsHeld s (readerDone l.bay l.entry.req reply v (replyEnded l bytes s))) := by
  obtain ⟨hvisit, hbay, hwanted⟩ := hv
  have visit : (replyEnded l bytes s).visit = some v := hvisit
  rw [exec_okReply hr, ownerOutcome_reader hs, hwanted, readerOutcome_visit visit hbay]
  rfl

/-- The reply has ended its transaction, at every bay. -/
theorem replyEnded_reader {x : Bay} : ((replyEnded l bytes s).bay x).reader = (s.bay x).reader := by
  unfold replyEnded
  rw [updLoop_reader]
  rfl

theorem replyEnded_table {x : Bay} : ((replyEnded l bytes s).bay x).table = (s.bay x).table := by
  unfold replyEnded
  rw [updLoop_table]
  rfl

theorem replyEnded_pool : (replyEnded l bytes s).poolView = s.poolView := by
  unfold replyEnded
  simp [State.poolView]
  rfl

/-! ### Entering a phase -/

/-- The visit as it enters a phase. -/
def Visit.enters (phase : VisitPhase) (v : Visit) : Visit := { v with phase := phase, settleUntil := none }

/-- The visit is in a phase whose request waits in the pending list. -/
structure Entered (t : State) (b : Bay) (v : Visit) (phase : VisitPhase) (req : LoopReq) : Prop where
  visit : t.visit = some (v.enters phase)
  lane : (laneOf t b .reader).queued = some (newEntry req t.time)

theorem askReader_lane {req : LoopReq} (hs : sortOf req = .reader) (hr : reachable s b = true) :
    (laneOf (askReader b req s) b .reader).queued = some (newEntry req s.time) := by
  unfold askReader askReplacing
  have reach : reachable (updLane b .reader (fun l => { l with opened := l.opened.map Entry.unwanted }) s) b = true := by
    rw [← hr]
    unfold updLane
    exact reachable_congr (by rw [updLoop_table])
  rw [if_pos reach, hs]
  have time : (updLane b .reader (fun l => { l with opened := l.opened.map Entry.unwanted }) s).time = s.time := rfl
  generalize updLane b .reader (fun l => { l with opened := l.opened.map Entry.unwanted }) s = x at time ⊢
  unfold laneOf
  rw [updLane_lane, if_pos ⟨rfl, rfl, by simp⟩, time]
  rfl

theorem enterPhase_entered {phase : VisitPhase} {req : LoopReq} (hv : s.visit = some v) (hs : sortOf req = .reader)
    (hr : reachable s b = true) : Entered (enterPhase b phase req s) b v phase req := by
  have work : Work .none s (enterPhase b phase req s) := enterPhase_work .refl
  have time := work.outside.time
  constructor
  · unfold enterPhase
    rw [visit_of_view askReader_view, updVisit_visit, hv]
    rfl
  · rw [time]
    exact askReader_lane hs hr

/-- A phase entered with the bay out of reach still moves the visit. -/
theorem enterPhase_visit {phase : VisitPhase} {req : LoopReq} (hv : s.visit = some v) :
    (enterPhase b phase req s).visit = some (v.enters phase) := by
  unfold enterPhase
  rw [visit_of_view askReader_view, updVisit_visit, hv]
  rfl

theorem Entered.polled {phase : VisitPhase} {req : LoopReq} (h : Entered t b v phase req) :
    Entered (pollsHeld s t) b v phase req :=
  ⟨by rw [pollsHeld_visit]; exact h.visit, by rw [pollsHeld_laneOf, pollsHeld_time]; exact h.lane⟩

/-! ### The wake (spec 07, R137) -/

theorem wake_taken (hv : visitAsks l v s) (hr : replies l bytes (.ok (.reader .nothing)) s) (hq : l.entry.req = .wake) :
    exec (.replyTaken bytes) s =
      .next { replyEnded l bytes s with
        visit := some { v with phase := .settle, settleUntil := some (heardAt l bytes s + 3000000) } } := by
  have ran := exec_visitReply hv hr (by rw [hq]; rfl)
  rw [hq] at ran
  have done : readerDone l.bay .wake .nothing v (replyEnded l bytes s) =
      { replyEnded l bytes s with
        visit := some { v with phase := .settle, settleUntil := some (heardAt l bytes s + 3000000) } } := by
    show updVisit _ (replyEnded l bytes s) = _
    unfold updVisit
    have visit : (replyEnded l bytes s).visit = some v := hv.1
    rw [visit]
    rfl
  rw [done] at ran
  rw [ran]
  refine congrArg _ (pollsHeld_of_period fun x => ?_)
  have bay : (replyEnded l bytes s).bay x = { s.bay x with loop := ((replyEnded l bytes s).bay x).loop } := by
    unfold replyEnded
    rw [updLoop_bay]
    split
    case isTrue hx => subst hx; rfl
    · rfl
  have same : ∀ {w : Option Visit}, ({ replyEnded l bytes s with visit := w } : State).bay x =
      { s.bay x with loop := ((replyEnded l bytes s).bay x).loop } := bay
  refine pollPeriod_congr ?_ ?_ ?_ ?_ ?_ ?_
  · rw [same]
  · rw [same]
  · rw [same]
  · rw [same]
  · unfold inRelease; rw [same]
  · rw [hv.1]; rfl

/-! ### The end of a visit with nobody in the queue (spec 07, R144, R145) -/

/-- Nobody waits in the reader queue, and the reader neither visits nor holds a reservation. -/
structure Idle (s : State) : Prop where
  queue : s.readerQueue = []
  visit : s.visit = none
  unreserved : holdsReservation s .reader = false

/-- The reservations stand. -/
theorem Plans.reservations (h : Plans s t) : t.supply.reservations = s.supply.reservations := by
  induction h with
  | refl => rfl
  | _ => rename_i ih; exact ih

theorem stepBegan_reservations : (stepBegan b s).supply.reservations = s.supply.reservations := by
  unfold stepBegan
  dsimp only
  split
  · exact (stageNotSent_plans (s := updLane b .stage Lane.dropQueued (updPower b (fun p => { p with stepHold := true }) s))
      .refl).reservations
  · rfl

theorem stepBegins_reservations {i : Fin 4} : (stepBegins i s).supply.reservations = s.supply.reservations := by
  unfold stepBegins
  split
  case h_1 c _ =>
    split
    case h_1 st _ =>
      have slot : ∀ f x, (updSlot i f x).supply = x.supply := fun _ _ => rfl
      have sampled : ∀ x, (askSample i x).booksView = x.booksView := fun x => by simp
      have disowned : ∀ x, (disownLamp c.bay x).booksView = x.booksView := fun x => by simp
      calc _ = (disownLamp c.bay (stepBegan c.bay (updSlot i _ s))).supply.reservations :=
            congrArg SupplyRec.reservations (sampled _)
        _ = (stepBegan c.bay (updSlot i _ s)).supply.reservations := congrArg SupplyRec.reservations (disowned _)
        _ = _ := stepBegan_reservations
    · rfl
  · rfl

theorem slotGranted_reservations {i : Fin 4} : (slotGranted i s).supply.reservations = s.supply.reservations := by
  unfold slotGranted
  split
  · exact stepBegins_reservations
  · rfl

/-- With nobody in the queue a grant begins no visit and leaves every reader context. -/
theorem grantHolder_readersView {o : Holder} (h : s.readerQueue = []) :
    (grantHolder o s).readersView = s.readersView := by
  unfold grantHolder
  split
  · split
    · simp
    · rfl
  · rw [h]

theorem grantHolder_unreserved {o : Holder} (h : s.readerQueue = []) (hr : holdsReservation s .reader = false) :
    holdsReservation (grantHolder o s) .reader = false := by
  unfold grantHolder
  split
  case h_1 i =>
    split
    case h_1 c _ =>
      unfold holdsReservation at *
      rw [slotGranted_reservations]
      simpa [addReservation] using hr
    · exact hr
  case h_2 =>
    rw [h]
    exact hr

/-- The reader's part stands, and the reader has no reservation. -/
structure Undisturbed (s t : State) : Prop where
  readers : t.readersView = s.readersView
  unreserved : holdsReservation t .reader = false

theorem passTurn_undisturbed {o : Holder} (h : s.readerQueue = []) (hr : holdsReservation s .reader = false) :
    Undisturbed s (passTurn s o) := by
  unfold passTurn
  split
  · exact ⟨grantHolder_readersView h, grantHolder_unreserved h hr⟩
  · exact ⟨rfl, hr⟩

theorem grantPass_undisturbed (h : s.readerQueue = []) (hr : holdsReservation s .reader = false) :
    Undisturbed s (grantPass s) := by
  unfold grantPass
  generalize passOrder = order
  induction order generalizing s with
  | nil => exact ⟨rfl, hr⟩
  | cons o order ih =>
    obtain ⟨readers, unreserved⟩ := passTurn_undisturbed (o := o) h hr
    obtain ⟨readers', unreserved'⟩ := ih ((queue_of_view readers).trans h) unreserved
    exact ⟨readers'.trans readers, unreserved'⟩

theorem giveBack_undisturbed (h : s.readerQueue = []) : Undisturbed s (giveBack .reader s) := by
  unfold giveBack
  split
  case isTrue =>
    have dropped : (dropReservation .reader s).readersView = s.readersView := by simp
    have none_ : holdsReservation (dropReservation .reader s) .reader = false := by
      unfold holdsReservation dropReservation
      rw [updSupply_supply]
      simp
    obtain ⟨readers, unreserved⟩ := grantPass_undisturbed ((queue_of_view dropped).trans h) none_
    exact ⟨readers.trans dropped, unreserved⟩
  case isFalse hr =>
    exact ⟨by simp, by simpa [holdsReservation, leaveWaiting] using hr⟩

theorem askVisit_undisturbed (h : s.readerQueue = []) (hr : holdsReservation s .reader = false) :
    Undisturbed s (askVisit s) := by
  unfold askVisit
  rw [h]
  exact ⟨by simp, by simpa [holdsReservation, leaveWaiting] using hr⟩

/-- A visit ends with nothing wanted of its bay. -/
theorem visitEnds_idle (hf : v.failed = false) (hs : v.suspended = false) (hq : s.readerQueue = [])
    (hw : wantsRead s v.bay = false) (hc : (s.bay v.bay).reader.clears = []) :
    Idle (visitEnds v s) ∧ ∀ x, ((visitEnds v s).bay x).reader = (s.bay x).reader := by
  obtain ⟨readers, unreserved⟩ := giveBack_undisturbed (s := { s with visit := none }) hq
  have kept : ∀ x, ((giveBack .reader { s with visit := none }).bay x).reader = (s.bay x).reader :=
    fun x => reader_of_view readers x
  unfold visitEnds
  dsimp only
  rw [hf, hs, if_neg Bool.false_ne_true, if_neg Bool.false_ne_true]
  have visit : (giveBack .reader { s with visit := none }).visit = none := visit_of_view readers
  have queue : (giveBack .reader { s with visit := none }).readerQueue = [] := (queue_of_view readers).trans hq
  generalize giveBack .reader { s with visit := none } = y at *
  have still : placeIfWanted v.bay y = y := by
    unfold placeIfWanted
    have unwanted : wantsRead y v.bay = false := by
      unfold wantsRead at *
      rw [kept]
      exact hw
    rw [unwanted, kept, hc]
    rfl
  rw [still]
  obtain ⟨readers', unreserved'⟩ := askVisit_undisturbed queue unreserved
  exact ⟨⟨(queue_of_view readers').trans queue, (visit_of_view readers').trans visit, unreserved'⟩,
    fun x => (reader_of_view readers' x).trans (kept x)⟩

/-- A suspended visit ends with no room in the pool. -/
theorem visitEnds_suspended (hf : v.failed = false) (hs : v.suspended = true) (hq : s.readerQueue = [])
    (hn : s.freeCount = 0) :
    (visitEnds v s).visit = none ∧ v.bay ∈ (visitEnds v s).suspended ∧
      ∀ x, ((visitEnds v s).bay x).reader = (s.bay x).reader := by
  obtain ⟨readers, unreserved⟩ := giveBack_undisturbed (s := { s with visit := none }) hq
  have kept : ∀ x, ((giveBack .reader { s with visit := none }).bay x).reader = (s.bay x).reader :=
    fun x => reader_of_view readers x
  unfold visitEnds
  dsimp only
  rw [hf, hs, if_neg Bool.false_ne_true, if_pos rfl]
  have visit : (giveBack .reader { s with visit := none }).visit = none := visit_of_view readers
  have queue : (giveBack .reader { s with visit := none }).readerQueue = [] := (queue_of_view readers).trans hq
  have pool : (giveBack .reader { s with visit := none }).poolView = s.poolView := by
    have back : (giveBack .reader { s with visit := none }).poolView = ({ s with visit := none } : State).poolView := by simp
    exact back
  have free : (giveBack .reader { s with visit := none }).freeCount = 0 := (freeCount_of_view pool).trans hn
  generalize giveBack .reader { s with visit := none } = y at *
  unfold suspendedVisitEnds
  rw [if_pos free]
  have last : v.bay ∈ ({ y with suspended := y.suspended.filter (· != v.bay) ++ [v.bay] } : State).suspended :=
    List.mem_append_right _ (List.mem_singleton.mpr rfl)
  have same : ∀ x, (({ y with suspended := y.suspended.filter (· != v.bay) ++ [v.bay] } : State).bay x).reader =
      (s.bay x).reader := kept
  obtain ⟨readers', -⟩ := askVisit_undisturbed
    (s := { y with suspended := y.suspended.filter (· != v.bay) ++ [v.bay] }) queue unreserved
  refine ⟨(visit_of_view readers').trans visit, ?_, fun x => (reader_of_view readers' x).trans (same x)⟩
  rw [suspended_of_view readers']
  exact last

theorem sleep_idle (hv : visitAsks l v s) (hr : replies l bytes (.ok (.reader .nothing)) s)
    (hq : l.entry.req = .sleep) (hf : v.failed = false) (hs : v.suspended = false) (he : s.readerQueue = [])
    (hi : (s.bay l.bay).reader.identityWanted = false) (hp : (s.bay l.bay).reader.passWanted = false)
    (hc : (s.bay l.bay).reader.clears = []) :
    ∃ t, exec (.replyTaken bytes) s = .next t ∧
      t.visit = none ∧ holdsReservation t .reader = false ∧ t.readerQueue = [] ∧
        (t.bay l.bay).reader = (s.bay l.bay).reader := by
  have ran := exec_visitReply hv hr (by rw [hq]; rfl)
  rw [hq] at ran
  have reader := replyEnded_reader (l := l) (bytes := bytes) (s := s) (x := v.bay)
  have own : (s.bay v.bay).reader = (s.bay l.bay).reader := by rw [hv.2.1]
  have queue : (replyEnded l bytes s).readerQueue = [] := he
  obtain ⟨⟨queue', visit, unreserved⟩, kept⟩ :=
    visitEnds_idle (s := replyEnded l bytes s) hf hs queue (by unfold wantsRead; rw [reader, own, hi, hp]; rfl)
      (by rw [reader, own, hc])
  have same := kept l.bay
  rw [replyEnded_reader] at same
  change exec (.replyTaken bytes) s = .next (pollsHeld s (visitEnds v (replyEnded l bytes s))) at ran
  generalize visitEnds v (replyEnded l bytes s) = y at *
  refine ⟨_, ran, ?_, ?_, ?_, ?_⟩
  · rw [pollsHeld_visit, visit]
  · unfold holdsReservation at *
    rw [pollsHeld_supply]
    exact unreserved
  · rw [pollsHeld_readerQueue, queue']
  · rw [pollsHeld_reader, same]

theorem sleep_suspended (hv : visitAsks l v s) (hr : replies l bytes (.ok (.reader .nothing)) s)
    (hq : l.entry.req = .sleep) (hf : v.failed = false) (hs : v.suspended = true) (hn : s.freeCount = 0)
    (he : s.readerQueue = []) :
    ∃ t, exec (.replyTaken bytes) s = .next t ∧
      t.visit = none ∧ l.bay ∈ t.suspended ∧ (t.bay l.bay).reader = (s.bay l.bay).reader := by
  have ran := exec_visitReply hv hr (by rw [hq]; rfl)
  rw [hq] at ran
  obtain ⟨visit, suspended, kept⟩ := visitEnds_suspended (s := replyEnded l bytes s) hf hs he hn
  have same := kept l.bay
  rw [replyEnded_reader] at same
  change exec (.replyTaken bytes) s = .next (pollsHeld s (visitEnds v (replyEnded l bytes s))) at ran
  generalize visitEnds v (replyEnded l bytes s) = y at *
  refine ⟨_, ran, ?_, ?_, ?_⟩
  · rw [pollsHeld_visit, visit]
  · rw [pollsHeld_suspended, ← hv.2.1]
    exact suspended
  · rw [pollsHeld_reader, same]

/-! ### A refusal (spec 07, R137, R138) -/

theorem exec_refusedReply (h : replies l bytes .refused s) :
    exec (.replyTaken bytes) s =
      .next (pollsHeld s (ownerOutcome l.bay l.entry .refused .nothing (replyEnded l bytes s))) := by
  obtain ⟨hawaits, htime, hparse⟩ := h
  rw [exec_replyTaken hawaits.1, heard_inTime hawaits htime, hparse]
  rfl

theorem refusal_fails (hv : visitAsks l v s) (h : replies l bytes .refused s) (hs : sortOf l.entry.req = .reader)
    (hq : l.entry.req ≠ .sleep) :
    exec (.replyTaken bytes) s = .next (pollsHeld s (visitFails l.bay (replyEnded l bytes s))) := by
  have visit : (replyEnded l bytes s).visit = some v := hv.1
  rw [exec_refusedReply h, ownerOutcome_reader hs, hv.2.2, readerOutcome_visit visit hv.2.1]
  refine congrArg (fun x => Host.Outcome.next (pollsHeld s x)) ?_
  show readerNotDone l.bay l.entry.req v (replyEnded l bytes s) = _
  unfold readerNotDone
  split
  case h_1 heq => exact absurd heq hq
  · rfl

theorem enterPhase_bay {phase : VisitPhase} {req : LoopReq} {x : Bay} (hx : x ≠ b) :
    (enterPhase b phase req s).bay x = s.bay x := by
  have lane : ∀ sort f y, (updLane b sort f y).bay x = y.bay x := fun sort f y => updLoop_bay_ne hx _ _
  unfold enterPhase askReader askReplacing
  split
  · rw [lane, lane]
    rfl
  · rw [lane]
    rfl

theorem visitFails_taken (hv : s.visit = some v) (hr : reachable s b = true) :
    Entered (visitFails b s) b { v with failed := true } .sleep .sleep ∧
      ∀ x, x ≠ b → (visitFails b s).bay x = s.bay x := by
  have failed : (updVisit (fun v => { v with failed := true }) s).visit = some { v with failed := true } := by
    rw [updVisit_visit, hv]
    rfl
  have reach : reachable (updVisit (fun v => { v with failed := true }) s) b = true := hr
  exact ⟨enterPhase_entered failed rfl reach, fun x hx => enterPhase_bay hx⟩

theorem refusal_taken (hv : visitAsks l v s) (h : replies l bytes .refused s) (hs : sortOf l.entry.req = .reader)
    (hq : l.entry.req ≠ .sleep) (hr : reachable s l.bay = true) :
    ∃ t, exec (.replyTaken bytes) s = .next t ∧
      t.visit = some { v with failed := true, phase := .sleep, settleUntil := none } ∧
        (laneOf t l.bay .reader).queued = some (newEntry .sleep t.time) ∧
        (t.bay l.bay).reader = (s.bay l.bay).reader ∧ t.ports = s.ports ∧
        ∀ x : Bay, x ≠ l.bay → t.bay x = s.bay x := by
  have ran := refusal_fails hv h hs hq
  have visit : (replyEnded l bytes s).visit = some v := hv.1
  obtain ⟨entered, others⟩ := visitFails_taken visit (replyEnded_reachable.trans hr)
  have reader := fun x => (visitFails_reader (x := x) (y := l.bay) (s := replyEnded l bytes s)).trans replyEnded_reader
  obtain ⟨-, records, faults, engine, -, supply, events⟩ := visitFails_keeps l.bay (replyEnded l bytes s)
  have bay : ∀ x, x ≠ l.bay → (visitFails l.bay (replyEnded l bytes s)).bay x = s.bay x := fun x hx =>
    (others x hx).trans (updLoop_bay_ne hx _ _)
  have period : ∀ x, pollPeriod (visitFails l.bay (replyEnded l bytes s)) x = pollPeriod s x := fun x => by
    have own : ∀ {y : Bay}, ((replyEnded l bytes s).bay y).power = (s.bay y).power ∧
        ((replyEnded l bytes s).bay y).lamp = (s.bay y).lamp ∧
        ((replyEnded l bytes s).bay y).clear = (s.bay y).clear := by
      intro y
      unfold replyEnded
      rw [updLoop_power, updLoop_lamp, updLoop_clear]
      exact ⟨rfl, rfl, rfl⟩
    obtain ⟨power, lamp, clear⟩ := own (y := x)
    refine pollPeriod_congr ?_ ?_ ?_ ?_ ?_ ?_
    · rw [table_of_view records.2, replyEnded_table]
    · rw [power_of_view supply.1, power]
    · rw [power_of_view supply.1, power]
    · rw [lamp_of_view engine, lamp]
    · unfold inRelease; rw [clear_of_view faults.2, clear]
    · rw [entered.visit, hv.1]
      rfl
  rw [pollsHeld_of_period period] at ran
  exact ⟨_, ran, entered.visit, entered.lane, reader l.bay, events, bay⟩

end

end Sys2Proof.Machine
end

section
/-! PROOF. The snapshot, the fetched records and the answers of clears in a visit (spec 07, R140 to R143, R145). -/

namespace Sys2Proof.Machine

section
variable {s t u : State} {b : Bay} {l : OnLine} {bytes : List Byte} {v : Visit} {o : Offer} {e : FaultEntry}
  {count gen source code : Nat}

/-! ### Suspended bays are told of room while a visit goes on (spec 07, R145) -/

/-- Every reader context is as it was but for its state. -/
def MarksKept (s t : State) : Prop := ∀ x, ∃ st, (t.bay x).reader = { (s.bay x).reader with state := st }

namespace MarksKept

theorem refl : MarksKept s s := fun _ => ⟨_, rfl⟩

theorem trans (h : MarksKept s t) (k : MarksKept t u) : MarksKept s u := fun x => by
  obtain ⟨m, hm⟩ := h x
  obtain ⟨n, hn⟩ := k x
  exact ⟨n, by rw [hn, hm]⟩

theorem of_reader (h : ∀ x, (t.bay x).reader = (s.bay x).reader) : MarksKept s t := fun x => ⟨_, h x⟩

theorem of_view (h : t.readersView = s.readersView) : MarksKept s t := of_reader (reader_of_view h)

theorem of_kept (h : ReadersKept s t) : MarksKept s t := h.marks

end MarksKept

/-- A visit goes on as another: the visit has moved by this much, and of the contexts no more than the states. -/
structure GoesOn (s t : State) : Prop where
  marks : MarksKept s t
  visit : s.visit.isSome = true → t.visit.isSome = true

theorem GoesOn.refl : GoesOn s s := ⟨.refl, id⟩

theorem GoesOn.trans (h : GoesOn s t) (k : GoesOn t u) : GoesOn s u := ⟨h.marks.trans k.marks, fun hv => k.visit (h.visit hv)⟩

theorem GoesOn.of_view (h : t.readersView = s.readersView) : GoesOn s t :=
  ⟨.of_view h, fun hv => by rw [visit_of_view h]; exact hv⟩

theorem queuedAll_marks {bays : List Bay} :
    MarksKept s (forBays bays (fun b => updReader b fun r => { r with state := .queued }) s) :=
  forBays_keeps (P := MarksKept s)
    (fun b u h => h.trans fun x => by
      rw [updReader_bay]
      split
      case isTrue hx => subst hx; exact ⟨_, rfl⟩
      · exact ⟨_, rfl⟩)
    bays s .refl

theorem queuedAll_visit {bays : List Bay} :
    (forBays bays (fun b => updReader b fun r => { r with state := .queued }) s).visit = s.visit :=
  forBays_keeps (P := fun u => u.visit = s.visit) (f := fun b => updReader b fun r => { r with state := .queued })
    (fun _ _ h => h) bays s rfl

/-- With a visit in progress no other is asked for. -/
theorem askVisit_goesOn (hv : s.visit.isSome = true) : (askVisit s).readersView = s.readersView := by
  unfold askVisit
  split
  · simp
  case h_2 h => rw [h] at hv; exact absurd hv (by simp)
  · rfl

theorem readerResume_goesOn (hv : s.visit.isSome = true) : GoesOn s (readerResume s) := by
  unfold readerResume
  set moved : State := { s with
    readerQueue := s.readerQueue ++ s.suspended.filter fun b => !s.readerQueue.contains b
    suspended := [] } with hm
  have first : MarksKept s moved := .of_reader fun _ => rfl
  have queued : MarksKept moved (forBays s.suspended (fun b => updReader b fun r => { r with state := .queued }) moved) :=
    queuedAll_marks
  have visit : (forBays s.suspended (fun b => updReader b fun r => { r with state := .queued }) moved).visit = s.visit :=
    queuedAll_visit
  generalize forBays s.suspended (fun b => updReader b fun r => { r with state := .queued }) moved = y at queued visit ⊢
  have some_ : (updVisit (fun v => { v with suspended := false }) y).visit.isSome = true := by
    rw [updVisit_visit, visit, Option.isSome_map]
    exact hv
  have unsuspended : MarksKept y (updVisit (fun v => { v with suspended := false }) y) := .of_reader fun _ => rfl
  exact ⟨((first.trans queued).trans unsuspended).trans (.of_view (askVisit_goesOn some_)),
    fun _ => by rw [visit_of_view (askVisit_goesOn some_)]; exact some_⟩

theorem removeEntries_goesOn {unwanted : FaultEntry → Bool} (hv : s.visit.isSome = true) :
    GoesOn s (removeEntries b unwanted s) := by
  unfold removeEntries
  dsimp only
  split
  · exact .refl
  · set n := ((s.bay b).faults.list.filter unwanted).length with hn
    have freed : GoesOn s (updFaults b
        (fun r => { r with list := r.list.filter (fun e => !unwanted e), revision := (r.revision + n) % 256 })
        { s with freeCount := s.freeCount + n }) :=
      ⟨.of_reader fun x => by rw [updFaults_reader]; rfl, id⟩
    generalize updFaults b
        (fun r => { r with list := r.list.filter (fun e => !unwanted e), revision := (r.revision + n) % 256 })
        { s with freeCount := s.freeCount + n } = y at freed ⊢
    have low : GoesOn y (judgeLow y) := .of_view (by simp)
    have judged := freed.trans low
    cases decide (s.freeCount = 0) with
    | true => exact judged.trans (readerResume_goesOn (judged.visit hv))
    | false => exact judged

theorem passCompleted_goesOn (hv : s.visit.isSome = true) : GoesOn s (passCompleted b s) := by
  unfold passCompleted
  have removed : GoesOn s (removeEntries b retired s) := removeEntries_goesOn hv
  generalize removeEntries b retired s = y at removed ⊢
  exact removed.trans (.of_view (by simp))

/-! ### The pass completes, or the next record is fetched (spec 07, R142, R143) -/

theorem passCompletes_reader (hv : s.visit.isSome = true) :
    ((passCompletes b s).bay b).reader =
      { (s.bay b).reader with passWanted := false, state := .complete, failedVisits := 0 } := by
  obtain ⟨st, marks⟩ := (passCompleted_goesOn (b := b) hv).marks b
  unfold passCompletes goSleep
  rw [enterPhase_reader, post_bay, updReader_bay_self, marks]

theorem passCompletes_visit (hv : s.visit.isSome = true) : (passCompletes b s).visit.map Visit.phase = some .sleep := by
  have goes := (passCompleted_goesOn (b := b) hv).visit hv
  obtain ⟨w, hw⟩ := Option.isSome_iff_exists.mp goes
  unfold passCompletes goSleep
  generalize passCompleted b s = x at hw ⊢
  have moved : (post .faultsComplete b (updReader b
      (fun r => { r with passWanted := false, state := .complete, failedVisits := 0 }) x)).visit = some w := hw
  rw [enterPhase_visit moved]
  rfl

theorem goSleep_announced {x : Bay} {k : BayEvent} (h : announced k x s) : announced k x (goSleep b s) := by
  have events : (goSleep b s).eventsView = s.eventsView := by simp
  exact announced_of_ports events h

theorem passCompletes_announced : announced .faultsComplete b (passCompletes b s) := by
  unfold passCompletes
  exact goSleep_announced announced_post

theorem fetchOrComplete_completes (h : some (s.bay b).reader.cursor = (s.bay b).reader.recordCount) :
    fetchOrComplete b s = passCompletes b s := by
  unfold fetchOrComplete
  rw [if_pos h]

theorem fetchOrComplete_fetches (h : some (s.bay b).reader.cursor ≠ (s.bay b).reader.recordCount) :
    fetchOrComplete b s = fetchNext b s := by
  unfold fetchOrComplete
  rw [if_neg h]

theorem fetchNext_reader {x : Bay} : ((fetchNext b s).bay x).reader = (s.bay x).reader := by
  unfold fetchNext
  split
  · split
    · rw [updVisit_bay, enterPhase_reader]
    · exact enterPhase_reader
  · rfl

/-- A record is fetched while the budget lasts. -/
theorem fetchNext_fetches (hv : s.visit = some v) (hb : v.fetches < v.budget) (hr : reachable s b = true) :
    (fetchNext b s).visit = some { v with phase := .fetch, fetches := v.fetches + 1, settleUntil := none } ∧
      (laneOf (fetchNext b s) b .reader).queued =
        some (newEntry (.fetch (s.bay b).reader.cursor) (fetchNext b s).time) := by
  have entered : Entered (enterPhase b .fetch (.fetch (s.bay b).reader.cursor) s) b v .fetch
      (.fetch (s.bay b).reader.cursor) := enterPhase_entered hv rfl hr
  unfold fetchNext
  rw [hv]
  dsimp only
  rw [if_pos hb, updVisit_visit, entered.visit]
  exact ⟨rfl, entered.lane⟩

theorem fetchNext_sleeps (hv : s.visit = some v) (hb : v.budget ≤ v.fetches) (hr : reachable s b = true) :
    Entered (fetchNext b s) b v .sleep .sleep := by
  unfold fetchNext
  rw [hv]
  dsimp only
  rw [if_neg (Nat.not_lt.mpr hb)]
  exact enterPhase_entered hv rfl hr

/-- The cursor, the generation and the record count stand. -/
theorem fetchOrComplete_reader (hv : s.visit.isSome = true) :
    ((fetchOrComplete b s).bay b).reader.cursor = (s.bay b).reader.cursor ∧
      ((fetchOrComplete b s).bay b).reader.generation = (s.bay b).reader.generation ∧
      ((fetchOrComplete b s).bay b).reader.recordCount = (s.bay b).reader.recordCount ∧
      ((s.bay b).reader.failedVisits = 0 → ((fetchOrComplete b s).bay b).reader.failedVisits = 0) := by
  by_cases h : some (s.bay b).reader.cursor = (s.bay b).reader.recordCount
  · rw [fetchOrComplete_completes h, passCompletes_reader hv]
    exact ⟨rfl, rfl, rfl, fun _ => rfl⟩
  · rw [fetchOrComplete_fetches h, fetchNext_reader]
    exact ⟨rfl, rfl, rfl, id⟩

/-! ### A snapshot (spec 07, R141) -/

/-- The context once the snapshot is stored, before the pass goes on. -/
def snapshotStored (b : Bay) (count gen : Nat) (s : State) : State :=
  onlyIf (decide (snapshotCursor (s.bay b).reader count gen = 0)) (passBegun b)
    (updReader b
      (fun r => { r with
        cursor := snapshotCursor (s.bay b).reader count gen, generation := some gen, recordCount := some count })
      (progress b s))

theorem snapshotDone_eq : snapshotDone b count gen s = fetchOrComplete b (snapshotStored b count gen s) := rfl

theorem snapshotStored_reader :
    ((snapshotStored b count gen s).bay b).reader =
      { (s.bay b).reader with
        failedVisits := 0, cursor := snapshotCursor (s.bay b).reader count gen, generation := some gen
        recordCount := some count } := by
  unfold snapshotStored
  have begun : ∀ (c : Bool) (y : State), (onlyIf c (passBegun b) y).readersView = y.readersView := fun c y => by simp
  rw [reader_of_view (begun _ _), updReader_bay_self, progress, updReader_bay_self]

theorem snapshotStored_visit : (snapshotStored b count gen s).visit = s.visit := by
  unfold snapshotStored
  have begun : ∀ (c : Bool) (y : State), (onlyIf c (passBegun b) y).readersView = y.readersView := fun c y => by simp
  rw [visit_of_view (begun _ _)]
  rfl

theorem snapshotStored_tables : (snapshotStored b count gen s).tablesView = s.tablesView := by simp [snapshotStored]

theorem reachable_of_tables (h : t.tablesView = s.tablesView) : reachable t b = reachable s b :=
  reachable_congr (by rw [table_of_view h])

theorem snapshot_taken (hv : visitAsks l v s) (hr : replies l bytes (.ok (.reader (.snapshot count gen))) s)
    (hq : l.entry.req = .snapshot) :
    ∃ t, exec (.replyTaken bytes) s = .next t ∧
      (t.bay l.bay).reader.generation = some gen ∧ (t.bay l.bay).reader.recordCount = some count ∧
        (t.bay l.bay).reader.cursor =
          (if (s.bay l.bay).reader.generation = some gen ∧ (s.bay l.bay).reader.cursor ≤ count then
            (s.bay l.bay).reader.cursor
          else 0) ∧
        (t.bay l.bay).reader.failedVisits = 0 ∧ (t.bay l.bay).table = (s.bay l.bay).table ∧
        ((t.bay l.bay).reader.cursor = count →
          (t.bay l.bay).reader.passWanted = false ∧ (t.bay l.bay).reader.state = .complete ∧
            announced .faultsComplete l.bay t ∧ t.visit.map Visit.phase = some .sleep) ∧
        ((t.bay l.bay).reader.cursor ≠ count → v.fetches < v.budget → reachable s l.bay = true →
          t.visit = some { v with phase := .fetch, fetches := v.fetches + 1, settleUntil := none } ∧
            (laneOf t l.bay .reader).queued =
              some (newEntry (.fetch (t.bay l.bay).reader.cursor) t.time)) ∧
        ((t.bay l.bay).reader.cursor ≠ count → v.budget ≤ v.fetches → reachable s l.bay = true →
          t.visit = some { v with phase := .sleep, settleUntil := none } ∧
            (laneOf t l.bay .reader).queued = some (newEntry .sleep t.time)) := by
  have ran := exec_visitReply hv hr (by rw [hq]; rfl)
  rw [hq] at ran
  change exec (.replyTaken bytes) s =
    .next (pollsHeld s (snapshotDone l.bay count gen (replyEnded l bytes s))) at ran
  rw [snapshotDone_eq] at ran
  have reader := snapshotStored_reader (b := l.bay) (count := count) (gen := gen) (s := replyEnded l bytes s)
  have visit := snapshotStored_visit (b := l.bay) (count := count) (gen := gen) (s := replyEnded l bytes s)
  have tables := snapshotStored_tables (b := l.bay) (count := count) (gen := gen) (s := replyEnded l bytes s)
  have reach := reachable_of_tables (b := l.bay) tables
  have table := table_of_view tables l.bay
  rw [replyEnded_reader] at reader
  rw [replyEnded_reachable] at reach
  rw [replyEnded_table] at table
  have going : (snapshotStored l.bay count gen (replyEnded l bytes s)).visit = some v := visit.trans hv.1
  generalize snapshotStored l.bay count gen (replyEnded l bytes s) = y at *
  have some_ : y.visit.isSome = true := by rw [going]; rfl
  obtain ⟨cursor, generation, records, zero⟩ := fetchOrComplete_reader (b := l.bay) some_
  have tables' : (fetchOrComplete l.bay y).tablesView = y.tablesView := by simp
  have completes := fetchOrComplete_completes (b := l.bay) (s := y)
  have fetches := fetchOrComplete_fetches (b := l.bay) (s := y)
  rw [reader] at cursor generation records zero
  refine ⟨_, ran, ?_, ?_, ?_, ?_, ?_, fun hc => ?_, fun hc hb hreach => ?_, fun hc hb hreach => ?_⟩
  · rw [pollsHeld_reader, generation]
  · rw [pollsHeld_reader, records]
  · rw [pollsHeld_reader, cursor]
    rfl
  · rw [pollsHeld_reader, zero rfl]
  · rw [pollsHeld_table, table_of_view tables', table]
  · rw [pollsHeld_reader, cursor] at hc
    have all := completes (by rw [reader]; exact congrArg some hc)
    rw [all, pollsHeld_reader, pollsHeld_visit, passCompletes_reader some_]
    exact ⟨rfl, rfl, pollsHeld_announced passCompletes_announced, passCompletes_visit some_⟩
  · rw [pollsHeld_reader, cursor] at hc
    have next := fetches (by rw [reader]; exact fun h => hc (Option.some.inj h))
    obtain ⟨went, lane⟩ := fetchNext_fetches (b := l.bay) going hb (reach.trans hreach)
    rw [pollsHeld_visit, pollsHeld_laneOf, pollsHeld_reader, pollsHeld_time, cursor, next, went, lane, reader]
    exact ⟨rfl, rfl⟩
  · rw [pollsHeld_reader, cursor] at hc
    have next := fetches (by rw [reader]; exact fun h => hc (Option.some.inj h))
    have asleep := fetchNext_sleeps (b := l.bay) going hb (reach.trans hreach)
    rw [next]
    exact ⟨asleep.polled.visit, asleep.polled.lane⟩

/-! ### What an offer leaves of the bay's own list -/

theorem mergeInto_faults :
    ((mergeInto b o e s).bay b).faults =
      { (s.bay b).faults with
        list := (s.bay b).faults.list.map fun e =>
          if e.matches o.source o.code then mergeEntry (minuteIfSet s) o e else e } := by
  rw [faults_of_view mergeInto_pool, updEntry, updFaults_bay_self]

theorem makeEntry_faults :
    ((makeEntry b o s).bay b).faults =
      { (s.bay b).faults with
        list := (s.bay b).faults.list ++ [freshEntry (minuteIfSet s) o]
        revision := nextRevision (s.bay b).faults.revision } := by
  unfold makeEntry
  dsimp only
  have told : ∀ (c d : Bool) (x : State), (tellIfBlocks b c d x).poolView = x.poolView := fun c d x => by simp
  rw [faults_of_view (told _ _ _), (judgeLow_list (x := b)).1, post_bay, updFaults_bay_self]
  rfl

theorem displace_faults {old : FaultEntry} :
    ((displace b o old s).bay b).faults =
      { (s.bay b).faults with
        list := (s.bay b).faults.list.erase old ++ [freshEntry (minuteIfSet s) o]
        revision := nextRevision (nextRevision (s.bay b).faults.revision) } := by
  unfold displace
  dsimp only
  have told : ∀ (c d : Bool) (x : State), (tellIfBlocks b c d x).poolView = x.poolView := fun c d x => by simp
  rw [faults_of_view (told _ _ _), post_bay, updFaults_bay_self]

/-- An offer rests on the bay's list, the free count and the clock. -/
theorem offer_congr (hf : (t.bay b).faults = (s.bay b).faults) (hn : t.freeCount = s.freeCount) (hc : t.clock = s.clock) :
    (offer b o t).2 = (offer b o s).2 ∧ ((offer b o t).1.bay b).faults = ((offer b o s).1.bay b).faults := by
  have now : minuteIfSet t = minuteIfSet s := by unfold minuteIfSet; rw [hc]
  unfold offer findEntry
  rw [hf, hn]
  split
  · exact ⟨rfl, by rw [mergeInto_faults, mergeInto_faults, hf, now]⟩
  · split
    · split
      · exact ⟨rfl, by rw [makeEntry_faults, makeEntry_faults, hf, now]⟩
      · split
        · exact ⟨rfl, hf⟩
        · exact ⟨rfl, by rw [refuseRecord_faults, refuseRecord_faults, hf]⟩
    · split
      · exact ⟨rfl, by rw [displace_faults, displace_faults, hf, now]⟩
      · exact ⟨rfl, by rw [refuseRecord_faults, refuseRecord_faults, hf]⟩

/-- NO_ROOM leaves everything. -/
theorem offer_noRoom_same (h : (offer b o s).2 = .noRoom) : (offer b o s).1 = s := by
  unfold offer at h ⊢
  split at h
  · exact absurd h (by simp)
  · split at h
    · split at h
      · exact absurd h (by simp)
      · split at h
        · simp [*]
        · exact absurd h (by simp)
    · split at h <;> exact absurd h (by simp)

/-- A record of a coach stands where no completed pass retires it, or INCOMPLETE is set by its refusal. -/
def Recorded (s : State) (b : Bay) (o : Offer) : Prop :=
  (∃ e ∈ (s.bay b).faults.list, e.matches o.source o.code = true ∧ retired e = false) ∨
    ((s.bay b).faults.incomplete = true ∧ (s.bay b).faults.refusal = true)

theorem seen_unretired (h : e.seen = true) : retired e = false := by
  unfold retired
  rw [h]
  simp

theorem freshEntry_recorded {now : Option Nat} (h : o.source ≤ 13) :
    (freshEntry now o).matches o.source o.code = true ∧ retired (freshEntry now o) = false :=
  ⟨by simp [FaultEntry.matches, freshEntry], seen_unretired (isCoachSource_of_le h)⟩

theorem offer_recorded (hn : (offer b o s).2 ≠ .noRoom) (h : o.source ≤ 13) : Recorded (offer b o s).1 b o := by
  have refused : Recorded (refuseRecord b s) b o := by
    right
    rw [refuseRecord_faults]
    exact ⟨rfl, rfl⟩
  have last : ∀ {l : List FaultEntry} {now : Option Nat},
      ∃ e ∈ l ++ [freshEntry now o], e.matches o.source o.code = true ∧ retired e = false := fun {l now} =>
    ⟨_, List.mem_append_right _ (List.mem_singleton.mpr rfl), freshEntry_recorded h⟩
  unfold offer at hn ⊢
  split
  case h_1 e he =>
    left
    rw [mergeInto_faults]
    have found := List.find?_some he
    refine ⟨_, List.mem_map.mpr ⟨e, List.mem_of_find?_eq_some he, rfl⟩, ?_⟩
    rw [if_pos found, mergeEntry_keepsName.matches]
    refine ⟨found, seen_unretired ?_⟩
    rw [mergeEntry_coach h]
  · split
    · split
      · left
        rw [makeEntry_faults]
        exact last
      · split
        case isTrue hc => simp [*] at hn
        · exact refused
    · split
      · left
        rw [displace_faults]
        exact last
      · exact refused

theorem Recorded.stands (h : Recorded s b o) :
    (findEntry s b o.source o.code).isSome = true ∨ (s.bay b).faults.incomplete = true := by
  obtain ⟨e, he, hm, -⟩ | ⟨hi, -⟩ := h
  · exact .inl (List.find?_isSome.mpr ⟨e, he, hm⟩)
  · exact .inr hi

theorem Recorded.of_view (hp : t.poolView = s.poolView) (h : Recorded s b o) : Recorded t b o := by
  unfold Recorded
  rw [faults_of_view hp]
  exact h

/-- The flags of a bay's list through the removal of entries. -/
theorem removeEntries_flags {unwanted : FaultEntry → Bool} :
    ((removeEntries b unwanted s).bay b).faults.incomplete = (s.bay b).faults.incomplete ∧
      ((removeEntries b unwanted s).bay b).faults.refusal = (s.bay b).faults.refusal := by
  unfold removeEntries
  dsimp only
  split
  · exact ⟨rfl, rfl⟩
  · have resumed : ∀ (d : Bool) (x : State), (onlyIf d readerResume x).poolView = x.poolView := fun d x => by simp
    rw [faults_of_view (resumed _ _), (judgeLow_list (x := b)).1, updFaults_bay_self]
    exact ⟨rfl, rfl⟩

/-- A completed pass leaves what stands recorded. -/
theorem passCompleted_recorded (h : Recorded s b o) : Recorded (passCompleted b s) b o := by
  obtain ⟨list, -⟩ := removeEntries_pool (s := s) (b := b) (unwanted := retired)
  obtain ⟨incomplete, refusal⟩ := removeEntries_flags (s := s) (b := b) (unwanted := retired)
  unfold passCompleted Recorded
  rw [updFaults_bay_self]
  dsimp only
  rw [list, incomplete, refusal]
  obtain ⟨e, he, hm, hr⟩ | ⟨hi, hr⟩ := h
  · exact .inl ⟨e, List.mem_filter.mpr ⟨he, by rw [hr]; rfl⟩, hm, hr⟩
  · exact .inr ⟨by rw [hi, hr]; rfl, hr⟩

theorem passCompletes_recorded (h : Recorded s b o) : Recorded (passCompletes b s) b o := by
  have completed := passCompleted_recorded h
  unfold passCompletes
  generalize passCompleted b s = y at completed ⊢
  exact completed.of_view (by simp)

theorem fetchNext_pool : (fetchNext b s).poolView = s.poolView := by simp

/-! ### A fetched record (spec 07, R142, R145) -/

theorem progress_reader : ((progress b s).bay b).reader = { (s.bay b).reader with failedVisits := 0 } :=
  congrArg BayRec.reader (updReader_bay_self b _ s)

theorem fetchDone_other (h : (s.bay b).reader.generation ≠ some gen) :
    fetchDone b o gen s = enterPhase b .snapshot .snapshot (progress b s) := by
  unfold fetchDone
  rw [if_neg h]

theorem fetchDone_same (h : (s.bay b).reader.generation = some gen) :
    fetchDone b o gen s = fetchedRecord b o (progress b s) := by
  unfold fetchDone
  rw [if_pos h]

theorem fetchedRecord_noRoom (h : (offer b o s).2 = .noRoom) : fetchedRecord b o s = suspendVisit b s := by
  have same := offer_noRoom_same h
  unfold fetchedRecord
  generalize offer b o s = p at h same ⊢
  obtain ⟨y, i⟩ := p
  dsimp only at h same
  subst h same
  rfl

theorem fetchedRecord_taken (h : (offer b o s).2 ≠ .noRoom) :
    fetchedRecord b o s =
      fetchOrComplete b (updReader b (fun r => { r with cursor := r.cursor + 1 }) (offer b o s).1) := by
  unfold fetchedRecord
  generalize offer b o s = p at h ⊢
  obtain ⟨y, i⟩ := p
  cases i with
  | noRoom => exact absurd rfl h
  | merged | new | displaced | refused => rfl

/-- The state in which the reader takes a fetched record. -/
theorem fetched_state {x : State} (hx : x = progress l.bay (replyEnded l bytes s)) :
    (x.bay l.bay).faults = (s.bay l.bay).faults ∧ x.freeCount = s.freeCount ∧ x.clock = s.clock ∧
      x.visit = s.visit ∧ reachable x l.bay = reachable s l.bay ∧ x.poolView = s.poolView ∧
      (x.bay l.bay).reader = { (s.bay l.bay).reader with failedVisits := 0 } := by
  have pool : (progress l.bay (replyEnded l bytes s)).poolView = s.poolView :=
    (by simp : (progress l.bay (replyEnded l bytes s)).poolView = (replyEnded l bytes s).poolView).trans replyEnded_pool
  have tables : (progress l.bay (replyEnded l bytes s)).tablesView = (replyEnded l bytes s).tablesView := by simp
  subst hx
  refine ⟨faults_of_view pool _, freeCount_of_view pool, rfl, rfl, ?_, pool, ?_⟩
  · rw [reachable_of_tables tables, replyEnded_reachable]
  · rw [progress_reader, replyEnded_reader]

theorem exec_fetchReply (hv : visitAsks l v s) (hr : replies l bytes (.ok (.reader (.record o gen))) s)
    (hq : l.entry.req = .fetch (s.bay l.bay).reader.cursor) :
    exec (.replyTaken bytes) s = .next (pollsHeld s (fetchDone l.bay o gen (replyEnded l bytes s))) := by
  have ran := exec_visitReply hv hr (by rw [hq]; rfl)
  rw [hq] at ran
  exact ran

theorem fetch_other (hv : visitAsks l v s) (hr : replies l bytes (.ok (.reader (.record o gen))) s)
    (hq : l.entry.req = .fetch (s.bay l.bay).reader.cursor) (hg : (s.bay l.bay).reader.generation ≠ some gen)
    (hreach : reachable s l.bay = true) :
    ∃ t, exec (.replyTaken bytes) s = .next t ∧
      t.visit = some { v with phase := .snapshot, settleUntil := none } ∧
        (laneOf t l.bay .reader).queued = some (newEntry .snapshot t.time) ∧
        (t.bay l.bay).reader = { (s.bay l.bay).reader with failedVisits := 0 } ∧
        (t.bay l.bay).faults = (s.bay l.bay).faults := by
  have ran := exec_fetchReply hv hr hq
  rw [fetchDone_other (by rw [replyEnded_reader]; exact hg)] at ran
  obtain ⟨faults, -, -, visit, reach, -, reader⟩ := fetched_state (l := l) (bytes := bytes) (s := s) rfl
  generalize progress l.bay (replyEnded l bytes s) = x at *
  have entered : Entered (enterPhase l.bay .snapshot .snapshot x) l.bay v .snapshot .snapshot :=
    enterPhase_entered (visit.trans hv.1) rfl (reach.trans hreach)
  have pool : (enterPhase l.bay .snapshot .snapshot x).poolView = x.poolView := by simp
  refine ⟨_, ran, entered.polled.visit, entered.polled.lane, ?_, ?_⟩
  · rw [pollsHeld_reader, enterPhase_reader, reader]
  · rw [pollsHeld_faults, faults_of_view pool, faults]

theorem fetch_noRoom (hv : visitAsks l v s) (hr : replies l bytes (.ok (.reader (.record o gen))) s)
    (hq : l.entry.req = .fetch (s.bay l.bay).reader.cursor) (hg : (s.bay l.bay).reader.generation = some gen)
    (hn : (offer l.bay o s).2 = .noRoom) (hreach : reachable s l.bay = true) :
    ∃ t, exec (.replyTaken bytes) s = .next t ∧
      t.visit = some { v with phase := .sleep, settleUntil := none, suspended := true } ∧
        (laneOf t l.bay .reader).queued = some (newEntry .sleep t.time) ∧
        (t.bay l.bay).reader = { (s.bay l.bay).reader with failedVisits := 0, state := .suspended } ∧
        (t.bay l.bay).faults = (s.bay l.bay).faults ∧ t.freeCount = s.freeCount := by
  have ran := exec_fetchReply hv hr hq
  rw [fetchDone_same (by rw [replyEnded_reader]; exact hg)] at ran
  obtain ⟨faults, free, clock, visit, reach, -, reader⟩ := fetched_state (l := l) (bytes := bytes) (s := s) rfl
  generalize progress l.bay (replyEnded l bytes s) = x at *
  rw [fetchedRecord_noRoom ((offer_congr faults free clock).1.trans hn)] at ran
  set y := updVisit (fun v => { v with suspended := true })
    (updReader l.bay (fun r => { r with state := .suspended }) x) with hy
  have visit' : y.visit = some { v with suspended := true } := by
    rw [hy, updVisit_visit]
    show (x.visit).map _ = _
    rw [visit, hv.1]
    rfl
  have reach' : reachable y l.bay = true := by
    rw [← hreach, ← reach]
    exact reachable_of_tables (by simp [y])
  have reader' : (y.bay l.bay).reader = { (x.bay l.bay).reader with state := .suspended } := by
    rw [hy, updVisit_bay, updReader_bay_self]
  have entered : Entered (suspendVisit l.bay x) l.bay { v with suspended := true } .sleep .sleep :=
    enterPhase_entered visit' rfl reach'
  have pool : (suspendVisit l.bay x).poolView = x.poolView := by simp
  have kept : ((suspendVisit l.bay x).bay l.bay).reader = (y.bay l.bay).reader := enterPhase_reader
  refine ⟨_, ran, entered.polled.visit, entered.polled.lane, ?_, ?_, ?_⟩
  · rw [pollsHeld_reader, kept, reader', reader]
  · rw [pollsHeld_faults, faults_of_view pool, faults]
  · rw [pollsHeld_freeCount, freeCount_of_view pool, free]

theorem fetch_taken (hv : visitAsks l v s) (hr : replies l bytes (.ok (.reader (.record o gen))) s)
    (hq : l.entry.req = .fetch (s.bay l.bay).reader.cursor) (hg : (s.bay l.bay).reader.generation = some gen)
    (hn : (offer l.bay o s).2 ≠ .noRoom) (ho : o.source ≤ 13) :
    ∃ t, exec (.replyTaken bytes) s = .next t ∧
      (t.bay l.bay).reader.cursor = (s.bay l.bay).reader.cursor + 1 ∧
        ((findEntry t l.bay o.source o.code).isSome = true ∨ (t.bay l.bay).faults.incomplete = true) ∧
        (some ((s.bay l.bay).reader.cursor + 1) = (s.bay l.bay).reader.recordCount →
          (t.bay l.bay).reader.state = .complete ∧ announced .faultsComplete l.bay t) ∧
        (some ((s.bay l.bay).reader.cursor + 1) ≠ (s.bay l.bay).reader.recordCount →
          (t.bay l.bay).faults = ((offer l.bay o s).1.bay l.bay).faults) := by
  have ran := exec_fetchReply hv hr hq
  rw [fetchDone_same (by rw [replyEnded_reader]; exact hg)] at ran
  obtain ⟨faults, free, clock, visit, -, -, reader⟩ := fetched_state (l := l) (bytes := bytes) (s := s) rfl
  generalize progress l.bay (replyEnded l bytes s) = x at *
  obtain ⟨same, list⟩ := offer_congr (o := o) faults free clock
  rw [← list]
  rw [← same] at hn
  rw [fetchedRecord_taken hn] at ran
  have recorded := offer_recorded hn ho
  have readers : (offer l.bay o x).1.readersView = x.readersView := (offer_keeps l.bay o x).2.2.2.1
  generalize (offer l.bay o x).1 = y at *
  have visit' : y.visit = some v := (visit_of_view readers).trans (visit.trans hv.1)
  have cursors := reader_of_view readers l.bay
  clear readers
  set z := updReader l.bay (fun r => { r with cursor := r.cursor + 1 }) y with hz
  have reader' : (z.bay l.bay).reader =
      { (s.bay l.bay).reader with failedVisits := 0, cursor := (s.bay l.bay).reader.cursor + 1 } := by
    rw [hz, updReader_bay_self]
    dsimp only
    rw [cursors, reader]
  have pool : z.poolView = y.poolView := by rw [hz]; simp
  have going : z.visit.isSome = true := by
    rw [show z.visit = some v from visit']
    rfl
  have stored := recorded.of_view pool
  have kept := faults_of_view pool l.bay
  generalize z = z at *
  obtain ⟨cursor, -, -, -⟩ := fetchOrComplete_reader (b := l.bay) going
  rw [reader'] at cursor
  refine ⟨_, ran, by rw [pollsHeld_reader, cursor], ?_, fun hc => ?_, fun hc => ?_⟩
  · unfold findEntry
    rw [pollsHeld_faults]
    refine Recorded.stands ?_
    by_cases hc : some (z.bay l.bay).reader.cursor = (z.bay l.bay).reader.recordCount
    · rw [fetchOrComplete_completes hc]
      exact passCompletes_recorded stored
    · rw [fetchOrComplete_fetches hc]
      exact stored.of_view fetchNext_pool
  · rw [fetchOrComplete_completes (by rw [reader']; exact hc), pollsHeld_reader, passCompletes_reader going]
    exact ⟨rfl, pollsHeld_announced passCompletes_announced⟩
  · rw [fetchOrComplete_fetches (by rw [reader']; exact hc), pollsHeld_faults, faults_of_view fetchNext_pool, kept]

/-! ### The answer of a clear (spec 07, R140; spec 06, R132) -/

/-- The context in which the answer goes to the Pool. -/
def clearLeft (b : Bay) (source code : Nat) (s : State) : State :=
  updReader b (fun r => { r with clears := r.clears.filter (· != (source, code)) }) (progress b s)

theorem exec_clearReply {confirmed : Bool} (hv : visitAsks l v s)
    (hr : replies l bytes (.ok (.reader (.clear confirmed))) s) (hq : l.entry.req = .clear source code) :
    exec (.replyTaken bytes) s =
      .next (pollsHeld s (nextClear l.bay
        (clearAnswered l.bay source code (answerOf confirmed) (clearLeft l.bay source code (replyEnded l bytes s))))) := by
  have ran := exec_visitReply hv hr (by rw [hq]; rfl)
  rw [hq] at ran
  exact ran

theorem clearLeft_state {x : State} (hx : x = clearLeft l.bay source code (replyEnded l bytes s)) :
    (x.bay l.bay).reader.clears = (s.bay l.bay).reader.clears.filter (· != (source, code)) ∧
      x.poolView = s.poolView ∧ x.visit = s.visit := by
  have left : (clearLeft l.bay source code (replyEnded l bytes s)).poolView = (replyEnded l bytes s).poolView := by
    simp [clearLeft]
  subst hx
  refine ⟨?_, left.trans replyEnded_pool, rfl⟩
  unfold clearLeft
  rw [updReader_bay_self]
  dsimp only
  rw [progress_reader, replyEnded_reader]

theorem clearAnswered_marks {a : ClearAnswer} (hv : s.visit.isSome = true) :
    MarksKept s (clearAnswered b source code a s) := by
  unfold clearAnswered
  split
  · split
    · split
      · exact (removeEntries_goesOn hv).marks
      · exact .of_view (by simp)
      · exact .of_view (by simp)
    · exact .refl
  · exact .refl

/-- The clears that remain, whatever the answer. -/
theorem clear_leaves {a : ClearAnswer} {x : State} (hv : visitAsks l v s)
    (hx : x = clearLeft l.bay source code (replyEnded l bytes s)) :
    ((pollsHeld s (nextClear l.bay (clearAnswered l.bay source code a x))).bay l.bay).reader.clears =
      (s.bay l.bay).reader.clears.filter (· != (source, code)) := by
  obtain ⟨clears, -, visit⟩ := clearLeft_state hx
  have going : x.visit.isSome = true := by rw [visit, hv.1]; rfl
  obtain ⟨st, marks⟩ := clearAnswered_marks (a := a) (b := l.bay) (source := source) (code := code) going l.bay
  rw [pollsHeld_reader, nextClear_reader, marks]
  exact clears

theorem nextClear_pool : (nextClear b s).poolView = s.poolView := by simp

theorem filter_lengths {l : List FaultEntry} {p : FaultEntry → Bool} :
    (l.filter p).length + (l.filter fun e => !p e).length = l.length :=
  (List.length_eq_length_filter_add p).symm

theorem clear_confirmed (hv : visitAsks l v s) (hr : replies l bytes (.ok (.reader (.clear true))) s)
    (hq : l.entry.req = .clear source code) :
    ∃ t, exec (.replyTaken bytes) s = .next t ∧
      (t.bay l.bay).reader.clears = (s.bay l.bay).reader.clears.filter (· != (source, code)) ∧
        (findEntry s l.bay source code = some e → e.state = .clearPending →
          findEntry t l.bay source code = none ∧
            t.freeCount + (t.bay l.bay).faults.list.length =
              s.freeCount + (s.bay l.bay).faults.list.length) := by
  have ran := exec_clearReply hv hr hq
  have leaves := clear_leaves (a := answerOf true) (source := source) (code := code) (bytes := bytes) hv rfl
  obtain ⟨-, pool, -⟩ := clearLeft_state (l := l) (bytes := bytes) (s := s) (source := source) (code := code) rfl
  generalize clearLeft l.bay source code (replyEnded l bytes s) = x at *
  refine ⟨_, ran, leaves, fun he hp => ?_⟩
  have found : findEntry x l.bay source code = some e := (findEntry_of_view pool).trans he
  have removed : clearAnswered l.bay source code (answerOf true) x =
      removeEntries l.bay (FaultEntry.matches source code) x := by
    unfold clearAnswered
    rw [found]
    dsimp only
    rw [if_pos hp]
    rfl
  obtain ⟨list, free⟩ := removeEntries_pool (s := x) (b := l.bay) (unwanted := FaultEntry.matches source code)
  rw [removed]
  unfold findEntry
  rw [pollsHeld_freeCount, pollsHeld_faults, faults_of_view nextClear_pool, freeCount_of_view nextClear_pool, list, free,
    faults_of_view pool, freeCount_of_view pool]
  refine ⟨List.find?_eq_none.mpr fun a ha => ?_, ?_⟩
  · simpa using (List.mem_filter.mp ha).2
  · rw [Nat.add_assoc, filter_lengths]

theorem clear_stillActive (hv : visitAsks l v s) (hr : replies l bytes (.ok (.reader (.clear false))) s)
    (hq : l.entry.req = .clear source code) :
    ∃ t, exec (.replyTaken bytes) s = .next t ∧
      (t.bay l.bay).reader.clears = (s.bay l.bay).reader.clears.filter (· != (source, code)) ∧
        (findEntry s l.bay source code = some e → e.state = .clearPending →
          findEntry t l.bay source code = some { e with state := .active } ∧ announced .faultNew l.bay t) := by
  have ran := exec_clearReply hv hr hq
  have leaves := clear_leaves (a := answerOf false) (source := source) (code := code) (bytes := bytes) hv rfl
  obtain ⟨-, pool, -⟩ := clearLeft_state (l := l) (bytes := bytes) (s := s) (source := source) (code := code) rfl
  generalize clearLeft l.bay source code (replyEnded l bytes s) = x at *
  refine ⟨_, ran, leaves, fun he hp => ?_⟩
  have found : findEntry x l.bay source code = some e := (findEntry_of_view pool).trans he
  have active : clearAnswered l.bay source code (answerOf false) x =
      onlyIf (decide (e.cls = .blocking)) (clearanceNews l.bay .blockingFault)
        (post .faultNew l.bay (updEntry l.bay source code FaultEntry.reactivated x)) := by
    unfold clearAnswered
    rw [found]
    dsimp only
    rw [if_pos hp]
    rfl
  have told : announced .faultNew l.bay (clearAnswered l.bay source code (answerOf false) x) := by
    rw [active]
    have news : ∀ c y, Work .none y (onlyIf c (clearanceNews l.bay .blockingFault) y) := fun c y =>
      Work.refl.onlyIf fun _ => clearanceNews_work .refl
    exact (news _ _).announced announced_post
  have entry : findEntry (clearAnswered l.bay source code (answerOf false) x) l.bay source code =
      some { e with state := .active } := by
    have same : ∀ c y, (onlyIf c (clearanceNews l.bay .blockingFault) y).poolView = y.poolView := fun c y =>
      clearanceNews_view
    rw [active, findEntry_of_view (same _ _)]
    show findEntry (updEntry l.bay source code FaultEntry.reactivated x) l.bay source code = _
    rw [findEntry_updEntry (f := FaultEntry.reactivated) (fun _ => ⟨rfl, rfl⟩), found]
    rfl
  generalize clearAnswered l.bay source code (answerOf false) x = y at *
  have events : (nextClear l.bay y).eventsView = y.eventsView := by simp
  refine ⟨?_, pollsHeld_announced (announced_of_ports events told)⟩
  rw [← entry]
  unfold findEntry
  rw [pollsHeld_faults, faults_of_view nextClear_pool]

end

end Sys2Proof.Machine
end

section
/-! PROOF. An identity that has been read (spec 01, R7, R8, R17; spec 07, R139), and what a visit's outcomes and the
Pool's intake do. -/

namespace Sys2Proof.Machine

section
variable {s t u x y : State} {b : Bay} {l : OnLine} {bytes : List Byte} {v : Visit} {i : Identity}
  {identity : Option Identity} {fleet k : Nat} {T : TableRec}

/-! ### The check and the mismatch test that end an identification -/

/-- The bay is identified with this table record: the reader keeps its marks, the check is judged and the mismatch told. -/
structure Found (T : TableRec) (s t : State) (b : Bay) : Prop where
  table : (t.bay b).table = T
  identified : announced .identified b t
  mismatch : mismatch t b = true → announced .coachMismatch b t
  result : T.lampPlan ≠ none → checkActive s b = false → (t.bay b).lamp.result ≠ .none
  marks : MarksKept s t

theorem autoCheck_table : ((autoCheck b s).bay b).table = (s.bay b).table :=
  table_of_view (by simp : (autoCheck b s).tablesView = s.tablesView) b

/-- A PRESENT bay whose identification has been posted is checked and tested. -/
theorem found_of_tested (ho : (y.bay b).table.occ = .present) (hi : announced .identified b y)
    (hc : checkActive y b = checkActive s b) (hr : MarksKept s y) :
    Found (y.bay b).table s (testMismatch b (autoCheck b y)) b := by
  have checked : Work .none y (autoCheck b y) := autoCheck_work .refl
  have result := autoCheck_result (s := y) (b := b)
  have told := checked.announced hi
  have table := autoCheck_table (s := y) (b := b)
  have marks := hr.trans (.of_kept (autoCheck_readers (s := y) (b := b)))
  generalize autoCheck b y = z at *
  have tested : Work .none z (testMismatch b z) := testMismatch_work .refl
  have engine : (testMismatch b z).engineView = z.engineView := by simp
  have readers : (testMismatch b z).readersView = z.readersView := by simp
  have same : Machine.mismatch (testMismatch b z) b = Machine.mismatch z b :=
    mismatch_congr (by rw [testMismatch_table]) (by rw [testMismatch_table])
      (by unfold departureOf; rw [testMismatch_table])
  exact
    { table := testMismatch_table.trans table
      identified := tested.announced told
      mismatch := fun h => testMismatch_posts (same.symm.trans h)
      result := fun hp ha => by rw [lamp_of_view engine]; exact result hp ho (hc.trans ha)
      marks := marks.trans (.of_view readers) }

theorem checkActive_of_check (h : (t.bay b).lamp.check = (s.bay b).lamp.check) : checkActive t b = checkActive s b := by
  unfold checkActive
  rw [h]

theorem Plans.checkActive (h : Plans s t) : checkActive t b = checkActive s b := by
  obtain ⟨m, hm⟩ := h.lamp (b := b)
  exact checkActive_of_check (by rw [hm])

/-! ### An identity is taken (spec 01, R7, R8) -/

/-- The table record of a bay that takes an identity, or none. -/
def TableRec.taking (identity : Option Identity) (r : TableRec) : TableRec :=
  { r with
    occ := .present, recovery := false, identity := identity, lampPlan := lampPlanFor r.planOverride identity }

theorem becomePresent_table : ((becomePresent b identity s).bay b).table = (s.bay b).table.taking identity := by
  unfold becomePresent
  rw [post_bay, updTable_bay_self]
  rfl

theorem becomePresent_announced : announced .identified b (becomePresent b identity s) := announced_post

theorem becomePresent_checkActive : checkActive (becomePresent b identity s) b = checkActive s b := by
  have engine : (becomePresent b identity s).engineView = s.engineView := by simp
  exact checkActive_of_check (by rw [lamp_of_view engine])

theorem becomePresent_heat : ((becomePresent b identity s).bay b).heat = (s.bay b).heat :=
  heat_of_view (by simp : (becomePresent b identity s).heatsView = s.heatsView) b

theorem unidentified_found : Found ((s.bay b).table.taking none) s (unidentified b s) b := by
  rw [← becomePresent_table]
  unfold unidentified
  exact found_of_tested (by rw [becomePresent_table]; rfl) becomePresent_announced becomePresent_checkActive
    (.of_view (by simp))

theorem copyProfile_events {c : Nat} (h : announced .identified b s) : announced .identified b (copyProfile b c s) := by
  have same : (copyProfile b c s).eventsView = s.eventsView := by simp
  exact announced_of_ports same h

theorem identified_found : Found ((s.bay b).table.taking (some i)) s (identified b i s) b := by
  unfold identified
  have present : ((becomePresent b (some i) s).bay b).table = (s.bay b).table.taking (some i) := becomePresent_table
  have told : announced .identified b (becomePresent b (some i) s) := becomePresent_announced
  have active : checkActive (becomePresent b (some i) s) b = checkActive s b := becomePresent_checkActive
  have marks : MarksKept s (becomePresent b (some i) s) := .of_view (by simp)
  generalize becomePresent b (some i) s = y at *
  have tables : (copyProfile b i.coachType y).tablesView = y.tablesView := by simp
  have engine : (copyProfile b i.coachType y).engineView = y.engineView := by simp
  have readers : (copyProfile b i.coachType y).readersView = y.readersView := by simp
  have table := (table_of_view tables b).trans present
  have told' := copyProfile_events (c := i.coachType) told
  have active' := (checkActive_of_check (by rw [lamp_of_view engine])).trans active
  have marks' := marks.trans (.of_view readers)
  generalize copyProfile b i.coachType y = z at *
  have judged : Plans z (judgePlan b z) := judgePlan_plans .refl
  have kept : (judgePlan b z).readersView = z.readersView := by simp
  have rests := (judged.rests b).table.trans table
  rw [← rests]
  exact found_of_tested (by rw [rests]; rfl) (judged.announced told') (judged.checkActive.trans active')
    (marks'.trans (.of_view kept))

theorem takeIdentity_found : Found ((s.bay b).table.taking identity) s (takeIdentity b identity s) b := by
  cases identity with
  | some i => exact identified_found
  | none => exact unidentified_found

/-- The Planner copies the profile of the coach type (spec 04, R70). -/
theorem identified_profile {c : Fin 8} (hc : c.val = i.coachType) :
    ((takeIdentity b (some i) s).bay b).heat.profile = some s.profiles[c] := by
  have rests : Rests (copyProfile b i.coachType (becomePresent b (some i) s)) (takeIdentity b (some i) s) b :=
    identified_rests
  rw [rests.profile]
  unfold copyProfile
  rw [dif_pos (hc ▸ c.isLt), updHeat_bay_self]
  simp only [← hc]
  rfl

theorem unidentified_profile : ((takeIdentity b none s).bay b).heat.profile = (s.bay b).heat.profile := by
  have rests : Rests (becomePresent b none s) (takeIdentity b none s) b := unidentified_rests
  rw [rests.profile, becomePresent_heat]

theorem takeIdentity_faults : ((takeIdentity b identity s).bay b).faults = (s.bay b).faults :=
  faults_of_view (by simp : (takeIdentity b identity s).poolView = s.poolView) b

theorem takeIdentity_announced {e : BayEvent} (h : announced e b s) : announced e b (takeIdentity b identity s) := by
  have work : Work (.table b fun _ => False) s (takeIdentity b identity s) := takeIdentity_work .refl rfl
  exact work.announced h

/-! ### The same coach is found again (spec 01, R17) -/

theorem sameCoach_found :
    Found { (s.bay b).table with occ := .present, recovery := false } s (sameCoach b s) b := by
  unfold sameCoach
  set z := updReader b (fun r => { r with state := if visiting s b then .reading else .unread })
    (post .identified b (updTable b (fun t => { t with occ := .present, recovery := false }) s)) with hz
  have table : (z.bay b).table = { (s.bay b).table with occ := .present, recovery := false } := by
    rw [hz, updReader_table, post_bay, updTable_bay_self]
  have told : announced .identified b z := announced_post (b := b) (e := .identified)
  have active : checkActive z b = checkActive s b := checkActive_of_check (by simp [z])
  have marks : MarksKept s z := fun x => by
    rw [hz, updReader_bay]
    split
    case isTrue h => subst h; exact ⟨_, by simp; rfl⟩
    · exact ⟨_, by simp; rfl⟩
  generalize z = z at *
  have recovered : Plans z (heatRecovered b z) := enterOff_plans .refl
  have kept : (heatRecovered b z).readersView = z.readersView := by simp
  have rests := (recovered.rests b).table.trans table
  rw [← rests]
  exact found_of_tested (by rw [rests]) (recovered.announced told) (recovered.checkActive.trans active)
    (marks.trans (.of_view kept))

theorem sameCoach_profile : ((sameCoach b s).bay b).heat.profile = (s.bay b).heat.profile :=
  sameCoach_rests.profile.trans (by rw [updTable_heat])

theorem sameCoach_faults : ((sameCoach b s).bay b).faults = (s.bay b).faults :=
  faults_of_view (by simp : (sameCoach b s).poolView = s.poolView) b

theorem sameCoach_departed {p : Port} :
    eventSet (sameCoach b s) p (bayEventKind .departed) = eventSet s p (bayEventKind .departed) := by
  have work : Work (.table b fun _ => False) s (sameCoach b s) := sameCoach_work .refl rfl
  exact work.eventSet rfl fun h => h

/-! ### Another coach is found (spec 01, R17; spec 07, R151) -/

/-- What the reader's context is after the cleanup within a visit, but for its state. -/
def ReaderRec.fresh (r : ReaderRec) : Prop :=
  ∃ st, r = { ReaderRec.reset with passWanted := true, state := st }

theorem ReaderRec.fresh.of_marks (h : (s.bay b).reader.fresh) (k : MarksKept s t) : (t.bay b).reader.fresh := by
  obtain ⟨st, hst⟩ := h
  obtain ⟨m, hm⟩ := k b
  exact ⟨m, by rw [hm, hst]⟩

theorem readerCleanupInVisit_fresh : ((readerCleanupInVisit b s).bay b).reader.fresh := by
  have kept : ReadersKept (updReader b (fun _ => { ReaderRec.reset with passWanted := true, state := .reading }) s)
      (readerCleanupInVisit b s) := leaveQueues_readers
  refine ReaderRec.fresh.of_marks ⟨.reading, ?_⟩ (.of_kept kept)
  rw [updReader_bay_self]

theorem cleanedUp_fresh : ((cleanedUp true b s).bay b).reader.fresh := by
  have unread : ((cleanupReader true b (emptyFaults b s)).bay b).reader.fresh := readerCleanupInVisit_fresh
  unfold cleanedUp
  generalize cleanupReader true b (emptyFaults b s) = y at *
  have idle : MarksKept y (clearanceCleanup b y) := .of_view (by simp)
  generalize clearanceCleanup b y = z at *
  have unchecked : MarksKept z (lampCleanup b z) := .of_kept lampCleanup_readers
  generalize lampCleanup b z = w at *
  have cold : MarksKept w (heatCleanup b (updTable b (fun t => { t with identity := none, lampPlan := none, recovery := false }) w)) :=
    .of_view (by simp)
  exact unread.of_marks ((idle.trans unchecked).trans cold)

/-- What an unobserved departure and the arrival after it leave for the identification. -/
structure Replaced (t : State) (b : Bay) : Prop where
  reader : (t.bay b).reader.fresh
  list : (t.bay b).faults.list = []
  check : checkActive t b = false
  departed : announced .departed b t
  arrival : announced .arrival b t

theorem departs_inVisit {kind : DepartureKind} :
    departs kind true true b s =
      cleanedUp true b (post .departed b (updTable b (fun t => { t with lastDeparture := some kind }) s)) := by
  unfold departs
  exact vacancyCleanup_keep

theorem otherCoach_replaced : Replaced (otherCoach true b s) b := by
  unfold otherCoach
  rw [departs_inVisit]
  have told : announced .departed b
      (post .departed b (updTable b (fun t => { t with lastDeparture := some .unobserved }) s)) := announced_post
  generalize post .departed b (updTable b (fun t => { t with lastDeparture := some .unobserved }) s) = y at told
  have work : Work (.table b fun _ => True) y (vacancyCleanup true true b y) := vacancyCleanup_work .refl rfl
  rw [vacancyCleanup_keep] at work
  have departed := work.announced told
  have reader := cleanedUp_fresh (s := y) (b := b)
  have pool := cleanedUp_pool (s := y) (b := b) (c := true)
  obtain ⟨check, -⟩ := cleanedUp_lamp (s := y) (b := b) (c := true)
  obtain ⟨list, -⟩ := emptyFaults_faults (s := y) (b := b)
  rw [← faults_of_view pool] at list
  generalize cleanedUp true b y = z at *
  have posted : Work (.table b fun _ => True) z (post .arrival b z) := Work.refl.post fun _ => trivial
  exact
    { reader := by rw [post_bay]; exact reader
      list := by rw [post_bay]; exact list
      check := by unfold checkActive; rw [post_bay, check]
      departed := posted.announced departed
      arrival := announced_post }

/-! ### What every identity read leaves -/

/-- The bay is PRESENT and identified, its booking as it was. -/
structure IdentityTaken (s t : State) (b : Bay) : Prop where
  occ : (t.bay b).table.occ = .present
  recovery : (t.bay b).table.recovery = false
  departure : (t.bay b).table.departure = (s.bay b).table.departure
  identified : announced .identified b t
  wanted : (s.bay b).reader.identityWanted = false → (t.bay b).reader.identityWanted = false
  failed : (s.bay b).reader.failedVisits = 0 → (t.bay b).reader.failedVisits = 0
  mismatch : mismatch t b = true → announced .coachMismatch b t
  result : (t.bay b).table.lampPlan ≠ none → checkActive s b = false → (t.bay b).lamp.result ≠ .none

theorem Found.taken (h : Found T s t b) (ho : T.occ = .present) (hr : T.recovery = false)
    (hd : T.departure = (s.bay b).table.departure) : IdentityTaken s t b := by
  obtain ⟨st, marks⟩ := h.marks b
  exact
    { occ := by rw [h.table, ho]
      recovery := by rw [h.table, hr]
      departure := by rw [h.table, hd]
      identified := h.identified
      wanted := fun hw => by rw [marks]; exact hw
      failed := fun hf => by rw [marks]; exact hf
      mismatch := h.mismatch
      result := fun hp hc => h.result (by rw [← h.table]; exact hp) hc }

theorem takeIdentity_taken : IdentityTaken s (takeIdentity b identity s) b := takeIdentity_found.taken rfl rfl rfl

theorem sameCoach_taken : IdentityTaken s (sameCoach b s) b := sameCoach_found.taken rfl rfl rfl

theorem otherCoach_taken : IdentityTaken s (takeIdentity b identity (otherCoach true b s)) b := by
  have replaced := otherCoach_replaced (s := s) (b := b)
  have table := otherCoach_table (s := s) (b := b) (c := true)
  generalize otherCoach true b s = y at *
  have taken : IdentityTaken y (takeIdentity b identity y) b := takeIdentity_taken
  obtain ⟨st, reader⟩ := replaced.reader
  exact { taken with
    departure := taken.departure.trans (by rw [table])
    wanted := fun _ => taken.wanted (by rw [reader]; rfl)
    failed := fun _ => taken.failed (by rw [reader]; rfl)
    result := fun hp _ => taken.result hp replaced.check }

/-! ### The cases of an identity read (spec 01, R7, R8, R17) -/

theorem identityRead_first (ho : (s.bay b).table.occ = .arriving) (hr : (s.bay b).table.recovery = false) :
    identityRead b fleet k s = takeIdentity b (validIdentity fleet k) s := by
  unfold identityRead
  rw [ho, hr]
  rfl

theorem identityRead_again (ho : (s.bay b).table.occ = .arriving) (hr : (s.bay b).table.recovery = true) :
    identityRead b fleet k s = recoveredIdentity b (validIdentity fleet k) s := by
  unfold identityRead
  rw [ho, hr]
  rfl

theorem validIdentity_some (hf : 1 ≤ fleet) (hm : fleet ≤ 65535) (hk : k ≤ 7) :
    validIdentity fleet k = some { fleet := fleet, coachType := k } := if_pos ⟨hf, hm, hk⟩

theorem validIdentity_none (h : fleet = 0 ∨ 7 < k) : validIdentity fleet k = none := if_neg (by omega)

theorem validIdentity_fleet (h : validIdentity fleet k = some i) : i.fleet = fleet := by
  unfold validIdentity at h
  split at h
  · rw [← Option.some.inj h]
  · exact absurd h (by simp)

theorem recoveredIdentity_same (hh : (s.bay b).table.identity = some i) {j : Identity} (hj : j.fleet = i.fleet) :
    recoveredIdentity b (some j) s = sameCoach b s := by
  unfold recoveredIdentity
  rw [hh]
  exact if_pos hj

theorem recoveredIdentity_other (hh : (s.bay b).table.identity = some i)
    (hn : ∀ j, identity = some j → j.fleet ≠ i.fleet) :
    recoveredIdentity b identity s = takeIdentity b identity (otherCoach true b s) := by
  unfold recoveredIdentity
  rw [hh]
  cases identity with
  | some j => exact if_neg (hn j rfl)
  | none => rfl

theorem recoveredIdentity_taken : IdentityTaken s (recoveredIdentity b identity s) b := by
  unfold recoveredIdentity
  split
  · split
    · exact sameCoach_taken
    · exact otherCoach_taken
  · exact otherCoach_taken

theorem identityRead_taken (ho : (s.bay b).table.occ = .arriving) : IdentityTaken s (identityRead b fleet k s) b := by
  cases hr : (s.bay b).table.recovery with
  | false => rw [identityRead_first ho hr]; exact takeIdentity_taken
  | true => rw [identityRead_again ho hr]; exact recoveredIdentity_taken

/-! ### IDENT in a visit (spec 07, R139) -/

/-- The state in which the Bay Table takes the identity. -/
def identHeard (l : OnLine) (bytes : List Byte) (s : State) : State :=
  updReader l.bay (fun r => { r with identityWanted := false }) (progress l.bay (replyEnded l bytes s))

/-- The visit goes on to its clears. -/
def identOver (s : State) (b : Bay) (u : State) : State :=
  pollsHeld s (nextClear b (updReader b ReaderRec.identityOver u))

theorem exec_identReply (hv : visitAsks l v s) (hr : replies l bytes (.ok (.reader (.identity fleet k))) s)
    (hq : l.entry.req = .ident) :
    exec (.replyTaken bytes) s = .next (identOver s l.bay (identityRead l.bay fleet k (identHeard l bytes s))) := by
  have ran := exec_visitReply hv hr (by rw [hq]; rfl)
  rw [hq] at ran
  exact ran

/-- What an identity read may rest on is as it was. -/
structure Heard (s x : State) (b : Bay) : Prop where
  table : (x.bay b).table = (s.bay b).table
  profile : (x.bay b).heat.profile = (s.bay b).heat.profile
  faults : (x.bay b).faults = (s.bay b).faults
  check : checkActive x b = checkActive s b
  profiles : x.profiles = s.profiles
  events : x.ports = s.ports
  reader : (x.bay b).reader = { (s.bay b).reader with failedVisits := 0, identityWanted := false }

theorem identHeard_heard : Heard s (identHeard l bytes s) l.bay := by
  have tables : (identHeard l bytes s).tablesView = (replyEnded l bytes s).tablesView := by simp [identHeard]
  have pool : (identHeard l bytes s).poolView = (replyEnded l bytes s).poolView := by simp [identHeard]
  exact
    { table := (table_of_view tables _).trans replyEnded_table
      profile := by simp [identHeard, progress, replyEnded]; rfl
      faults := faults_of_view (pool.trans replyEnded_pool) _
      check := checkActive_of_check (by simp [identHeard, progress, replyEnded]; rfl)
      profiles := rfl
      events := rfl
      reader := by unfold identHeard; rw [updReader_bay_self, progress_reader, replyEnded_reader] }

theorem identOver_table : ((identOver s b u).bay b).table = (u.bay b).table := by
  unfold identOver
  generalize hy : updReader b ReaderRec.identityOver u = y
  have tables : (nextClear b y).tablesView = y.tablesView := by simp
  rw [pollsHeld_table, table_of_view tables, ← hy, updReader_table]

theorem identOver_heat : ((identOver s b u).bay b).heat = (u.bay b).heat := by
  unfold identOver
  generalize hy : updReader b ReaderRec.identityOver u = y
  have heats : (nextClear b y).heatsView = y.heatsView := by simp
  rw [pollsHeld_heat, heat_of_view heats, ← hy, updReader_heat]

theorem identOver_lamp : ((identOver s b u).bay b).lamp = (u.bay b).lamp := by
  unfold identOver
  generalize hy : updReader b ReaderRec.identityOver u = y
  have engine : (nextClear b y).engineView = y.engineView := by simp
  rw [pollsHeld_lamp, lamp_of_view engine, ← hy, updReader_lamp]

theorem identOver_faults : ((identOver s b u).bay b).faults = (u.bay b).faults := by
  unfold identOver
  generalize hy : updReader b ReaderRec.identityOver u = y
  rw [pollsHeld_faults, faults_of_view nextClear_pool, ← hy, updReader_faults]

theorem identOver_ports : (identOver s b u).ports = u.ports := by
  unfold identOver
  generalize hy : updReader b ReaderRec.identityOver u = y
  have events : (nextClear b y).eventsView = y.eventsView := by simp
  have same : y.ports = u.ports := by rw [← hy]; rfl
  rw [pollsHeld_ports, ← same]
  exact events

theorem identOver_reader : ∃ st, ((identOver s b u).bay b).reader = { (u.bay b).reader with state := st } :=
  ⟨_, by unfold identOver; rw [pollsHeld_reader, nextClear_reader, updReader_bay_self]; rfl⟩

theorem identOver_announced {e : BayEvent} (h : announced e b u) : announced e b (identOver s b u) :=
  announced_of_ports identOver_ports h

/-- What an identity read leaves is left as the visit goes on. -/
theorem IdentityTaken.over (h : IdentityTaken x u b) (hx : Heard s x b) : IdentityTaken s (identOver s b u) b := by
  obtain ⟨st, reader⟩ := identOver_reader (s := s) (b := b) (u := u)
  have same : Machine.mismatch (identOver s b u) b = Machine.mismatch u b :=
    mismatch_congr (by rw [identOver_table]) (by rw [identOver_table]) (by unfold departureOf; rw [identOver_table])
  exact
    { occ := by rw [identOver_table]; exact h.occ
      recovery := by rw [identOver_table]; exact h.recovery
      departure := by rw [identOver_table, ← hx.table]; exact h.departure
      identified := identOver_announced h.identified
      wanted := fun _ => by rw [reader]; exact h.wanted (by rw [hx.reader])
      failed := fun _ => by rw [reader]; exact h.failed (by rw [hx.reader])
      mismatch := fun hm => identOver_announced (h.mismatch (same.symm.trans hm))
      result := fun hp hc => by
        rw [identOver_lamp]
        exact h.result (by rw [← identOver_table (s := s)]; exact hp) (hx.check.trans hc) }

end

end Sys2Proof.Machine
end

section
/-! PROOF. Outcomes of a visit's transactions and the Pool's intake: the obligation (spec 06, 6.3, 6.4; spec 07, 7.5). -/

namespace Sys2Proof.Machine

section
variable {s t u x : State} {b : Bay} {l : OnLine} {bytes : List Byte} {v : Visit} {i : Identity} {fleet k : Nat}
  {o : Offer}

/-! ### The first identity read of a coach, and the read after a loss -/

/-- A valid identity is stored, with its plan number and its profile (spec 01, R7). -/
theorem first_valid (hx : Heard s x b) (ho : (s.bay b).table.occ = .arriving) (hr : (s.bay b).table.recovery = false)
    (hf : 1 ≤ fleet) (hm : fleet ≤ 65535) (hk : k ≤ 7) (ht : t = identOver s b (identityRead b fleet k x)) :
    (t.bay b).table.identity = some { fleet := fleet, coachType := k } ∧
      (t.bay b).table.lampPlan = (s.bay b).table.planOverride.orElse (fun _ => some k) ∧
      ∀ c : Fin 8, c.val = k → (t.bay b).heat.profile = some s.profiles[c] := by
  subst ht
  rw [identityRead_first (by rw [hx.table, ho]) (by rw [hx.table, hr]), validIdentity_some hf hm hk, identOver_table,
    identOver_heat, takeIdentity_found.table, hx.table, ← hx.profiles]
  exact ⟨rfl, lampPlanFor_eq, fun c hc => identified_profile hc⟩

/-- An invalid identity is none (spec 01, R8). -/
theorem first_invalid (hx : Heard s x b) (ho : (s.bay b).table.occ = .arriving)
    (hr : (s.bay b).table.recovery = false) (hn : fleet = 0 ∨ 7 < k)
    (ht : t = identOver s b (identityRead b fleet k x)) :
    (t.bay b).table.identity = none ∧ (t.bay b).table.lampPlan = (s.bay b).table.planOverride ∧
      (t.bay b).heat.profile = (s.bay b).heat.profile := by
  have plan : lampPlanFor (s.bay b).table.planOverride none = (s.bay b).table.planOverride := by
    cases (s.bay b).table.planOverride <;> rfl
  subst ht
  rw [identityRead_first (by rw [hx.table, ho]) (by rw [hx.table, hr]), validIdentity_none hn, identOver_table,
    identOver_heat, takeIdentity_found.table, hx.table, unidentified_profile, hx.profile]
  exact ⟨rfl, plan, rfl⟩

/-- The coach that was known is found again (spec 01, R17). -/
theorem again_same (hx : Heard s x b) (ho : (s.bay b).table.occ = .arriving) (hr : (s.bay b).table.recovery = true)
    (hh : (s.bay b).table.identity = some i) (hf : 1 ≤ fleet) (hm : fleet ≤ 65535) (hk : k ≤ 7) (hi : i.fleet = fleet)
    (ht : t = identOver s b (identityRead b fleet k x)) :
    (t.bay b).table = { (s.bay b).table with occ := .present, recovery := false } ∧
      (t.bay b).heat.profile = (s.bay b).heat.profile ∧ (t.bay b).faults = (s.bay b).faults ∧
      ∀ p : Port, (t.port p).baySets[bayEventKind .departed] = (s.port p).baySets[bayEventKind .departed] := by
  subst ht
  rw [identityRead_again (by rw [hx.table, ho]) (by rw [hx.table, hr]), validIdentity_some hf hm hk,
    recoveredIdentity_same (by rw [hx.table, hh]) hi.symm, identOver_table, identOver_heat, identOver_faults,
    sameCoach_found.table, sameCoach_profile, sameCoach_faults, hx.table, hx.profile, hx.faults]
  exact ⟨rfl, rfl, rfl, fun p =>
    ((eventSet_congr identOver_ports).trans sameCoach_departed).trans (eventSet_congr hx.events)⟩

/-- Another coach is found (spec 01, R17). -/
theorem again_other (hx : Heard s x b) (ho : (s.bay b).table.occ = .arriving) (hr : (s.bay b).table.recovery = true)
    (hh : (s.bay b).table.identity = some i) (hi : i.fleet ≠ fleet)
    (ht : t = identOver s b (identityRead b fleet k x)) :
    (t.bay b).table.identity = validIdentity fleet k ∧ (t.bay b).table.lastDeparture = some .unobserved ∧
      announced .departed b t ∧ announced .arrival b t ∧ (t.bay b).faults.list = [] ∧
      (t.bay b).reader.passWanted = true := by
  have other : ∀ j, validIdentity fleet k = some j → j.fleet ≠ i.fleet := fun j hj => by
    rw [validIdentity_fleet hj]
    exact hi.symm
  have replaced := otherCoach_replaced (s := x) (b := b)
  have table := otherCoach_table (s := x) (b := b) (c := true)
  subst ht
  rw [identityRead_again (by rw [hx.table, ho]) (by rw [hx.table, hr]),
    recoveredIdentity_other (by rw [hx.table, hh]) other]
  generalize otherCoach true b x = y at *
  have found : Found ((y.bay b).table.taking (validIdentity fleet k)) y (takeIdentity b (validIdentity fleet k) y) b :=
    takeIdentity_found
  have fresh := replaced.reader.of_marks found.marks
  obtain ⟨st, reader⟩ := identOver_reader (s := s) (b := b) (u := takeIdentity b (validIdentity fleet k) y)
  rw [identOver_table, identOver_faults, found.table, takeIdentity_faults, reader]
  refine ⟨rfl, ?_, identOver_announced (takeIdentity_announced replaced.departed),
    identOver_announced (takeIdentity_announced replaced.arrival), replaced.list, ?_⟩
  · show (y.bay b).table.lastDeparture = _
    rw [table]
  · obtain ⟨st', fresh⟩ := fresh
    rw [fresh]

/-- No identity is wanted any more, and no failed visit is counted. -/
theorem IdentityTaken.marks_over (h : IdentityTaken x u b) (hx : Heard s x b) :
    ((identOver s b u).bay b).reader.identityWanted = false ∧ ((identOver s b u).bay b).reader.failedVisits = 0 := by
  obtain ⟨st, reader⟩ := identOver_reader (s := s) (b := b) (u := u)
  rw [reader]
  exact ⟨h.wanted (by rw [hx.reader]), h.failed (by rw [hx.reader])⟩

theorem ident_taken (hv : visitAsks l v s) (hr : replies l bytes (.ok (.reader (.identity fleet k))) s)
    (hq : l.entry.req = .ident) (ho : (s.bay l.bay).table.occ = .arriving) :
    ∃ t, exec (.replyTaken bytes) s = .next t ∧
      (t.bay l.bay).table.occ = .present ∧ (t.bay l.bay).table.recovery = false ∧
        announced .identified l.bay t ∧ (t.bay l.bay).reader.identityWanted = false ∧
        (t.bay l.bay).reader.failedVisits = 0 ∧ (t.bay l.bay).table.departure = (s.bay l.bay).table.departure ∧
        (mismatch t l.bay = true → announced .coachMismatch l.bay t) ∧
        ((t.bay l.bay).table.lampPlan ≠ none → (s.bay l.bay).lamp.result = .none →
          checkActive s l.bay = false → (t.bay l.bay).lamp.result ≠ .none) ∧
        ((s.bay l.bay).table.recovery = false → 1 ≤ fleet → fleet ≤ 65535 → k ≤ 7 →
          (t.bay l.bay).table.identity = some { fleet := fleet, coachType := k } ∧
            (t.bay l.bay).table.lampPlan = (s.bay l.bay).table.planOverride.orElse (fun _ => some k) ∧
            ∀ c : Fin 8, c.val = k → (t.bay l.bay).heat.profile = some s.profiles[c]) ∧
        ((s.bay l.bay).table.recovery = false → fleet = 0 ∨ 7 < k →
          (t.bay l.bay).table.identity = none ∧
            (t.bay l.bay).table.lampPlan = (s.bay l.bay).table.planOverride ∧
            (t.bay l.bay).heat.profile = (s.bay l.bay).heat.profile) ∧
        ((s.bay l.bay).table.recovery = true → (s.bay l.bay).table.identity = some i → 1 ≤ fleet →
          fleet ≤ 65535 → k ≤ 7 → i.fleet = fleet →
          (t.bay l.bay).table = { (s.bay l.bay).table with occ := .present, recovery := false } ∧
            (t.bay l.bay).heat.profile = (s.bay l.bay).heat.profile ∧
            (t.bay l.bay).faults = (s.bay l.bay).faults ∧
            ∀ p : Port, (t.port p).baySets[bayEventKind .departed] = (s.port p).baySets[bayEventKind .departed]) ∧
        ((s.bay l.bay).table.recovery = true → (s.bay l.bay).table.identity = some i → i.fleet ≠ fleet →
          (t.bay l.bay).table.identity = validIdentity fleet k ∧
            (t.bay l.bay).table.lastDeparture = some .unobserved ∧ announced .departed l.bay t ∧
            announced .arrival l.bay t ∧ (t.bay l.bay).faults.list = [] ∧
            (t.bay l.bay).reader.passWanted = true) := by
  have ran := exec_identReply hv hr hq
  have heard := identHeard_heard (l := l) (bytes := bytes) (s := s)
  generalize identHeard l bytes s = x at *
  have read : IdentityTaken x (identityRead l.bay fleet k x) l.bay :=
    identityRead_taken (by rw [heard.table, ho])
  have taken := read.over heard
  obtain ⟨wanted, failed⟩ := read.marks_over heard
  exact ⟨_, ran, taken.occ, taken.recovery, taken.identified, wanted, failed, taken.departure, taken.mismatch,
    fun hp _ hc => taken.result hp hc,
    fun hr hf hm hk => first_valid heard ho hr hf hm hk rfl,
    fun hr hn => first_invalid heard ho hr hn rfl,
    fun hr hh hf hm hk hi => again_same heard ho hr hh hf hm hk hi rfl,
    fun hr hh hi => again_other heard ho hr hh hi rfl⟩

/-! ### The Pool's intake -/

theorem new_made (h : findEntry s b o.source o.code = none)
    (hq : (s.bay b).faults.list.length < (s.bay b).faults.quota) (hf : 0 < s.freeCount) :
    (offer b o s).2 = .new ∧ (offer b o s).1.freeCount = s.freeCount - 1 ∧
      announced .faultNew b (offer b o s).1 ∧
      ((offer b o s).1.bay b).faults.list = (s.bay b).faults.list ++ [freshEntry (minuteIfSet s) o] := by
  obtain ⟨list, -, free, told⟩ := makeEntry_made (b := b) (o := o) (s := s)
  rw [offer_new h hq hf]
  exact ⟨rfl, free, told, list⟩

theorem refused_marked (h : offer b o s = (refuseRecord b s, .refused)) :
    (offer b o s).2 = .refused ∧
      ((offer b o s).1.bay b).faults = { (s.bay b).faults with incomplete := true, refusal := true } := by
  rw [h]
  exact ⟨rfl, refuseRecord_faults⟩

end

/-- Settles O47: the outcomes of the visit's transactions in the order of its phases, then the Pool's intake. -/
theorem readerOutcomesAndThePoolIntakeAreTaken : Obligations.ReaderOutcomesAndThePoolIntakeAreTaken := by
  unfold Obligations.ReaderOutcomesAndThePoolIntakeAreTaken
  intro l bytes v fleet k count gen source code i o e b s
  refine ⟨fun hv hr => ⟨wake_taken hv hr, sleep_idle hv hr, sleep_suspended hv hr⟩, refusal_taken, ident_taken,
    snapshot_taken, fun hv hr hq => ⟨fetch_other hv hr hq, fetch_noRoom hv hr hq, fetch_taken hv hr hq⟩,
    clear_confirmed, clear_stillActive, fun h => ?merged, fun h hq => ?room, fun h hq => ?full⟩
  case merged =>
    obtain ⟨outcome, free, length, found⟩ := merged_found h
    exact ⟨outcome, free, length, fun hc => by rw [found, mergeEntry_coach hc],
      fun hp => by rw [found, mergeEntry_part hp]⟩
  case room =>
    refine ⟨fun hf => ?_, offer_noRoom h hq, fun hf ho => refused_marked (offer_partRefused h hq hf ho)⟩
    rw [← freshEntry_eq]
    exact new_made h hq hf
  case full =>
    exact ⟨fun old hold => displaced_taken h hq (Option.mem_def.mp hold),
      fun hall => refused_marked (offer_fullRefused h hq (displacement_none hall))⟩

end Sys2Proof.Machine
end

section
/-! PROOF. Changes that move no poll class (spec 02, R40): a command that makes only such changes holds no poll. -/

namespace Sys2Proof.Machine

/-- No bay's poll class has moved. -/
def ClassesKept (s t : State) : Prop := ∀ b : Bay, pollPeriod t b = pollPeriod s b

theorem inRelease_congr {s t : State} {b : Bay} (h : (t.bay b).clear.state = (s.bay b).clear.state) :
    inRelease t b = inRelease s b := by
  unfold inRelease
  rw [h]

namespace ClassesKept

variable {s t u : State} {b : Bay}

theorem refl : ClassesKept s s := fun _ => rfl

theorem trans (h : ClassesKept s t) (k : ClassesKept t u) : ClassesKept s u := fun b => (k b).trans (h b)

theorem pollsHeld (h : ClassesKept s t) : pollsHeld s t = t := pollsHeld_of_period h

/-- A command that is its own last word: no poll is held over it. -/
theorem carried {f : State → State} (h : ClassesKept s t) (hreset : s.inReset = false) (hf : f s = t) :
    carryOut (outOfReset f) s = .next t := by
  rw [carryOut_outOfReset hreset, hf, h.pollsHeld]

theorem updLoop {f : LoopRec → LoopRec} : ClassesKept s (updLoop b f s) := fun x =>
  pollPeriod_congr (by simp) (by simp) (by simp) (by simp) (inRelease_congr (by simp)) rfl

theorem updLane {sort : LoopSort} {f : Lane → Lane} : ClassesKept s (updLane b sort f s) := updLoop

theorem updPower {f : PowerRec → PowerRec} (hf : ∀ r, (f r).grant = r.grant ∧ (f r).closed = r.closed) :
    ClassesKept s (updPower b f s) := fun x => by
  have power : ((Machine.updPower b f s).bay x).power.grant = (s.bay x).power.grant ∧
      ((Machine.updPower b f s).bay x).power.closed = (s.bay x).power.closed := by
    rw [updPower_bay]
    split
    case isTrue h => subst h; exact hf _
    · exact ⟨rfl, rfl⟩
  exact pollPeriod_congr (by simp) power.1 power.2 (by simp) (inRelease_congr (by simp)) rfl

theorem updLamp {f : LampRec → LampRec} (hf : ∀ r, (f r).check = r.check) : ClassesKept s (updLamp b f s) := fun x => by
  have check : ((Machine.updLamp b f s).bay x).lamp.check = (s.bay x).lamp.check := by
    rw [updLamp_bay]
    split
    case isTrue h => subst h; exact hf _
    · rfl
  exact pollPeriod_congr (by simp) (by simp) (by simp) check (inRelease_congr (by simp)) rfl

/-- A clearance that stays in release, or out of it. -/
theorem updClear {f : ClearRec → ClearRec} (hf : inRelease (updClear b f s) b = inRelease s b) :
    ClassesKept s (updClear b f s) := fun x => by
  have release : inRelease (Machine.updClear b f s) x = inRelease s x := by
    by_cases h : x = b
    · subst h
      exact hf
    · exact inRelease_congr (by rw [updClear_bay_ne h])
  exact pollPeriod_congr (by simp) (by simp) (by simp) (by simp) release rfl

theorem updClear_state {f : ClearRec → ClearRec} (hf : ∀ r, (f r).state = r.state) :
    ClassesKept s (Machine.updClear b f s) :=
  updClear (inRelease_congr (by rw [updClear_bay_self]; exact hf _))

theorem onlyIf {c : Bool} {f : State → State} (hf : ClassesKept s (f s)) : ClassesKept s (onlyIf c f s) := by
  cases c with
  | true => exact hf
  | false => exact refl

end ClassesKept

end Sys2Proof.Machine
end

section
/-! PROOF. The end of reset (spec 01, R2; spec 02, R38, R39; spec 09, R182), and the polls and probes that fall due (spec
02, R37, R40). -/

namespace Sys2Proof.Machine

/-! ### The end of reset -/

/-- A port at reset has nothing pending (spec 10, R183). -/
theorem reset_pendingSet {mask : KindSet} : (PortRec.reset mask).pendingSet = 0#18 := by
  have none_pending : ∀ k, (PortRec.reset mask).pendingKind k = false := fun k => by
    simp [PortRec.pendingKind, PortRec.reset]
  unfold PortRec.pendingSet
  simp [none_pending]

/-- Each port is at reset with its role's mask. -/
theorem atReset_port {inReset shedLine : Bool} {state : SupplyState} {time : Moment} {poll : PollPlan}
    {pending : List Instr} (p : Port) :
    ∃ mask, (State.atReset inReset shedLine state time poll pending).port p = .reset mask := by
  cases p <;> exact ⟨_, rfl⟩

/-- A port at reset calls for no attention (spec 10, R185, R189). -/
theorem attn_of_reset {s : State} {p : Port} {mask : KindSet} (h : s.port p = .reset mask) : attn s p = false := by
  unfold attn
  rw [h, reset_pendingSet]
  simp

/-- Settles O4: the state at the end of reset, its sweep polls by the reset bay record and its ports by the reset port. -/
theorem resetEndStartsTheSweepAndOpensThePorts : Obligations.ResetEndStartsTheSweepAndOpensThePorts := by
  unfold Obligations.ResetEndStartsTheSweepAndOpensThePorts
  intro s hreset
  have ends : resetEnds s = State.atReset false s.shedLine (supplyFromLine s.shedLine) (max s.time resetLength)
      (.sweep (max s.time resetLength)) s.pending := if_pos hreset
  refine ⟨_, congrArg Host.Outcome.next ends, rfl, rfl, rfl, rfl, rfl, rfl, rfl, rfl, rfl, rfl, rfl, rfl, rfl, rfl, rfl,
    fun b => ?_, rfl, rfl, rfl, fun p => ?_⟩
  · rw [atReset_bay]
    exact ⟨rfl, rfl⟩
  · obtain ⟨mask, port⟩ := atReset_port (inReset := false) (shedLine := s.shedLine) (state := supplyFromLine s.shedLine)
      (time := max s.time resetLength) (poll := .sweep (max s.time resetLength)) (pending := s.pending) p
    refine ⟨?_, ?_, ?_, ?_, ?_, attn_of_reset port⟩
    all_goals rw [port]
    exacts [rfl, rfl, rfl, rfl, reset_pendingSet]

/-! ### Due times -/

section
variable {s : State} {b : Bay} {m : Nat}

/-- A command that brings the time to a moment and does nothing else. -/
theorem exec_atMoment {due : Option Moment} (h : s.inReset = false) (hm : due = some m) :
    carryOut (outOfReset (atMoment due id)) s = .next (timeTo m s) := by
  subst hm
  exact ClassesKept.carried (t := timeTo m s) (fun _ => rfl) h rfl

/-- A poll whose due time has come is an entry of that age (spec 02, R40). -/
theorem eligible_poll_age (h : pollDueAt s b = some m) (hm : m ≤ s.time) :
    (eligible s b .poll).map Entry.age = some m := by
  show (pollEntry s b).map Entry.age = some m
  unfold pollEntry
  rw [h]
  dsimp only
  rw [if_pos hm]
  rfl

theorem pollPeriod_eq :
    pollPeriod s b = if classA s b then 1000000 else if occupied s b then 4000000 else 10000000 := rfl

theorem pollDueAt_classed (h : (s.bay b).loop.poll = .classed m) (hr : reachable s b = true) :
    pollDueAt s b = some (m + pollPeriod s b) := by
  unfold pollDueAt
  rw [h]
  exact if_pos hr

theorem pollDueAt_probe (h : (s.bay b).loop.poll = .probe m) : pollDueAt s b = some m := by
  unfold pollDueAt
  rw [h]

/-- POLL_DUE, for a poll that counts from the end of the last. -/
theorem exec_pollDue (hreset : s.inReset = false) (h : (s.bay b).loop.poll = .classed m) (hr : reachable s b = true) :
    exec (.pollDue b) s = .next (timeTo (m + pollPeriod s b) s) := by
  have due : pollFallsDueAt s b = some (m + pollPeriod s b) := by
    unfold pollFallsDueAt
    rw [h]
    exact pollDueAt_classed h hr
  exact exec_atMoment hreset due

/-- PROBE_DUE, for a LOST bay. -/
theorem exec_probeDue (hreset : s.inReset = false) (h : (s.bay b).loop.poll = .probe m)
    (ho : (s.bay b).table.occ = .lost) : exec (.probeDue b) s = .next (timeTo m s) := by
  have due : probeFallsDueAt s b = some m := by
    unfold probeFallsDueAt
    rw [h]
    exact if_pos ho
  exact exec_atMoment hreset due

end

/-- Settles O39: the time comes to the poll's or the probe's own moment, from which it is eligible. -/
theorem pollsAndProbesFallDueByTheirPeriods : Obligations.PollsAndProbesFallDueByTheirPeriods := by
  unfold Obligations.PollsAndProbesFallDueByTheirPeriods
  intro b m s hreset
  refine ⟨fun hpoll hreach => ?_, fun hpoll hlost => ?_⟩
  · rw [← pollPeriod_eq]
    exact ⟨_, exec_pollDue hreset hpoll hreach, rfl,
      eligible_poll_age (s := timeTo (m + pollPeriod s b) s) (pollDueAt_classed (s := s) hpoll hreach)
        (Nat.le_max_right _ _)⟩
  · exact ⟨_, exec_probeDue hreset hpoll hlost, rfl,
      eligible_poll_age (s := timeTo m s) (pollDueAt_probe (s := s) hpoll) (Nat.le_max_right _ _)⟩

end Sys2Proof.Machine
end

section
/-! PROOF. The arbiter's choice (spec 02, R41, R43). -/

namespace Sys2Proof.Machine

/-! ### The first of the candidates -/

/-- One look at a candidate: it takes the place of the best so far where it goes before it. -/
def better (best : Option Candidate) (x : Candidate) : Option Candidate :=
  match best with
  | some y => if x.before y then some x else some y
  | none => some x

theorem choice_eq (s : State) : choice s = (candidates s).foldl better none := rfl

theorem Candidate.before_iff {x y : Candidate} :
    x.before y = true ↔ x.entry.cls < y.entry.cls ∨ x.entry.cls = y.entry.cls ∧ x.entry.age < y.entry.age := by
  simp [Candidate.before]

theorem Candidate.before_false_iff {x y : Candidate} :
    x.before y = false ↔
      y.entry.cls < x.entry.cls ∨ x.entry.cls = y.entry.cls ∧ y.entry.age ≤ x.entry.age := by
  rw [← Bool.not_eq_true, Candidate.before_iff]
  unfold Moment
  omega

theorem Candidate.before_trans {x y z : Candidate} (h : x.before y = true) (k : y.before z = true) :
    x.before z = true := by
  rw [Candidate.before_iff] at *
  unfold Moment at *
  omega

/-- What goes before another goes before all that do not go before that one. -/
theorem Candidate.before_of_not {x y z : Candidate} (h : x.before y = true) (k : z.before y = false) :
    x.before z = true := by
  rw [Candidate.before_iff] at *
  rw [Candidate.before_false_iff] at k
  unfold Moment at *
  omega

/-- The candidate goes before each that stands earlier in the list, and none that stands later goes before it. -/
def IsFirst (c : Candidate) (l : List Candidate) : Prop :=
  ∃ earlier later, l = earlier ++ c :: later ∧ (∀ x ∈ earlier, c.before x = true) ∧ ∀ x ∈ later, x.before c = false

/-- The first of a list, once one more candidate has been looked at (spec 02, R43). -/
theorem IsFirst.concat {c : Candidate} {l : List Candidate} (h : IsFirst c l) (x : Candidate) :
    ∃ c', IsFirst c' (l ++ [x]) ∧ better (some c) x = some c' := by
  obtain ⟨earlier, later, rfl, before, after⟩ := h
  cases hx : x.before c with
  | true =>
    refine ⟨x, ⟨earlier ++ c :: later, [], rfl, fun y hy => ?_, by simp⟩, by simp [better, hx]⟩
    obtain hy | rfl | hy : y ∈ earlier ∨ y = c ∨ y ∈ later := by simpa using hy
    · exact Candidate.before_trans hx (before y hy)
    · exact hx
    · exact Candidate.before_of_not hx (after y hy)
  | false =>
    refine ⟨c, ⟨earlier, later ++ [x], by simp, before, fun y hy => ?_⟩, by simp [better, hx]⟩
    obtain hy | rfl : y ∈ later ∨ y = x := by simpa using hy
    · exact after y hy
    · exact hx

/-- Looking at candidates one by one finds the first of them. -/
theorem better_first (l : List Candidate) :
    l = [] ∧ l.foldl better none = none ∨ ∃ c, IsFirst c l ∧ l.foldl better none = some c := by
  induction l using List.reverseRecOn with
  | nil => exact .inl ⟨rfl, rfl⟩
  | append_singleton l x ih =>
    rw [List.foldl_append]
    obtain ⟨rfl, found⟩ | ⟨c, first, found⟩ := ih
    · exact .inr ⟨x, ⟨[], [], rfl, by simp, by simp⟩, rfl⟩
    · rw [found]
      exact .inr (first.concat x)

/-- The first of a list by its place. -/
theorem IsFirst.place {c : Candidate} {l : List Candidate} (h : IsFirst c l) :
    ∃ i : Fin l.length, c = l[i] ∧
      ∀ k : Fin l.length, (k < i → l[i].before l[k] = true) ∧ (i < k → l[k].before l[i] = false) := by
  obtain ⟨earlier, later, rfl, before, after⟩ := h
  have self : (earlier ++ c :: later)[earlier.length]'(by simp) = c := by simp
  refine ⟨⟨earlier.length, by simp⟩, self.symm, fun k => ?_⟩
  simp only [Fin.getElem_fin, self]
  refine ⟨fun hk => ?_, fun hk => ?_⟩
  · have hk : k.val < earlier.length := hk
    rw [List.getElem_append_left hk]
    exact before _ (List.getElem_mem hk)
  · have hk : earlier.length < k.val := hk
    have later_k : (earlier ++ c :: later)[k.val] ∈ later := by
      obtain ⟨n, hn⟩ := Nat.exists_eq_add_of_lt hk
      have bound := k.isLt
      simp only [hn, List.length_append, List.length_cons] at bound
      have here : (earlier ++ c :: later)[k.val] = later[n]'(by omega) := by
        simp [hn, List.getElem_append_right, Nat.add_assoc]
      rw [here]
      exact List.getElem_mem _
    exact after _ later_k

theorem choice_none_iff {s : State} : choice s = none ↔ candidates s = [] := by
  rw [choice_eq]
  obtain ⟨empty, found⟩ | ⟨c, ⟨earlier, later, some_left, -⟩, found⟩ := better_first (candidates s)
  · simp [empty]
  · rw [found, some_left]
    simp

theorem choice_first {s : State} (h : candidates s ≠ []) :
    ∃ c, IsFirst c (candidates s) ∧ choice s = some c := by
  rw [choice_eq]
  obtain ⟨empty, -⟩ | found := better_first (candidates s)
  · exact absurd empty h
  · exact found

/-! ### What goes onto the line -/

section
variable {s t : State}

theorem frameTime_eq {b : Bay} {req : LoopReq} : frameTime b req = (requestFrame b req).length * 40 := rfl

/-- The choice leaves the pending list for the line, at its first attempt (spec 02, R26, R43). -/
theorem takeChoice_some {c : Candidate} (h : choice s = some c) :
    takeChoice s =
      { unlist c.bay c.sort s with
        line := some
          { bay := c.bay, entry := { c.entry with rejoinAt := none }, attempt := 1,
            sentEnd := s.time + (requestFrame c.bay c.entry.req).length * 40, quietUntil := none } } := by
  unfold takeChoice
  rw [h, ← frameTime_eq]
  rfl

theorem takeChoice_none (h : choice s = none) : takeChoice s = s := by
  unfold takeChoice
  rw [h]

theorem unlist_classes {b : Bay} {sort : LoopSort} : ClassesKept s (unlist b sort s) := by
  unfold unlist
  split <;> exact .updLoop

theorem promotionsJudged_classes : ClassesKept s (promotionsJudged s) := by
  obtain ⟨_, h⟩ := promotionsJudged_eq s
  intro x
  refine pollPeriod_congr ?_ ?_ ?_ ?_ ?_ (by rw [h])
  case refine_5 => exact inRelease_congr (by rw [promotionsJudged_bay])
  all_goals rw [promotionsJudged_bay]

theorem takeChoice_classes : ClassesKept s (takeChoice s) := by
  unfold takeChoice
  split
  · exact unlist_classes (s := s)
  · exact .refl

/-- ARBITER_CHOICE judges the promotions, and takes its choice among what is eligible then. -/
theorem exec_arbiterChoice (hreset : s.inReset = false) (hline : s.line = none) (h : candidates s ≠ []) :
    exec .arbiterChoice s = .next (takeChoice (promotionsJudged s)) := by
  have chooses : arbiterChooses s = takeChoice (promotionsJudged s) := by
    obtain ⟨c, -, chosen⟩ := choice_first h
    unfold arbiterChooses
    rw [hline, chosen]
  exact (promotionsJudged_classes.trans takeChoice_classes).carried hreset chooses

end

/-- Settles O38: the promotions are judged, and the fold over the candidates keeps the first of those looked at. -/
theorem arbiterTakesTheFirstOfTheLowestClassAndOldestAge :
    Obligations.ArbiterTakesTheFirstOfTheLowestClassAndOldestAge := by
  unfold Obligations.ArbiterTakesTheFirstOfTheLowestClassAndOldestAge
  intro s hreset hline heligible
  refine ⟨_, promotionsJudged s, exec_arbiterChoice hreset hline heligible, ?_, fun b => promotionsJudged_bay s b, ?_, ?_⟩
  · obtain ⟨bays, judged⟩ := promotionsJudged_eq s
    rw [judged]
  · exact fun none_left => takeChoice_none (choice_none_iff.mpr none_left)
  · intro some_left
    obtain ⟨c, first, chosen⟩ := choice_first some_left
    obtain ⟨i, here, place⟩ := first.place
    have time : (promotionsJudged s).time = s.time := by
      obtain ⟨bays, judged⟩ := promotionsJudged_eq s
      rw [judged]
    refine ⟨i, place, ?_⟩
    rw [takeChoice_some chosen, here, time]

end Sys2Proof.Machine
end

section
/-! PROOF. What the blocks' work does to the pending lists: it asks, drops and disowns, and no entry comes to wait out a
BUSY by it (spec 02, R28, R42, R44); what plans and grants power asks no LATCH. -/

namespace Sys2Proof.Machine

section
variable {s t u : State} {b : Bay}

/-! ### Lanes -/

/-- No entry has come to wait out a BUSY: a sort with none waiting has none still. -/
def OpensNone (s t : State) : Prop :=
  ∀ (x : Bay) (sort : LoopSort), (laneOf s x sort).opened = none → (laneOf t x sort).opened = none

/-- The LATCH entries off the line are as they were. -/
def LatchesKept (s t : State) : Prop := ∀ x : Bay, laneOf t x .latch = laneOf s x .latch

/-- A change of a lane by which no entry comes to wait out a BUSY. -/
def Lane.opensNone (f : Lane → Lane) : Prop := ∀ l : Lane, l.opened = none → (f l).opened = none

/-- A bay's lane after an update of one. -/
theorem laneOf_updLane {x : Bay} {sort sort' : LoopSort} {f : Lane → Lane} :
    laneOf (updLane x sort f s) b sort' =
      if b = x ∧ sort' = sort ∧ sort ≠ .poll then f (laneOf s b sort) else laneOf s b sort' := updLane_lane

theorem laneOf_updLane_self {sort : LoopSort} {f : Lane → Lane} (h : sort ≠ .poll) :
    laneOf (updLane b sort f s) b sort = f (laneOf s b sort) := by
  rw [laneOf_updLane, if_pos ⟨rfl, rfl, h⟩]

/-- An entry waiting out a BUSY is no poll: polls are not kept in lanes. -/
theorem sort_of_opened {sort : LoopSort} {e : Entry} (h : (laneOf s b sort).opened = some e) : sort ≠ .poll := by
  rintro rfl
  exact absurd h (by simp [laneOf, LoopRec.lane, Lane.empty])

theorem laneOf_congr {sort : LoopSort} (h : (t.bay b).loop = (s.bay b).loop) : laneOf t b sort = laneOf s b sort := by
  unfold laneOf
  rw [h]

namespace OpensNone

theorem refl : OpensNone s s := fun _ _ h => h

theorem trans (h : OpensNone s t) (k : OpensNone t u) : OpensNone s u := fun x sort h0 => k x sort (h x sort h0)

theorem of_loop (h : ∀ x, (t.bay x).loop = (s.bay x).loop) : OpensNone s t := fun x sort h0 => by
  rw [laneOf_congr (h x)]
  exact h0

theorem of_view (h : t.loopsView = s.loopsView) : OpensNone s t := of_loop (loop_of_view h)

theorem updLane {x : Bay} {sort : LoopSort} {f : Lane → Lane} (hf : Lane.opensNone f) :
    OpensNone s (updLane x sort f s) := by
  intro y k h
  rw [laneOf_updLane]
  split
  case isTrue hk =>
    obtain ⟨-, rfl, -⟩ := hk
    exact hf _ h
  · exact h

theorem onlyIf {c : Bool} {f : State → State} (hf : OpensNone s (f s)) : OpensNone s (onlyIf c f s) := by
  cases c with
  | true => exact hf
  | false => exact refl

end OpensNone

/-- A request that joins a lane opens none (spec 02, R44). -/
theorem Lane.join_opensNone {onLine : Bool} {now : Moment} {req : LoopReq} : Lane.opensNone (Lane.join onLine now req) := by
  rintro ⟨_, q⟩ rfl
  cases q <;> rfl

/-- Planning and granting leave every lane but that of STAGE. -/
theorem Plans.lane (h : Plans s t) {sort : LoopSort} (hs : sort ≠ .stage) : laneOf t b sort = laneOf s b sort := by
  induction h with
  | refl => rfl
  | heat _ _ ih => exact (laneOf_congr (by simp)).trans ih
  | power _ _ _ ih => exact (laneOf_congr (by simp)).trans ih
  | told _ _ ih => exact (laneOf_congr (by simp [noteStage])).trans ih
  | free _ ih => exact ih
  | join _ _ ih =>
    unfold joinStage
    rw [laneOf_updLane, if_neg fun h => hs h.2.1]
    exact ih
  | post _ _ ih => exact ih

theorem Plans.opensNone (h : Plans s t) : OpensNone s t := by
  induction h with
  | refl => exact .refl
  | heat _ _ ih => exact ih.trans (.of_view (by simp))
  | power _ _ _ ih => exact ih.trans (.of_view (by simp))
  | told _ _ ih => exact ih.trans (.of_view (by simp [noteStage]))
  | free _ ih => exact ih.trans (.of_view rfl)
  | join _ _ ih => exact ih.trans (.updLane Lane.join_opensNone)
  | post _ _ ih => exact ih.trans (.of_view rfl)

/-! ### Asking without a LATCH -/

/-- Work that opens no entry and asks no LATCH. -/
structure AsksWork (s t : State) : Prop where
  opensNone : OpensNone s t
  latches : LatchesKept s t

namespace AsksWork

theorem refl : AsksWork s s := ⟨.refl, fun _ => rfl⟩

theorem trans (h : AsksWork s t) (k : AsksWork t u) : AsksWork s u :=
  ⟨h.1.trans k.1, fun x => (k.2 x).trans (h.2 x)⟩

theorem of_loop (h : ∀ x, (t.bay x).loop = (s.bay x).loop) : AsksWork s t :=
  ⟨.of_loop h, fun x => laneOf_congr (h x)⟩

theorem of_view (h : t.loopsView = s.loopsView) : AsksWork s t := of_loop (loop_of_view h)

theorem of_plans (h : Plans s t) : AsksWork s t := ⟨h.opensNone, fun _ => h.lane (by simp)⟩

theorem updLane {x : Bay} {sort : LoopSort} {f : Lane → Lane} (hf : Lane.opensNone f) (hs : sort ≠ .latch) :
    AsksWork s (updLane x sort f s) :=
  ⟨.updLane hf, fun y => by rw [laneOf_updLane, if_neg fun h => hs h.2.1.symm]⟩

theorem onlyIf {c : Bool} {f : State → State} (hf : AsksWork s (f s)) : AsksWork s (onlyIf c f s) := by
  cases c with
  | true => exact hf
  | false => exact refl

theorem foldl {α : Type} {l : List α} {f : State → α → State} (hf : ∀ a u, AsksWork u (f u a)) :
    AsksWork s (l.foldl f s) := by
  induction l generalizing s with
  | nil => exact refl
  | cons a l ih => exact (hf a s).trans ih

end AsksWork

/-- What an owner disowns keeps its place. -/
theorem disowns_opensNone {q : Lane → Option Entry} :
    Lane.opensNone fun l => { opened := l.opened.map Entry.unwanted, queued := q l } := by
  rintro ⟨_, q⟩ rfl
  rfl

theorem askReplacing_asks {req : LoopReq} (h : sortOf req ≠ .latch) : AsksWork s (askReplacing b req s) := by
  unfold askReplacing
  split
  · exact .updLane (fun _ h => h) h
  · exact .refl

theorem disownLine_asks {sort : LoopSort} : AsksWork s (disownLine b sort s) := .of_loop fun _ => rfl

theorem abandon_asks {sort : LoopSort} (h : sort ≠ .latch) : AsksWork s (abandon b sort s) := by
  have dropped : AsksWork s (updLane b sort (fun l => { opened := l.opened.map Entry.unwanted, queued := none }) s) :=
    .updLane disowns_opensNone h
  exact dropped.trans disownLine_asks

theorem withdrawAll_asks {sort : LoopSort} (h : sort ≠ .latch) : AsksWork s (withdrawAll b sort s) := by
  have emptied : AsksWork s (updLane b sort (fun _ => .empty) s) := .updLane (fun _ _ => rfl) h
  exact emptied.trans disownLine_asks

/-! ### Lamp steps and visits -/

theorem stepBegan_asks : AsksWork s (stepBegan b s) := by
  have held : AsksWork s (updPower b (fun p => { p with stepHold := true }) s) := .of_view (by simp)
  unfold stepBegan
  dsimp only
  split
  · have dropped : AsksWork s (updLane b .stage Lane.dropQueued (updPower b (fun p => { p with stepHold := true }) s)) :=
      held.trans (.updLane (fun _ h => h) (by simp))
    exact dropped.trans (.of_plans (stageNotSent_plans .refl))
  · exact held

theorem disownLamp_asks : AsksWork s (disownLamp b s) := by
  have disowned : AsksWork s (updLane b .lamp (fun l => { l with opened := l.opened.map Entry.unwanted }) s) :=
    .updLane disowns_opensNone (by simp)
  exact disowned.trans disownLine_asks

theorem askSample_asks {i : Fin 4} : AsksWork s (askSample i s) := by
  unfold askSample
  split
  · split
    case h_1 c _ _ st _ =>
      have lit : AsksWork s (updLamp c.bay (fun l => { l with lit := true }) s) := .of_view (by simp)
      have asked := lit.trans (askReplacing_asks (b := c.bay) (req := .lampSample st.circuit st.settle) (by simp [sortOf]))
      exact asked.trans (.of_loop fun _ => rfl)
    · exact .refl
  · exact .refl

theorem stepBegins_asks {i : Fin 4} : AsksWork s (stepBegins i s) := by
  unfold stepBegins
  split
  · split
    case h_1 c _ _ st _ =>
      have sampling : AsksWork s (updSlot i (fun c => { c with
          phase := .sampling, step := some st, validSamples := 0, lastBand := none, nextAt := none }) s) :=
        .of_loop fun _ => rfl
      exact ((sampling.trans stepBegan_asks).trans disownLamp_asks).trans askSample_asks
    · exact .refl
  · exact .refl

theorem slotGranted_asks {i : Fin 4} : AsksWork s (slotGranted i s) := by
  unfold slotGranted
  split
  case h_1 c _ =>
    have running : AsksWork s (updLamp c.bay (fun l => { l with check := .running }) s) := .of_view (by simp)
    exact running.trans stepBegins_asks
  · exact .refl

theorem askReader_asks {req : LoopReq} (h : sortOf req ≠ .latch) : AsksWork s (askReader b req s) := by
  have disowned : AsksWork s (updLane b .reader (fun l => { l with opened := l.opened.map Entry.unwanted }) s) :=
    .updLane disowns_opensNone (by simp)
  exact disowned.trans (askReplacing_asks h)

theorem visitBegins_asks {rest : List Bay} : AsksWork s (visitBegins b rest s) := by
  have begun : AsksWork s (updReader b
      (fun r => { r with state := if r.identityWanted || r.passWanted then .reading else r.state })
      { s with
        readerQueue := rest
        visit := some
          { bay := b, phase := .wake, budget := s.settings.recordBudget, fetches := 0, settleUntil := none,
            failed := false, suspended := false } }) :=
    .of_loop fun x => updReader_loop b x _ _
  exact begun.trans (askReader_asks (by simp [sortOf]))

theorem grantHolder_asks {o : Holder} : AsksWork s (grantHolder o s) := by
  have reserved : ∀ x, AsksWork s (addReservation o x s) := fun _ => .of_view (by simp)
  unfold grantHolder
  split
  · split
    · exact (reserved _).trans slotGranted_asks
    · exact .refl
  · split
    · exact (reserved _).trans visitBegins_asks
    · exact .refl

theorem requestPower_asks {o : Holder} : AsksWork s (requestPower o s) := by
  unfold requestPower
  split
  · exact grantHolder_asks
  · exact .of_view (by simp)

theorem grantPass_asks : AsksWork s (grantPass s) := by
  refine AsksWork.foldl fun o u => ?_
  unfold passTurn
  split
  · exact grantHolder_asks
  · exact .refl

theorem giveBack_asks {o : Holder} : AsksWork s (giveBack o s) := by
  unfold giveBack
  split
  · have dropped : AsksWork s (dropReservation o s) := .of_view (by simp)
    exact dropped.trans grantPass_asks
  · exact .of_view (by simp)

theorem askVisit_asks : AsksWork s (askVisit s) := by
  unfold askVisit
  split
  · exact .of_view (by simp)
  · split
    · exact .refl
    · exact requestPower_asks
  · exact .refl

theorem placeTail_asks : AsksWork s (placeTail b s) := by
  unfold placeTail
  split
  · have queued : AsksWork s
        (if s.readerQueue.contains b then s else { s with readerQueue := s.readerQueue ++ [b] }) := by
      split
      · exact .refl
      · exact .of_loop fun _ => rfl
    have marked : ∀ x, AsksWork x (markQueued b x) := fun _ => .of_view (by simp)
    exact (queued.trans (marked _)).trans askVisit_asks
  · exact .refl

theorem readerReleaseEnded_asks : AsksWork s (readerReleaseEnded b s) := .onlyIf placeTail_asks

theorem leaveQueues_asks : AsksWork s (leaveQueues b s) := by
  have left : AsksWork s
      { s with readerQueue := s.readerQueue.filter (· != b), suspended := s.suspended.filter (· != b) } :=
    .of_loop fun _ => rfl
  exact left.trans askVisit_asks

theorem readerResume_asks : AsksWork s (readerResume s) := by
  have resumed : AsksWork s
      (updVisit (fun v => { v with suspended := false })
        (forBays s.suspended (fun b => updReader b fun r => { r with state := .queued })
          { s with
            readerQueue := s.readerQueue ++ s.suspended.filter fun b => !s.readerQueue.contains b
            suspended := [] })) := by
    refine AsksWork.trans (t := { s with
      readerQueue := s.readerQueue ++ s.suspended.filter fun b => !s.readerQueue.contains b
      suspended := [] }) (.of_loop fun _ => rfl) (.of_view (by simp))
  exact resumed.trans askVisit_asks

theorem removeEntries_asks {unwanted : FaultEntry → Bool} : AsksWork s (removeEntries b unwanted s) := by
  unfold removeEntries
  dsimp only
  split
  · exact .refl
  · refine AsksWork.trans (.of_loop fun x => ?_) (.onlyIf readerResume_asks)
    have judged : ∀ y : State, (judgeLow y).loopsView = y.loopsView := fun y => by simp
    rw [loop_of_view (judged _), updFaults_loop]
    rfl

/-! ### Lamp checks -/

theorem askLampOff_asks : AsksWork s (askLampOff b s) := by
  unfold askLampOff
  split
  · have cleared : AsksWork s (updLamp b (fun l => { l with offRetryAt := none }) s) := .of_view (by simp)
    exact cleared.trans (askReplacing_asks (by simp [sortOf]))
  · exact .of_view (by simp)

theorem lampLeft_asks : AsksWork s (lampLeft b s) := (abandon_asks (by simp)).trans (.onlyIf askLampOff_asks)

theorem takeSlot_asks {i : Fin 4} : AsksWork s (takeSlot i b s) := by
  refine AsksWork.trans (.of_loop fun x => ?_) requestPower_asks
  rw [updLamp_loop]
  rfl

theorem takeHead_asks : AsksWork s (takeHead s) := by
  unfold takeHead
  split
  case h_1 b rest _ _ _ =>
    have left : AsksWork s { s with lampQueue := rest } := .of_loop fun _ => rfl
    have emptied : ∀ x, AsksWork x (completeEmpty b x) := fun _ => .of_view (by simp)
    split
    · exact left.trans (emptied _)
    · exact left.trans takeSlot_asks
  · exact .refl

theorem takeSlots_asks : AsksWork s (takeSlots s) := by
  unfold takeSlots
  generalize s.lampQueue.length = n
  induction n generalizing s with
  | zero => exact .refl
  | succ n ih => exact takeHead_asks.trans ih

theorem startCheck_asks {plan : Nat} : AsksWork s (startCheck b plan s) := by
  unfold startCheck
  have begun : AsksWork s (clearanceNews b .checkInProgress
      (updLamp b (fun l => { l with
        plan := some plan, result := .inProgress, completion := none, advisory := 0, stale := false }) s)) :=
    .of_view (by simp)
  dsimp only
  generalize clearanceNews b .checkInProgress _ = y at begun ⊢
  split
  · exact begun.trans (.of_view (by simp))
  · have queued : AsksWork y (updLamp b (fun l => { l with check := .queued }) (joinLampQueue b y)) :=
      .of_loop fun x => by rw [updLamp_loop]; rfl
    exact (begun.trans queued).trans takeSlots_asks

theorem autoCheck_asks : AsksWork s (autoCheck b s) := by
  unfold autoCheck
  split
  · split
    · exact startCheck_asks
    · exact .refl
  · exact .refl

theorem abortSlot_asks {i : Fin 4} {c : Slot} : AsksWork s (abortSlot i c s) := by
  have stopped : AsksWork s (onlyIf (decide (c.phase = .sampling)) (stepEnded c.bay) s) := .of_view (by simp)
  have freed : ∀ x, AsksWork x (freeSlot i x) := fun _ => .of_loop fun _ => rfl
  exact ((stopped.trans (freed _)).trans lampLeft_asks).trans giveBack_asks

theorem abortCheck_asks {check : CheckState} : AsksWork s (abortCheck b check s) := by
  have record : AsksWork s (updLamp b (LampRec.aborted check) s) := .of_view (by simp)
  unfold abortCheck
  dsimp only
  split
  · split
    · split
      · exact (record.trans abortSlot_asks).trans takeSlots_asks
      · exact record
    · exact record.trans (.of_loop fun _ => rfl)
  · exact .refl

theorem lampCleanup_asks : AsksWork s (lampCleanup b s) := by
  have recorded : ∀ x, AsksWork x (updLamp b (LampRec.aborted .none) x) := fun _ => .of_view (by simp)
  exact abortCheck_asks.trans (recorded _)

theorem nextStep_asks : AsksWork s (nextStep b s) := by
  unfold nextStep
  split
  · split
    · split
      · exact stepBegins_asks
      · exact .refl
    · exact .refl
  · exact .refl

end

end Sys2Proof.Machine
end

section
/-! PROOF. The timers of a BUSY (spec 02, R28): the owner that is handed FAILED opens no entry, so the transaction it ends
is gone from the pending list. -/

namespace Sys2Proof.Machine

section
variable {s t : State} {b : Bay}

/-! ### The vacancy cleanup and the end of a visit -/

theorem emptyFaults_asks : AsksWork s (emptyFaults b s) := by
  have marked : ∀ x, AsksWork x (updFaults b (fun r => { r with incomplete := false, refusal := false }) x) :=
    fun _ => .of_view (by simp)
  exact removeEntries_asks.trans (marked _)

theorem cutVisit_asks : AsksWork s (cutVisit b s) :=
  AsksWork.trans (t := { s with visit := none }) (.of_loop fun _ => rfl) (withdrawAll_asks (by simp))

theorem cleanupReader_asks {carryVisit : Bool} : AsksWork s (cleanupReader carryVisit b s) := by
  have wiped : ∀ f x, AsksWork x (updReader b f x) := fun _ _ => .of_view (by simp)
  cases carryVisit with
  | true => exact (wiped _ _).trans leaveQueues_asks
  | false =>
    have ended : AsksWork s (endVisitOutside b s) := by
      unfold endVisitOutside
      split
      · exact cutVisit_asks.trans giveBack_asks
      · exact .refl
    exact (ended.trans (wiped _ _)).trans leaveQueues_asks

/-- A LATCH(open) that is withdrawn leaves nothing in its place. -/
theorem withdrawOpen_opensNone : OpensNone s (withdrawOpen b s) := by
  refine .updLane ?_
  rintro ⟨_, q⟩ rfl
  rfl

theorem clearanceCleanup_opensNone : OpensNone s (clearanceCleanup b s) := by
  have told : OpensNone s (onlyIf (!(s.bay b).clear.holds.isEmpty) (post .hold b) s) := .of_view (by simp)
  have disowned : ∀ x, OpensNone x (disownOpen b x) := fun _ => .of_loop fun _ => rfl
  have wiped : ∀ x, OpensNone x (updClear b (fun _ => .reset) x) := fun _ => .of_view (by simp)
  exact (((told.trans withdrawOpen_opensNone).trans (disowned _)).trans (wiped _)).trans (.onlyIf (.of_view (by simp)))

theorem heatCleanup_asks : AsksWork s (heatCleanup b s) := by
  have bare : AsksWork s (updHeat b (fun r => { r with profile := none }) s) := .of_view (by simp)
  exact bare.trans (.of_plans heatCleanup_plans)

theorem removeDeparture_asks : AsksWork s (removeDeparture b s) := by
  unfold removeDeparture
  split
  · have dropped : AsksWork s (dropDeparture b s) := .of_view (by simp)
    exact dropped.trans (.of_plans (recompute_plans .refl))
  · exact .refl

theorem departs_opensNone {kind : DepartureKind} {keep carry : Bool} : OpensNone s (departs kind keep carry b s) := by
  have told : OpensNone s (post .departed b (updTable b (fun t => { t with lastDeparture := some kind }) s)) :=
    .of_view (by simp)
  have unread := told.trans ((emptyFaults_asks (b := b)).trans (cleanupReader_asks (b := b) (carryVisit := carry))).opensNone
  have unchecked := (unread.trans (clearanceCleanup_opensNone (b := b))).trans (lampCleanup_asks (b := b)).opensNone
  have unknown : ∀ x, OpensNone x
      (updTable b (fun t => { t with identity := none, lampPlan := none, recovery := false }) x) :=
    fun _ => .of_view (by simp)
  have free : ∀ x, OpensNone x (onlyIf (!keep) (removeDeparture b) x) := fun x => .onlyIf removeDeparture_asks.opensNone
  exact ((unchecked.trans (unknown _)).trans heatCleanup_asks.opensNone).trans (free _)

theorem unidentified_asks : AsksWork s (unidentified b s) := by
  have present : AsksWork s (becomePresent b none s) := .of_view (by simp)
  have tested : ∀ x, AsksWork x (testMismatch b x) := fun _ => .of_view (by simp)
  exact (present.trans autoCheck_asks).trans (tested _)

theorem identityFailed_opensNone : OpensNone s (identityFailed b s) := by
  have arrived : ∀ x, OpensNone x (post .arrival b x) := fun _ => .of_view (by simp)
  have gone : OpensNone s (otherCoach false b s) := departs_opensNone.trans (arrived _)
  have failed : ∀ x, OpensNone x (updReader b (fun r => { r with state := .failed }) x) := fun _ => .of_view (by simp)
  unfold identityFailed
  split
  case h_1 =>
    split
    · exact (gone.trans (failed _)).trans unidentified_asks.opensNone
    · exact unidentified_asks.opensNone
  case h_2 => exact unidentified_asks.opensNone
  all_goals exact .refl

theorem dropClears_asks : AsksWork s (dropClears b s) := by
  refine AsksWork.foldl fun c u => ?_
  have taken : AsksWork u (updReader b (fun r => { r with clears := r.clears.filter (· != (c.1, c.2)) }) u) :=
    .of_view (by simp)
  refine taken.trans ?_
  unfold clearTaken
  generalize updReader b _ u = x
  unfold clearAnswered
  split
  · split
    · exact .of_view (by simp [updEntry])
    · exact .refl
  · exact .refl

theorem visitsExhausted_opensNone : OpensNone s (visitsExhausted b s) := by
  have given : ∀ f, OpensNone s (updReader b f s) := fun _ => .of_view (by simp)
  exact ((given _).trans dropClears_asks.opensNone).trans (.onlyIf identityFailed_opensNone)

theorem placeIfWanted_asks : AsksWork s (placeIfWanted b s) := .onlyIf placeTail_asks

theorem failedVisitEnds_opensNone : OpensNone s (failedVisitEnds b s) := by
  have counted : ∀ f x, OpensNone x (updReader b f x) := fun _ _ => .of_view (by simp)
  unfold failedVisitEnds
  split
  · exact (counted _ _).trans placeIfWanted_asks.opensNone
  · exact visitsExhausted_opensNone

theorem visitEnds_opensNone {v : Visit} : OpensNone s (visitEnds v s) := by
  have ended : OpensNone s (giveBack .reader { s with visit := none }) :=
    OpensNone.trans (t := { s with visit := none }) (.of_loop fun _ => rfl) giveBack_asks.opensNone
  unfold visitEnds
  dsimp only
  refine (ended.trans ?_).trans askVisit_asks.opensNone
  split
  · exact failedVisitEnds_opensNone
  · split
    · unfold suspendedVisitEnds
      split
      · exact .of_loop fun _ => rfl
      · exact placeTail_asks.opensNone
    · exact placeIfWanted_asks.opensNone

theorem enterPhase_asks {phase : VisitPhase} {req : LoopReq} (h : sortOf req ≠ .latch) :
    AsksWork s (enterPhase b phase req s) :=
  AsksWork.trans (t := updVisit (fun v => { v with phase := phase, settleUntil := none }) s) (.of_loop fun _ => rfl)
    (askReader_asks h)

theorem visitFails_asks : AsksWork s (visitFails b s) :=
  AsksWork.trans (t := updVisit (fun v => { v with failed := true }) s) (.of_loop fun _ => rfl)
    (enterPhase_asks (by simp [sortOf]))

/-! ### The owners that are handed FAILED -/

theorem readerFailed_opensNone {req : LoopReq} {wanted : Bool} {reply : ReaderReply} :
    OpensNone s (readerOutcome b req wanted .failed reply s) := by
  have late : lateOutcome b req .failed reply s = s := by
    unfold lateOutcome
    split
    · contradiction
    · rfl
  unfold readerOutcome
  rw [late]
  split
  case h_1 v _ =>
    split
    · show OpensNone s (readerNotDone b req v s)
      unfold readerNotDone
      split
      · exact visitEnds_opensNone
      · exact visitFails_asks.opensNone
    · exact .refl
  · exact .refl

theorem joinLatch_opensNone {open_ : Bool} : OpensNone s (joinLatch b open_ s) := .updLane Lane.join_opensNone

theorem askOpen_opensNone : OpensNone s (askOpen b s) := by
  have marked : OpensNone s (updClear b (fun c => { c with openAsked := true, relatch := false, relatchAt := none }) s) :=
    .of_view (by simp)
  unfold askOpen
  dsimp only
  split
  · exact marked.trans joinLatch_opensNone
  · exact marked

theorem askClose_opensNone : OpensNone s (askClose b s) := by
  have marked : ∀ f, OpensNone s (updClear b f s) := fun _ => .of_view (by simp)
  unfold askClose
  split
  · exact (marked _).trans joinLatch_opensNone
  · exact marked _

theorem latchFailed_opensNone {open_ wanted : Bool} : OpensNone s (latchOutcome b open_ wanted .failed s) := by
  unfold latchOutcome openOutcome closeOutcome
  dsimp only
  split
  · split
    · split
      · exact askOpen_opensNone
      · exact .of_view (by simp)
    · exact .refl
  · split
    · exact askClose_opensNone
    · exact .refl

theorem stageFailed_asks {increase : Bool} : AsksWork s (stageOutcome b increase .failed s) := by
  have ended : Plans s (stageEnded b s) := stageEnded_plans .refl
  cases increase with
  | true =>
    have freed : ∀ x, AsksWork x (increaseEnded b x) := fun _ => .of_view (by simp [increaseEnded])
    exact (AsksWork.of_plans ended).trans (freed _)
  | false => exact .of_plans (askReduction_plans ended fun _ h0 => by simpa [stageEnded] using h0)

theorem sampleFailed_asks {wanted : Bool} {reading : Option Nat} :
    AsksWork s (sampleOutcome b wanted .failed reading s) := by
  unfold sampleOutcome
  split
  · show AsksWork s (takeSample _ none s)
    unfold takeSample
    split
    · split
      case h_1 h => exact absurd h (by simp)
      · exact .of_view (by simp)
      · exact .refl
    · exact .refl
  · exact .refl

theorem lampOffFailed_asks {wanted : Bool} : AsksWork s (lampOffOutcome b wanted .failed s) := by
  have again : AsksWork s (lampOffFailed b s) := .of_view (by simp)
  exact again.trans (.onlyIf nextStep_asks)

theorem pollFailed_asks : AsksWork s (pollFailed b s) := by
  have swept : ∀ x, AsksWork x (sweepFailed b x) := fun _ => .of_view (by simp)
  have set : ∀ (p : PollPlan) x, AsksWork x (setPoll b p x) := fun p x => by
    have lanes : ∀ y sort, laneOf (setPoll b p x) y sort = laneOf x y sort := fun y sort => by
      unfold laneOf setPoll
      rw [updLoop_bay]
      split
      case isTrue h => subst h; cases sort <;> rfl
      · rfl
    exact ⟨fun y sort h => by rwa [lanes], fun y => lanes y .latch⟩
  have ended : ∀ x, AsksWork x (pollEnded b x) := fun x => by
    unfold pollEnded
    split <;> exact set _ x
  unfold pollFailed
  split
  case h_1 =>
    split
    · exact ended _
    · exact (swept _).trans (ended _)
  all_goals exact ended _

/-- An owner that is handed FAILED opens no entry. -/
theorem failedOutcome_opensNone {e : Entry} : OpensNone s (ownerOutcome b e .failed .nothing s) := by
  unfold ownerOutcome
  split
  case h_1 => exact pollFailed_asks.opensNone
  case h_2 => exact stageFailed_asks.opensNone
  case h_3 => exact latchFailed_opensNone
  case h_4 => exact sampleFailed_asks.opensNone
  case h_5 => exact lampOffFailed_asks.opensNone
  all_goals exact readerFailed_opensNone

/-! ### The rows -/

section
variable {sort : LoopSort} {e : Entry} {m : Nat}

/-- An entry off the line that is past its BUSY wait is eligible (spec 02, R28, R44). -/
theorem eligible_opened (h : (laneOf s b sort).opened = some e) (hr : e.rejoinAt = none) :
    eligible s b sort = some e := by
  have rejoined : e.rejoined s.time = true := by
    unfold Entry.rejoined
    rw [hr]
  have waiting : eligible.laneEligible s (laneOf s b sort) = some e := by
    unfold eligible.laneEligible
    rw [h]
    exact if_pos rejoined
  cases sort with
  | poll => exact absurd rfl (sort_of_opened h)
  | _ => exact waiting

theorem exec_busyWaitEnd (hreset : s.inReset = false) (h : (laneOf s b sort).opened = some e)
    (hm : e.rejoinAt = some m) :
    exec (.busyWaitEnd b sort) s =
      .next (updLane b sort (fun l => { l with opened := some { e with rejoinAt := none } }) (timeTo m s)) := by
  have ends : busyWaitEnds b sort s =
      updLane b sort (fun l => { l with opened := some { e with rejoinAt := none } }) (timeTo m s) := by
    unfold busyWaitEnds
    rw [h]
    dsimp only
    rw [hm]
  exact ClassesKept.carried (ClassesKept.updLane (s := timeTo m s)) hreset ends

theorem exec_busyPersistTimeout (hreset : s.inReset = false) (h : (laneOf s b sort).opened = some e)
    (hm : e.firstBusy = some m) :
    exec (.busyPersistTimeout b sort) s =
      .next (pollsHeld s (ownerOutcome b e .failed .nothing
        (updLane b sort (fun l => { l with opened := none }) (timeTo (m + 10000000) s)))) := by
  have ends : busyPersists b sort s =
      ownerOutcome b e .failed .nothing
        (updLane b sort (fun l => { l with opened := none }) (timeTo (m + 10000000) s)) := by
    unfold busyPersists Entry.persistEnd
    rw [h]
    dsimp only
    rw [hm]
    rfl
  show carryOut (outOfReset (busyPersists b sort)) s = _
  rw [carryOut_outOfReset hreset, ends]

theorem updLane_failures {f : Lane → Lane} {x : Bay} :
    ((updLane b sort f s).bay x).loop.failures = (s.bay x).loop.failures :=
  Rests.updLane.failures

end

end

/-- Settles O44: the entry that rejoins is eligible, and the one that has got nothing but BUSY for 10 s is gone before its
owner is handed FAILED, which opens no entry and counts no failure. -/
theorem busyTimersRejoinOrEndTheTransaction : Obligations.BusyTimersRejoinOrEndTheTransaction := by
  unfold Obligations.BusyTimersRejoinOrEndTheTransaction
  intro b sort e m s hreset hopened
  have lane : sort ≠ .poll := sort_of_opened hopened
  refine ⟨fun hrejoin => ?_, fun hbusy => ?_⟩
  · refine ⟨_, exec_busyWaitEnd hreset hopened hrejoin, rfl, eligible_opened ?_ rfl, rfl⟩
    rw [laneOf_updLane_self lane]
  · refine ⟨_, exec_busyPersistTimeout hreset hopened hbusy, ?_, ?_, fun x => ?_⟩
    · rw [pollsHeld_time, failedOutcome_work.outside.time]
      rfl
    · rw [pollsHeld_laneOf]
      exact failedOutcome_opensNone b sort (by rw [laneOf_updLane_self lane])
    · rw [pollsHeld_loop]
      exact failedOutcome_failures.trans updLane_failures

end Sys2Proof.Machine
end

section
/-! PROOF. The timers of a lamp check: the next sample of a step (spec 05, R104) and the LAMP_OFF asked again (spec 05,
R113). -/

namespace Sys2Proof.Machine

section
variable {s t : State} {b : Bay} {i : Fin 4} {c : Slot} {st : LampStep} {m : Nat} {req : LoopReq}

/-! ### Asking a lamp transaction -/

theorem askReplacing_reachable (h : reachable s b = true) :
    askReplacing b req s = updLane b (sortOf req) (Lane.replace s.time req) s := if_pos h

theorem askReplacing_bay_ne {x : Bay} (h : x ≠ b) : (askReplacing b req s).bay x = s.bay x := by
  unfold askReplacing
  split
  · exact updLoop_bay_ne h _ s
  · rfl

theorem askReplacing_lamp {x : Bay} : ((askReplacing b req s).bay x).lamp = (s.bay x).lamp := by
  unfold askReplacing
  split
  · exact updLane_lamp
  · rfl

theorem askReplacing_classes : ClassesKept s (askReplacing b req s) := by
  unfold askReplacing
  split
  · exact .updLane
  · exact .refl

theorem updLamp_reachable {x : Bay} {f : LampRec → LampRec} : reachable (updLamp x f s) b = reachable s b :=
  reachable_congr (by simp)

/-- A request that joins stands in the pending list, its age now (spec 02, R42). -/
theorem askReplacing_queued (h : reachable s b = true) (hp : sortOf req ≠ .poll) :
    (laneOf (askReplacing b req s) b (sortOf req)).queued = some (newEntry req s.time) := by
  rw [askReplacing_reachable h, laneOf_updLane_self hp]
  rfl

/-! ### The next sample -/

/-- The slot as its sample is asked (spec 05, R104). -/
def Slot.sampled (now : Moment) (reach : Bool) (c : Slot) : Slot :=
  { c with askedAt := now, nextAt := if reach then none else some (now + 200000) }

/-- The state in which the sample of a bay's step is asked: its lit mark is set. -/
def litState (b : Bay) (s : State) : State := updLamp b (fun l => { l with lit := true }) s

theorem askSample_eq (hc : s.slots[i] = some c) (hst : c.step = some st) :
    askSample i s =
      updSlot i (Slot.sampled s.time (reachable s c.bay))
        (askReplacing c.bay (.lampSample st.circuit st.settle) (litState c.bay s)) := by
  have slots : (askReplacing c.bay (.lampSample st.circuit st.settle) (litState c.bay s)).slots = s.slots := by
    unfold askReplacing
    split <;> rfl
  unfold askSample
  rw [hc]
  dsimp only
  rw [hst]
  show updSlot i _ (askReplacing c.bay _ (litState c.bay s)) = _
  unfold updSlot
  rw [slots, hc]
  rfl

theorem askReplacing_slots : (askReplacing b req s).slots = s.slots := by
  unfold askReplacing
  split <;> rfl

theorem askReplacing_time : (askReplacing b req s).time = s.time := by
  unfold askReplacing
  split <;> rfl

theorem exec_lampSampleInterval (hreset : s.inReset = false) (hc : s.slots[i] = some c) (hp : c.phase = .sampling)
    (hm : c.nextAt = some m) :
    exec (.lampSampleInterval i) s = .next (pollsHeld s (askSample i (timeTo m s))) := by
  have due : sampleDue s i = some m := by
    unfold sampleDue
    rw [hc]
    exact (if_pos hp).trans hm
  show carryOut (outOfReset (atMoment (sampleDue s i) (askSample i))) s = _
  rw [carryOut_outOfReset hreset, due]
  rfl

theorem litState_classes : ClassesKept s (litState b s) := .updLamp fun _ => rfl

/-- LAMP_SAMPLE_INTERVAL: the sample is asked at the moment it was due (spec 05, R104). -/
theorem lampSampleInterval_asks (hreset : s.inReset = false) (hc : s.slots[i] = some c) (hp : c.phase = .sampling)
    (hst : c.step = some st) (hm : c.nextAt = some m) :
    ∃ t, exec (.lampSampleInterval i) s = .next t ∧ t.time = max s.time m ∧
      t.slots = s.slots.set i (some (c.sampled t.time (reachable s c.bay))) ∧
      (t.bay c.bay).lamp = { (s.bay c.bay).lamp with lit := true } ∧
      (reachable s c.bay = true →
        (laneOf t c.bay .lamp).queued = some (newEntry (.lampSample st.circuit st.settle) t.time)) ∧
      ∀ x : Bay, x ≠ c.bay → t.bay x = s.bay x := by
  have asked := askSample_eq (s := timeTo m s) hc hst
  have kept : ClassesKept s (askSample i (timeTo m s)) := by
    rw [asked]
    exact (litState_classes (s := timeTo m s)).trans askReplacing_classes
  have ran := exec_lampSampleInterval hreset hc hp hm
  rw [kept.pollsHeld, asked] at ran
  have lit : (litState c.bay (timeTo m s)).bay c.bay =
      { s.bay c.bay with lamp := { (s.bay c.bay).lamp with lit := true } } := updLamp_bay_self c.bay _ _
  refine ⟨_, ran, ?_, ?_, ?_, fun hr => ?_, fun x hx => ?_⟩
  · rw [updSlot_time, askReplacing_time]
    rfl
  · rw [updSlot_slots, updSlot_time, askReplacing_slots, askReplacing_time]
    show s.slots.set i (s.slots[i].map _) = _
    rw [hc]
    rfl
  · rw [updSlot_bay, askReplacing_lamp, lit]
  · have reach : reachable (litState c.bay (timeTo m s)) c.bay = true := updLamp_reachable.trans hr
    rw [updSlot_time, askReplacing_time]
    exact askReplacing_queued reach (by simp [sortOf])
  · rw [updSlot_bay, askReplacing_bay_ne hx]
    exact updLamp_bay_ne hx _ _

/-! ### LAMP_OFF asked again -/

theorem exec_lampOffRetry (hreset : s.inReset = false) (hl : (s.bay b).lamp.lit = true) (hs : (s.bay b).lamp.slot = none)
    (hm : (s.bay b).lamp.offRetryAt = some m) :
    exec (.lampOffRetry b) s = .next (pollsHeld s (askLampOff b (timeTo m s))) := by
  have due : offRetryDue s b = some m := by
    unfold offRetryDue
    rw [hl, hs]
    exact hm
  show carryOut (outOfReset (atMoment (offRetryDue s b) (askLampOff b))) s = _
  rw [carryOut_outOfReset hreset, due]
  rfl

theorem askLampOff_reachable (h : reachable s b = true) :
    askLampOff b s = askReplacing b .lampOff (updLamp b (fun l => { l with offRetryAt := none }) s) := if_pos h

theorem askLampOff_unreached (h : reachable s b = false) : askLampOff b s = lampOffFailed b s :=
  if_neg (by rw [h]; exact Bool.false_ne_true)

theorem askLampOff_classes : ClassesKept s (askLampOff b s) := by
  unfold askLampOff
  split
  · have cleared : ClassesKept s (updLamp b (fun l => { l with offRetryAt := none }) s) := .updLamp fun _ => rfl
    exact cleared.trans askReplacing_classes
  · unfold lampOffFailed
    exact .updLamp fun _ => rfl

theorem askLampOff_bay_ne {x : Bay} (h : x ≠ b) : (askLampOff b s).bay x = s.bay x := by
  unfold askLampOff
  split
  · exact (askReplacing_bay_ne h).trans (updLamp_bay_ne h _ s)
  · exact updLamp_bay_ne h _ s

theorem askLampOff_time : (askLampOff b s).time = s.time := by
  unfold askLampOff
  split
  · exact askReplacing_time
  · rfl

/-- What asking LAMP_OFF leaves at the bay, where it can be reached and where not (spec 05, R113). -/
theorem askLampOff_taken (hl : (s.bay b).lamp.lit = true) (hs : (s.bay b).lamp.slot = none) :
    (reachable s b = true →
      ((askLampOff b s).bay b).lamp = { (s.bay b).lamp with offRetryAt := none } ∧
        (laneOf (askLampOff b s) b .lamp).queued = some (newEntry .lampOff s.time)) ∧
      (reachable s b = false →
        ((askLampOff b s).bay b).lamp = { (s.bay b).lamp with offRetryAt := some (s.time + 10000000) } ∧
          ((askLampOff b s).bay b).loop = (s.bay b).loop) := by
  refine ⟨fun hr => ?_, fun hr => ?_⟩
  · rw [askLampOff_reachable hr]
    refine ⟨?_, askReplacing_queued (updLamp_reachable.trans hr) (by simp [sortOf])⟩
    rw [askReplacing_lamp, updLamp_bay_self]
  · rw [askLampOff_unreached hr]
    unfold lampOffFailed
    rw [updLamp_bay_self]
    simp [hl, hs, offRetryDelay, Config.sec]

end

/-- Settles O50: each timer asks its lamp transaction at its moment, and moves no poll class. -/
theorem lampTimersAskTheNextSampleAndTheNextLampOff : Obligations.LampTimersAskTheNextSampleAndTheNextLampOff := by
  unfold Obligations.LampTimersAskTheNextSampleAndTheNextLampOff
  intro b i c st m s hreset
  refine ⟨lampSampleInterval_asks hreset, fun hl hs hm => ?_⟩
  have kept : ClassesKept s (askLampOff b (timeTo m s)) := askLampOff_classes (s := timeTo m s)
  have ran := exec_lampOffRetry hreset hl hs hm
  rw [kept.pollsHeld] at ran
  obtain ⟨asked, again⟩ := askLampOff_taken (s := timeTo m s) hl hs
  have time : (askLampOff b (timeTo m s)).time = (timeTo m s).time := askLampOff_time
  rw [← time] at asked again
  exact ⟨_, ran, time, asked, again, fun x hx => askLampOff_bay_ne hx⟩

end Sys2Proof.Machine
end

section
/-! PROOF. How a reply or a last failed attempt is handed on (spec 02, R26 to R28, R36), and a BUSY that keeps its
transaction open (spec 02, R28, R44). -/

namespace Sys2Proof.Machine

section
variable {s : State} {b : Bay} {l : OnLine} {e q : Entry} {x : Lane} {bytes : List Byte} {sort : LoopSort}

/-! ### What a good reply leaves before its owner takes it -/

theorem replyEnded_classes : ClassesKept s (replyEnded l bytes s) :=
  ClassesKept.updLoop (s := { s with time := heardAt l bytes s, line := none })

theorem replyEnded_laneOf : laneOf (replyEnded l bytes s) b sort = laneOf s b sort := by
  unfold laneOf replyEnded
  rw [updLoop_bay]
  split
  case isTrue h => subst h; cases sort <;> rfl
  · rfl

theorem replyEnded_bay_ne (h : b ≠ l.bay) : (replyEnded l bytes s).bay b = s.bay b := updLoop_bay_ne h _ _

theorem replyEnded_power : ((replyEnded l bytes s).bay b).power = (s.bay b).power := updLoop_power _ _ _ _

theorem replyEnded_clear : ((replyEnded l bytes s).bay b).clear = (s.bay b).clear := updLoop_clear _ _ _ _

theorem exec_goodReply {good : Good} (h : replies l bytes good s) :
    exec (.replyTaken bytes) s = .next (pollsHeld s (goodReply l good { s with time := heardAt l bytes s })) := by
  obtain ⟨awaits, time, parsed⟩ := h
  rw [exec_replyTaken awaits.1, heard_inTime awaits time, parsed]

/-- A BUSY reply leaves the line free and the failures 0. -/
theorem exec_busyReply (h : replies l bytes .busy s) :
    exec (.replyTaken bytes) s = .next (pollsHeld s (busyReply l.bay l.entry (replyEnded l bytes s))) := by
  have busy : goodReply l .busy { s with time := heardAt l bytes s } = busyReply l.bay l.entry (replyEnded l bytes s) :=
    rfl
  rw [exec_goodReply h, busy]

/-! ### What a last failed attempt leaves before its owner takes it -/

/-- The failure of the second attempt has been counted: the line is free at the end of the 8 ms. -/
def failureCounted (l : OnLine) (s : State) : State :=
  updLoop l.bay (fun r => { r with failures := r.failures + 1 })
    { s with time := max s.time (l.sentEnd + 8000), line := none }

theorem failureCounted_classes : ClassesKept s (failureCounted l s) :=
  ClassesKept.updLoop (s := { s with time := max s.time (l.sentEnd + 8000), line := none })

theorem failureCounted_laneOf : laneOf (failureCounted l s) b sort = laneOf s b sort := by
  unfold laneOf failureCounted
  rw [updLoop_bay]
  split
  case isTrue h => subst h; cases sort <;> rfl
  · rfl

theorem failureCounted_bay_ne (h : b ≠ l.bay) : (failureCounted l s).bay b = s.bay b := updLoop_bay_ne h _ _

theorem failureCounted_power : ((failureCounted l s).bay b).power = (s.bay b).power := updLoop_power _ _ _ _

theorem failureCounted_clear : ((failureCounted l s).bay b).clear = (s.bay b).clear := updLoop_clear _ _ _ _

theorem failureCounted_reachable : reachable (failureCounted l s) b = reachable s b :=
  reachable_congr (congrArg TableRec.occ (updLoop_table _ _ _ _))

/-- A last attempt that times out is handed to its owner as FAILED. -/
theorem exec_lastTimeout (h : lastAttempt l s) :
    exec .replyTimeout s =
      .next (pollsHeld s (ownerOutcome l.bay l.entry .failed .nothing (failureCounted l s))) := by
  obtain ⟨awaits, second, reach, few⟩ := h
  rw [exec_replyTimeout awaits.1, timesOut_eq awaits,
    attemptFails_counted (s := { s with time := max s.time (l.sentEnd + 8000) }) second reach few]
  rfl

/-! ### BUSY -/

theorem updLane_congr {f g : Lane → Lane} (h : f (laneOf s b sort) = g (laneOf s b sort)) :
    updLane b sort f s = updLane b sort g s := by
  unfold laneOf at h
  unfold updLane updLoop updBay
  dsimp only
  rw [h]

/-- The entry as it leaves the line, with the moments at which it may rejoin and at which it was first answered BUSY. -/
theorem Entry.busy_eq {now : Moment} :
    e.busy now = { e with rejoinAt := some (now + 50000), firstBusy := some (e.firstBusy.getD now) } := by
  simp [Entry.busy, busyWait, Config.ms]

/-- Within 10 s of its first BUSY a transaction answered BUSY stays open (spec 02, R28). -/
theorem busyReply_stays (h : ∀ f ∈ e.firstBusy, s.time < f + 10000000) :
    busyReply b e s =
      updLane b (sortOf e.req) (Lane.takeBusy (e.busy s.time))
        (onlyIf (busyFreesIncrease s b e) (freeIncrease b) s) := by
  have limit : busyPersist = 10000000 := rfl
  have early : (e.persistEnd.any fun t => decide (t ≤ s.time)) = false := by
    rw [← limit] at h
    unfold Entry.persistEnd
    cases hf : e.firstBusy with
    | none => rfl
    | some f => rw [Option.map_some, Option.any_some, decide_eq_false (Nat.not_le.mpr (h f hf))]
  exact if_neg (by rw [early]; exact Bool.false_ne_true)

theorem takeBusy_alone (h : sortOf e.req = .lamp ∨ sortOf e.req = .reader ∨ sortOf e.req = .stage ∧ x.queued = none) :
    Lane.takeBusy e x = { x with opened := some e } := by
  unfold Lane.takeBusy
  obtain h | h | ⟨h, hq⟩ := h
  · rw [h]
  · rw [h]
  · rw [h, hq]

/-- A LATCH(open) that is no longer wanted is not sent again (spec 08, R166; log entry 32). -/
theorem takeBusy_latch (h : sortOf e.req = .latch) (hq : x.queued = none) :
    Lane.takeBusy e x = { x with opened := if e.req = .latch true ∧ e.wanted = false then none else some e } := by
  unfold Lane.takeBusy Entry.opensLatch
  rw [h, hq]
  simp only [Bool.and_eq_true, beq_iff_eq, Bool.not_eq_eq_eq_not, Bool.not_true]
  split <;> rfl

/-- A STAGE or LATCH takes the request that waits behind it (spec 02, R44). -/
theorem takeBusy_queued (h : sortOf e.req = .stage ∨ sortOf e.req = .latch) (hq : x.queued = some q) :
    Lane.takeBusy e x = { opened := some (e.takeOver q.req), queued := none } := by
  unfold Lane.takeBusy
  obtain h | h := h <;> rw [h, hq]

theorem isIncrease_stage (h : isIncrease (some e) = true) : sortOf e.req = .stage := by
  unfold isIncrease at h
  dsimp only at h
  split at h
  case h_1 hreq => rw [hreq]; rfl
  · exact absurd h Bool.false_ne_true

/-- Where no later STAGE waits behind it, no increase is freed. -/
theorem busyFreesIncrease_false (h : sortOf e.req ≠ .stage ∨ (laneOf s b .stage).queued = none) :
    busyFreesIncrease s b e = false := by
  unfold busyFreesIncrease
  rw [Bool.and_eq_false_iff]
  obtain h | h := h
  · exact .inl (by rw [← Bool.not_eq_true]; exact fun hi => h (isIncrease_stage hi))
  · exact .inr (by rw [h]; rfl)

/-- The slot of an increase whose entry a later STAGE takes is freed (spec 03, R61). -/
theorem busyFrees_eq (h : isIncrease (some e) = true → (laneOf s b .stage).queued.isSome = true) :
    onlyIf (busyFreesIncrease s b e) (freeIncrease b) s =
      updSupply
        (fun p => { p with
          increase := if isIncrease (some e) = true ∧ p.increase = some b then none else p.increase })
        s := by
  unfold busyFreesIncrease
  cases hi : isIncrease (some e) with
  | false => simp [updSupply]
  | true => simp [h hi, freeIncrease]

end

section
variable {s : State} {l : OnLine} {e : Entry} {bytes : List Byte}

/-- A BUSY with none waiting behind its transaction: the entry rejoins 50 ms later (spec 02, R28). -/
theorem busy_alone (h : replies l bytes .busy s)
    (hs : sortOf l.entry.req = .lamp ∨ sortOf l.entry.req = .reader ∨
      (sortOf l.entry.req = .stage ∧ (laneOf s l.bay .stage).queued = none))
    (hf : ∀ f ∈ l.entry.firstBusy, heardAt l bytes s < f + 10000000) :
    exec (.replyTaken bytes) s =
      .next (updLane l.bay (sortOf l.entry.req)
        (fun x => { x with opened := some (l.entry.busy (heardAt l bytes s)) }) (replyEnded l bytes s)) := by
  have none_freed : busyFreesIncrease (replyEnded l bytes s) l.bay l.entry = false := by
    refine busyFreesIncrease_false ?_
    rw [replyEnded_laneOf]
    obtain h | h | ⟨-, hq⟩ := hs
    · exact .inl (by simp [h])
    · exact .inl (by simp [h])
    · exact .inr hq
  rw [exec_busyReply h, busyReply_stays hf, none_freed, onlyIf_false, (replyEnded_classes.trans .updLane).pollsHeld]
  refine congrArg _ (updLane_congr (takeBusy_alone ?_))
  rw [replyEnded_laneOf]
  exact hs.imp_right (Or.imp_right fun ⟨hs, hq⟩ => ⟨hs, by rw [hs]; exact hq⟩)

/-- A BUSY to a LATCH with none waiting behind it (spec 08, R166). -/
theorem busy_latch (h : replies l bytes .busy s) (hs : sortOf l.entry.req = .latch)
    (hq : (laneOf s l.bay .latch).queued = none)
    (hf : ∀ f ∈ l.entry.firstBusy, heardAt l bytes s < f + 10000000) :
    exec (.replyTaken bytes) s =
      .next (updLane l.bay .latch
        (fun x => { x with
          opened := if l.entry.req = .latch true ∧ l.entry.wanted = false then none
            else some (l.entry.busy (heardAt l bytes s)) })
        (replyEnded l bytes s)) := by
  have none_freed : busyFreesIncrease (replyEnded l bytes s) l.bay l.entry = false :=
    busyFreesIncrease_false (.inl (by simp [hs]))
  rw [exec_busyReply h, busyReply_stays hf, none_freed, onlyIf_false, (replyEnded_classes.trans .updLane).pollsHeld, hs]
  exact congrArg _ (updLane_congr (takeBusy_latch (e := l.entry.busy _) hs (by rw [replyEnded_laneOf]; exact hq)))

/-- A BUSY to a STAGE or LATCH with one waiting behind it (spec 02, R44). -/
theorem busy_queued (h : replies l bytes .busy s) (hs : sortOf l.entry.req = .stage ∨ sortOf l.entry.req = .latch)
    (hq : (laneOf s l.bay (sortOf l.entry.req)).queued = some e)
    (hf : ∀ f ∈ l.entry.firstBusy, heardAt l bytes s < f + 10000000) :
    exec (.replyTaken bytes) s =
      .next (updLane l.bay (sortOf l.entry.req)
        (fun _ => { opened := some ((l.entry.busy (heardAt l bytes s)).takeOver e.req), queued := none })
        (updSupply
          (fun p => { p with
            increase := if isIncrease (some l.entry) = true ∧ p.increase = some l.bay then none else p.increase })
          (replyEnded l bytes s))) := by
  have waits : isIncrease (some l.entry) = true → (laneOf (replyEnded l bytes s) l.bay .stage).queued.isSome = true :=
    fun hi => by
      rw [replyEnded_laneOf, ← isIncrease_stage hi, hq]
      rfl
  have kept : ∀ f g, ClassesKept s (updLane l.bay (sortOf l.entry.req) f (updSupply g (replyEnded l bytes s))) :=
    fun f g => replyEnded_classes.trans (ClassesKept.updLane (s := updSupply g (replyEnded l bytes s)))
  rw [exec_busyReply h, busyReply_stays hf, busyFrees_eq waits, (kept _ _).pollsHeld]
  refine congrArg _ (updLane_congr (takeBusy_queued (e := l.entry.busy _) hs ?_))
  exact (congrArg Lane.queued replyEnded_laneOf).trans hq

end

end Sys2Proof.Machine
end

section
/-! PROOF. The outcomes of a STAGE (spec 03, R61, R64, R66), a reduction in the place of a STAGE that waits (spec 02, R44),
and the increase that is asked first (spec 03, R62). -/

namespace Sys2Proof.Machine

section
variable {s : State} {b : Bay} {e : Entry} {n : Nat}

/-! ### Updates put together -/

theorem updPower_updPower {f g : PowerRec → PowerRec} :
    updPower b g (updPower b f s) = updPower b (fun p => g (f p)) s := by
  unfold updPower updBay
  simp only [State.bay]
  congr 1
  ext1 i hi
  simp [Vector.getElem_set]

theorem updPower_updSupply {f : PowerRec → PowerRec} {g : SupplyRec → SupplyRec} :
    updPower b f (updSupply g s) = updSupply g (updPower b f s) := rfl

theorem updPower_onlyIf_post {f : PowerRec → PowerRec} {c : Bool} {ev : BayEvent} :
    updPower b f (onlyIf c (post ev b) s) = onlyIf c (post ev b) (updPower b f s) := by
  cases c <;> rfl

/-! ### A STAGE that joins -/

/-- The commanded target set, and the Lamp Check Engine told, as a STAGE is asked (spec 03, R60; spec 05, R105). -/
def stageTold (b : Bay) (target : Nat) (s : State) : State :=
  noteStage b (updPower b (fun p => { p with commanded := target, watch := none }) s)

theorem stageTold_bay :
    (stageTold b n s).bay b =
      { s.bay b with
        power := { (s.bay b).power with commanded := n, watch := none }
        lamp := { (s.bay b).lamp with latestStage := some s.time } } := by
  unfold stageTold noteStage
  rw [updLamp_bay_self, updPower_bay_self]
  rfl

theorem stageTold_bay_ne {x : Bay} (h : x ≠ b) : (stageTold b n s).bay x = s.bay x :=
  (updLamp_bay_ne h _ _).trans (updPower_bay_ne h _ _)

theorem stageTold_laneOf {sort : LoopSort} : laneOf (stageTold b n s) b sort = laneOf s b sort :=
  laneOf_congr (by rw [stageTold_bay])

theorem stageTold_classes : ClassesKept s (stageTold b n s) := by
  have commanded : ClassesKept s (updPower b (fun p => { p with commanded := n, watch := none }) s) :=
    .updPower fun _ => ⟨rfl, rfl⟩
  exact commanded.trans (.updLamp fun _ => rfl)

theorem askStage_reachable {increase : Bool} (h : reachable s b = true) :
    askStage b n increase s = joinStage b n increase (stageTold b n s) := if_pos h

theorem askReduction_reachable (h : reachable s b = true) :
    askReduction b n s =
      joinStage b n false (stageTold b n (onlyIf (isIncrease (replaceable s b .stage)) (freeIncrease b) s)) :=
  askStage_reachable (by cases isIncrease (replaceable s b .stage) <;> exact h)

theorem joinStage_bay_ne {x : Bay} {increase : Bool} (h : x ≠ b) : (joinStage b n increase s).bay x = s.bay x :=
  updLoop_bay_ne h _ s

theorem joinStage_laneOf {increase : Bool} :
    laneOf (joinStage b n increase s) b .stage =
      (laneOf s b .stage).join (lineHas s b .stage) s.time (.stage n increase) := laneOf_updLane_self (by simp)

theorem lineHas_free {sort : LoopSort} (h : s.line = none) : lineHas s b sort = false := by
  unfold lineHas
  rw [h]

/-- What a reduction leaves that meets no STAGE of the bay (spec 03, R61). -/
structure ReductionAsked (s t : State) (b : Bay) (n : Nat) : Prop where
  lane : laneOf t b .stage = { opened := none, queued := some (newEntry (.stage n false) s.time) }
  power : (t.bay b).power = { (s.bay b).power with commanded := n, watch := none }
  latest : (t.bay b).lamp.latestStage = some s.time
  supply : t.supply = s.supply
  time : t.time = s.time
  other : ∀ x, x ≠ b → t.bay x = s.bay x
  classes : ClassesKept s t

theorem askReduction_asked (hr : reachable s b = true) (hl : s.line = none) (he : laneOf s b .stage = .empty) :
    ReductionAsked s (askReduction b n s) b n := by
  have none_replaced : isIncrease (replaceable s b .stage) = false := by
    unfold replaceable
    rw [he, lineHas_free hl]
    rfl
  rw [askReduction_reachable hr, none_replaced, onlyIf_false]
  have free : lineHas (stageTold b n s) b .stage = false := lineHas_free hl
  exact
    { lane := by
        rw [joinStage_laneOf, stageTold_laneOf, he, free]
        rfl
      power := by
        unfold joinStage updLane
        rw [updLoop_power, stageTold_bay]
      latest := by
        unfold joinStage
        rw [updLane_lamp, stageTold_bay]
      supply := rfl
      time := rfl
      other := fun x hx => (joinStage_bay_ne hx).trans (stageTold_bay_ne hx)
      classes := stageTold_classes.trans .updLane }

/-! ### A reduction in the place of a STAGE that waits -/

theorem askReduction_laneOf (h : reachable s b = true) :
    laneOf (askReduction b n s) b .stage =
      (laneOf s b .stage).join (lineHas s b .stage) s.time (.stage n false) := by
  rw [askReduction_reachable h, joinStage_laneOf, stageTold_laneOf]
  cases isIncrease (replaceable s b .stage) <;> rfl

/-- The entry of a reduction keeps its age and its BUSY times (spec 02, R44). -/
theorem takeOver_reduction : e.takeOver (.stage n false) = { e with req := .stage n false, cls := 1, wanted := true } :=
  rfl

theorem askReduction_takesPlace (hr : reachable s b = true) :
    ((laneOf s b .stage).queued = some e →
      laneOf (askReduction b n s) b .stage =
        { opened := (laneOf s b .stage).opened
          queued := some { e with req := .stage n false, cls := 1, wanted := true } }) ∧
      ((laneOf s b .stage).queued = none → (laneOf s b .stage).opened = some e → s.line = none →
        laneOf (askReduction b n s) b .stage =
          { opened := some { e with req := .stage n false, cls := 1, wanted := true }, queued := none }) := by
  rw [askReduction_laneOf hr, ← takeOver_reduction]
  refine ⟨fun hq => ?_, fun hq ho hl => ?_⟩
  · unfold Lane.join
    rw [hq]
  · unfold Lane.join
    rw [hq, ho, lineHas_free hl]
    rfl

/-! ### Outcomes -/

/-- An increase that has ended: the spacings count from now, and the depot-wide slot is free of it (spec 03, R62). -/
theorem increaseEnded_eq :
    increaseEnded b s =
      updSupply
        (fun p => { p with
          lastIncrease := some s.time
          increase := if p.increase = some b then none else p.increase })
        (updPower b (fun p => { p with lastIncrease := some s.time }) s) := rfl

theorem stageEnded_eq : stageEnded b s = updPower b (fun p => { p with polledSince := false }) s := rfl

theorem startWatch_eq : startWatch b s = updPower b (fun p => { p with watch := some 0 }) s := rfl

/-- An increase that has ended with an outcome, all its changes of the allocator's record put together. -/
theorem increase_over :
    increaseEnded b (stageEnded b s) =
      updSupply
        (fun p => { p with
          lastIncrease := some s.time
          increase := if p.increase = some b then none else p.increase })
        (updPower b (fun p => { p with lastIncrease := some s.time, polledSince := false }) s) := by
  rw [increaseEnded_eq, stageEnded_eq, updPower_updPower]
  rfl

theorem reduction_taken :
    startWatch b (stageEnded b s) = updPower b (fun p => { p with watch := some 0, polledSince := false }) s := by
  rw [startWatch_eq, stageEnded_eq, updPower_updPower]

theorem increase_taken :
    stageOutcome b true .done s =
      updSupply
        (fun p => { p with
          lastIncrease := some s.time
          increase := if p.increase = some b then none else p.increase })
        (updPower b
          (fun p => { p with
            lastIncrease := some s.time, refused := false, watch := some 0, polledSince := false })
          s) := by
  show startWatch b (updPower b (fun p => { p with refused := false }) (increaseEnded b (stageEnded b s))) = _
  rw [startWatch_eq, increase_over, updPower_updSupply, updPower_updSupply, updPower_updPower, updPower_updPower]

/-- The state in which a refused increase has ended and the refused mark is set, before the commanded target returns. -/
def increaseDenied (b : Bay) (s : State) : State :=
  updSupply
    (fun p => { p with
      lastIncrease := some s.time
      increase := if p.increase = some b then none else p.increase })
    (updPower b
      (fun p => { p with lastIncrease := some s.time, refused := true, watch := some 0, polledSince := false }) s)

theorem increase_refused :
    stageOutcome b true .refused s =
      returnCommanded b (onlyIf (!(s.bay b).power.refused) (post .equipment b) (increaseDenied b s)) := by
  show increaseRefused b (startWatch b (increaseEnded b (stageEnded b s))) = _
  rw [increase_over, startWatch_eq, updPower_updSupply, updPower_updPower]
  unfold increaseRefused
  rw [updPower_updSupply, updPower_updPower, updSupply_bay, updPower_bay_self]
  rfl

theorem increaseDenied_bay :
    (increaseDenied b s).bay b =
      { s.bay b with
        power := { (s.bay b).power with
          lastIncrease := some s.time, refused := true, watch := some 0, polledSince := false } } := by
  unfold increaseDenied
  rw [updSupply_bay, updPower_bay_self]

end

end Sys2Proof.Machine
end

section
/-! PROOF. What a STAGE's outcome and the depot's next increase leave of the state, and the obligation on BUSY and STAGE
(spec 02, R28, R44; spec 03, R61 to R66). -/

namespace Sys2Proof.Machine

section
variable {s : State} {b : Bay} {l : OnLine} {bytes : List Byte} {target : Nat} {increase : Bool}

/-! ### Outcomes that stand as they are -/

theorem stage_owner {o : Handed} {c : Contents} (h : l.entry.req = .stage target increase) :
    ownerOutcome b l.entry o c s = stageOutcome b increase o s := by
  unfold ownerOutcome
  rw [h]

/-- A reduction ended DONE or REFUSED: its stuck watch starts, and a fresh poll is waited for (spec 03, R62, R66). -/
theorem reduction_ends (hq : l.entry.req = .stage target false)
    (h : replies l bytes (.ok .nothing) s ∨ replies l bytes .refused s) :
    exec (.replyTaken bytes) s =
      .next (updPower l.bay (fun p => { p with watch := some 0, polledSince := false }) (replyEnded l bytes s)) := by
  have kept : ClassesKept s
      (updPower l.bay (fun p => { p with watch := some 0, polledSince := false }) (replyEnded l bytes s)) :=
    replyEnded_classes.trans (.updPower fun _ => ⟨rfl, rfl⟩)
  have taken : ∀ o, o = .done ∨ o = .refused → ownerOutcome l.bay l.entry o .nothing (replyEnded l bytes s) =
      updPower l.bay (fun p => { p with watch := some 0, polledSince := false }) (replyEnded l bytes s) := by
    intro o ho
    rw [stage_owner hq, ← reduction_taken]
    obtain rfl | rfl := ho <;> rfl
  obtain h | h := h
  · rw [exec_okReply h, taken _ (.inl rfl), kept.pollsHeld]
  · rw [exec_refusedReply h, taken _ (.inr rfl), kept.pollsHeld]

/-- An increase ended DONE (spec 03, R62, R64, R66). -/
theorem increase_done (hq : l.entry.req = .stage target true) (h : replies l bytes (.ok .nothing) s) :
    exec (.replyTaken bytes) s =
      .next (updSupply
        (fun p => { p with
          lastIncrease := some (heardAt l bytes s)
          increase := if p.increase = some l.bay then none else p.increase })
        (updPower l.bay
          (fun p => { p with
            lastIncrease := some (heardAt l bytes s), refused := false, watch := some 0, polledSince := false })
          (replyEnded l bytes s))) := by
  rw [exec_okReply h, stage_owner hq, increase_taken]
  have watched : ClassesKept s (updPower l.bay
      (fun p => { p with
        lastIncrease := some (heardAt l bytes s), refused := false, watch := some 0, polledSince := false })
      (replyEnded l bytes s)) := replyEnded_classes.trans (.updPower fun _ => ⟨rfl, rfl⟩)
  exact congrArg _ (ClassesKept.pollsHeld watched)

/-! ### A refused increase -/

theorem increaseDenied_classes : ClassesKept s (increaseDenied b s) :=
  ClassesKept.updPower (f := fun p => { p with
    lastIncrease := some s.time, refused := true, watch := some 0, polledSince := false }) fun _ => ⟨rfl, rfl⟩

theorem increaseDenied_laneOf {sort : LoopSort} : laneOf (increaseDenied b s) b sort = laneOf s b sort :=
  laneOf_congr (by rw [increaseDenied_bay])

theorem post_onlyIf_bay {c : Bool} {ev : BayEvent} {x : Bay} : (onlyIf c (post ev b) s).bay x = s.bay x := by
  cases c <;> rfl

/-- With no STAGE waiting and no more closed than granted, the commanded target is the closed count again (spec 03, R64). -/
theorem returnCommanded_within (hq : (laneOf s b .stage).queued = none)
    (hc : (s.bay b).power.closed ≤ (s.bay b).power.grant) :
    returnCommanded b s = updPower b (fun p => { p with commanded := p.closed }) s := by
  unfold returnCommanded
  rw [hq, if_neg (by simp)]
  unfold reduceBay commandClosed
  rw [updPower_bay_self, decide_eq_false (Nat.not_lt.mpr hc)]
  rfl

/-- With no STAGE waiting and more closed than granted, the reduction is asked (spec 03, R61; log entry 12). -/
theorem returnCommanded_above (hq : (laneOf s b .stage).queued = none)
    (hc : (s.bay b).power.grant < (s.bay b).power.closed) :
    returnCommanded b s = askReduction b (s.bay b).power.grant (commandClosed b s) := by
  unfold returnCommanded
  rw [hq, if_neg (by simp)]
  unfold reduceBay commandClosed
  rw [updPower_bay_self, decide_eq_true (show (s.bay b).power.grant < (s.bay b).power.closed from hc)]
  rfl

theorem increaseDenied_bay_ne {x : Bay} (h : x ≠ b) : (increaseDenied b s).bay x = s.bay x := by
  unfold increaseDenied
  rw [updSupply_bay, updPower_bay_ne h]

/-- The state from which the commanded target of a refused increase returns: EQUIPMENT is posted where it is new. -/
def increaseTold (b : Bay) (s : State) : State :=
  onlyIf (!(s.bay b).power.refused) (post .equipment b) (increaseDenied b s)

theorem increaseTold_bay {x : Bay} : (increaseTold b s).bay x = (increaseDenied b s).bay x := post_onlyIf_bay

theorem increaseTold_power :
    ((increaseTold b s).bay b).power =
      { (s.bay b).power with lastIncrease := some s.time, refused := true, watch := some 0, polledSince := false } := by
  rw [increaseTold_bay, increaseDenied_bay]

theorem increaseTold_laneOf {sort : LoopSort} : laneOf (increaseTold b s) b sort = laneOf s b sort :=
  (laneOf_congr (congrArg BayRec.loop increaseTold_bay)).trans increaseDenied_laneOf

theorem increaseTold_classes : ClassesKept s (increaseTold b s) := increaseDenied_classes.trans (.onlyIf fun _ => rfl)

theorem increaseTold_time : (increaseTold b s).time = s.time := by
  unfold increaseTold
  cases !(s.bay b).power.refused <;> rfl

theorem increaseTold_line : (increaseTold b s).line = s.line := by
  unfold increaseTold
  cases !(s.bay b).power.refused <;> rfl

/-- A refused increase of a bay with no more closed than granted (spec 03, R64). -/
theorem increase_refused_within (hl : (laneOf s b .stage).queued = none)
    (hc : (s.bay b).power.closed ≤ (s.bay b).power.grant) :
    stageOutcome b true .refused s =
      onlyIf (!(s.bay b).power.refused) (post .equipment b)
        (updSupply
          (fun p => { p with
            lastIncrease := some s.time
            increase := if p.increase = some b then none else p.increase })
          (updPower b
            (fun p => { p with
              lastIncrease := some s.time, refused := true, watch := some 0, polledSince := false,
              commanded := p.closed })
            s)) := by
  have within : ((increaseTold b s).bay b).power.closed ≤ ((increaseTold b s).bay b).power.grant := by
    rw [increaseTold_power]
    exact hc
  have lane : (laneOf (increaseTold b s) b .stage).queued = none := by rw [increaseTold_laneOf, hl]
  have returned : stageOutcome b true .refused s =
      updPower b (fun p => { p with commanded := p.closed }) (increaseTold b s) :=
    increase_refused.trans (returnCommanded_within lane within)
  rw [returned, increaseTold, updPower_onlyIf_post, increaseDenied, updPower_updSupply, updPower_updPower]

theorem exec_increaseRefused (hq : l.entry.req = .stage target true) (h : replies l bytes .refused s)
    (hl : (laneOf s l.bay .stage).queued = none) (hc : (s.bay l.bay).power.closed ≤ (s.bay l.bay).power.grant) :
    exec (.replyTaken bytes) s =
      .next (onlyIf (!(s.bay l.bay).power.refused) (post .equipment l.bay)
        (updSupply
          (fun p => { p with
            lastIncrease := some (heardAt l bytes s)
            increase := if p.increase = some l.bay then none else p.increase })
          (updPower l.bay
            (fun p => { p with
              lastIncrease := some (heardAt l bytes s), refused := true, watch := some 0, polledSince := false,
              commanded := p.closed })
            (replyEnded l bytes s)))) := by
  have taken := increase_refused_within (s := replyEnded l bytes s) (b := l.bay) (by rw [replyEnded_laneOf, hl])
    (by rw [replyEnded_power]; exact hc)
  rw [replyEnded_power] at taken
  have time : heardAt l bytes s = (replyEnded l bytes s).time := rfl
  have kept : ClassesKept s (replyEnded l bytes s) := replyEnded_classes
  rw [exec_refusedReply h, stage_owner hq, taken, time]
  generalize replyEnded l bytes s = x at kept
  generalize (!(s.bay l.bay).power.refused) = c
  have returned : ∀ f, (∀ p : PowerRec, (f p).grant = p.grant ∧ (f p).closed = p.closed) → ∀ g,
      ClassesKept s (onlyIf c (post .equipment l.bay) (updSupply g (updPower l.bay f x))) := fun f hf g =>
    (kept.trans (ClassesKept.updPower hf)).trans (ClassesKept.onlyIf fun _ => rfl)
  refine congrArg _ (ClassesKept.pollsHeld (returned _ ?_ _))
  exact fun _ => ⟨rfl, rfl⟩

theorem Lane.eq_empty {x : Lane} (ho : x.opened = none) (hq : x.queued = none) : x = .empty := by
  obtain ⟨_, _⟩ := x
  obtain rfl := ho
  obtain rfl := hq
  rfl

/-- A refused increase of a bay with more closed than granted brings the reduction (spec 03, R61, R64). -/
theorem exec_increaseRefused_above (hq : l.entry.req = .stage target true) (h : replies l bytes .refused s)
    (hl : (laneOf s l.bay .stage).queued = none) (hc : (s.bay l.bay).power.grant < (s.bay l.bay).power.closed)
    (hr : reachable s l.bay = true) (ho : (laneOf s l.bay .stage).opened = none) :
    ∃ t, exec (.replyTaken bytes) s = .next t ∧
      (t.bay l.bay).power =
          { (s.bay l.bay).power with
            lastIncrease := some t.time, refused := true, watch := none, polledSince := false,
            commanded := (s.bay l.bay).power.grant } ∧
        laneOf t l.bay .stage =
          { opened := none, queued := some (newEntry (.stage (s.bay l.bay).power.grant false) t.time) } ∧
        (t.bay l.bay).lamp.latestStage = some t.time ∧
        ∀ x : Bay, x ≠ l.bay → t.bay x = s.bay x := by
  have ran : exec (.replyTaken bytes) s =
      .next (pollsHeld s (returnCommanded l.bay (increaseTold l.bay (replyEnded l bytes s)))) := by
    rw [exec_refusedReply h, stage_owner hq, increase_refused, increaseTold]
  have lane : laneOf (increaseTold l.bay (replyEnded l bytes s)) l.bay .stage = .empty := by
    rw [increaseTold_laneOf, replyEnded_laneOf]
    exact Lane.eq_empty ho hl
  have power := increaseTold_power (s := replyEnded l bytes s) (b := l.bay)
  rw [replyEnded_power] at power
  have time : (increaseTold l.bay (replyEnded l bytes s)).time = (replyEnded l bytes s).time := increaseTold_time
  have line : (increaseTold l.bay (replyEnded l bytes s)).line = none := increaseTold_line
  have kept : ClassesKept s (increaseTold l.bay (replyEnded l bytes s)) := replyEnded_classes.trans increaseTold_classes
  have other : ∀ x, x ≠ l.bay → (increaseTold l.bay (replyEnded l bytes s)).bay x = s.bay x := fun x hx =>
    (increaseTold_bay.trans (increaseDenied_bay_ne hx)).trans (replyEnded_bay_ne hx)
  have reach : reachable (increaseTold l.bay (replyEnded l bytes s)) l.bay = true :=
    (reachable_congr (by rw [increaseTold_bay, increaseDenied_bay])).trans (replyEnded_reachable.trans hr)
  generalize increaseTold l.bay (replyEnded l bytes s) = u at *
  have above : (u.bay l.bay).power.grant < (u.bay l.bay).power.closed := by rw [power]; exact hc
  rw [returnCommanded_above (by rw [lane]; rfl) above, power] at ran
  have closed : ClassesKept u (commandClosed l.bay u) := .updPower fun _ => ⟨rfl, rfl⟩
  have asked : ReductionAsked (commandClosed l.bay u)
      (askReduction l.bay (s.bay l.bay).power.grant (commandClosed l.bay u)) l.bay (s.bay l.bay).power.grant :=
    askReduction_asked ((reachable_congr (by simp [commandClosed])).trans reach) line
      ((laneOf_congr (by simp [commandClosed])).trans lane)
  have now : (commandClosed l.bay u).time = (replyEnded l bytes s).time := time
  have same : ((commandClosed l.bay u).bay l.bay).power =
      { (u.bay l.bay).power with commanded := (u.bay l.bay).power.closed } := by
    unfold commandClosed
    rw [updPower_bay_self]
  have others : ∀ x, x ≠ l.bay → (commandClosed l.bay u).bay x = s.bay x := fun x hx =>
    (updPower_bay_ne hx _ u).trans (other x hx)
  have kept' := (kept.trans closed).trans asked.classes
  change exec (.replyTaken bytes) s =
    .next (pollsHeld s (askReduction l.bay (s.bay l.bay).power.grant (commandClosed l.bay u))) at ran
  generalize askReduction l.bay (s.bay l.bay).power.grant (commandClosed l.bay u) = t at *
  rw [kept'.pollsHeld] at ran
  refine ⟨t, ran, ?_, ?_, ?_, fun x hx => (asked.other x hx).trans (others x hx)⟩
  · rw [asked.power, same, power, asked.time, now]
  · rw [asked.lane, asked.time]
  · rw [asked.latest, asked.time]

/-! ### A STAGE that FAILED -/

/-- A failed increase frees its slot and keeps the commanded target (spec 03, R62, R64). -/
theorem increase_failed (h : lastAttempt l s) (hq : l.entry.req = .stage target true) :
    ∃ t, exec .replyTimeout s = .next t ∧
      t.supply =
          { s.supply with
            lastIncrease := some t.time
            increase := if s.supply.increase = some l.bay then none else s.supply.increase } ∧
        (t.bay l.bay).power = { (s.bay l.bay).power with lastIncrease := some t.time, polledSince := false } ∧
        ∀ x : Bay, x ≠ l.bay → t.bay x = s.bay x := by
  have ran := exec_lastTimeout h
  have failed : stageOutcome l.bay true .failed (failureCounted l s) = _ := increase_over
  rw [stage_owner hq, failed] at ran
  have ended : ClassesKept s (updPower l.bay
      (fun p => { p with lastIncrease := some (failureCounted l s).time, polledSince := false })
      (failureCounted l s)) := failureCounted_classes.trans (.updPower fun _ => ⟨rfl, rfl⟩)
  refine ⟨_, ran.trans (congrArg _ (ClassesKept.pollsHeld ended)), rfl, ?_, fun x hx => ?_⟩
  · rw [updSupply_bay, updPower_bay_self, failureCounted_power]
    rfl
  · rw [updSupply_bay, updPower_bay_ne hx, failureCounted_bay_ne hx]

/-- A reduction that FAILED is asked again as the commanded target stands. -/
theorem reduction_again (hr : reachable s b = true) (hl : s.line = none) (he : laneOf s b .stage = .empty) :
    stageOutcome b false .failed s = askReduction b (s.bay b).power.commanded (stageEnded b s) ∧
      ReductionAsked (stageEnded b s) (askReduction b (s.bay b).power.commanded (stageEnded b s)) b
        (s.bay b).power.commanded :=
  ⟨rfl, askReduction_asked ((reachable_congr (by simp [stageEnded])).trans hr) hl
    ((laneOf_congr (by simp [stageEnded])).trans he)⟩

/-- A failed reduction is asked again at once (spec 03, R64). -/
theorem reduction_failed (h : lastAttempt l s) (hq : l.entry.req = .stage target false)
    (he : laneOf s l.bay .stage = .empty) :
    ∃ t, exec .replyTimeout s = .next t ∧
      laneOf t l.bay .stage =
          { opened := none, queued := some (newEntry (.stage (s.bay l.bay).power.commanded false) t.time) } ∧
        (t.bay l.bay).power = { (s.bay l.bay).power with watch := none, polledSince := false } ∧
        (t.bay l.bay).lamp.latestStage = some t.time ∧ t.supply = s.supply ∧
        ∀ x : Bay, x ≠ l.bay → t.bay x = s.bay x := by
  have ran := exec_lastTimeout h
  rw [stage_owner hq] at ran
  have reach : reachable (failureCounted l s) l.bay = true := failureCounted_reachable.trans h.2.2.1
  have lane : laneOf (failureCounted l s) l.bay .stage = .empty := failureCounted_laneOf.trans he
  have power : ((failureCounted l s).bay l.bay).power = (s.bay l.bay).power := failureCounted_power
  have kept : ClassesKept s (failureCounted l s) := failureCounted_classes
  have supply : (failureCounted l s).supply = s.supply := rfl
  have other : ∀ y, y ≠ l.bay → (failureCounted l s).bay y = s.bay y := fun y hy => failureCounted_bay_ne hy
  have line : (failureCounted l s).line = none := rfl
  generalize failureCounted l s = x at *
  obtain ⟨again, asked⟩ := reduction_again reach line lane
  have ended : ((stageEnded l.bay x).bay l.bay).power = { (x.bay l.bay).power with polledSince := false } := by
    rw [stageEnded_eq, updPower_bay_self]
  have kept' : ClassesKept x (stageEnded l.bay x) := .updPower fun _ => ⟨rfl, rfl⟩
  rw [again, ((kept.trans kept').trans asked.classes).pollsHeld] at ran
  refine ⟨_, ran, ?_, ?_, ?_, asked.supply.trans supply, fun y hy => ?_⟩
  · rw [asked.lane, asked.time, power]
  · rw [asked.power, ended, power]
  · rw [asked.latest, asked.time]
  · exact (asked.other y hy).trans ((updPower_bay_ne hy _ x).trans (other y hy))

end

end Sys2Proof.Machine
end

section
/-! PROOF. The depot's next increase (spec 03, R62), and the obligation on BUSY, STAGE outcomes and increases. -/

namespace Sys2Proof.Machine

section
variable {s : State} {b : Bay} {n : Nat}

/-! ### The moment of an increase -/

/-- The moment from which a bay may have its increase, now at the earliest. -/
def increaseFrom (s : State) (b : Bay) : Moment := max s.time (increaseReady s b)

/-- The earlier of a moment found so far and a bay's. -/
def sooner (s : State) (best : Option Moment) (b : Bay) : Option Moment :=
  match best with
  | some t => some (min t (increaseFrom s b))
  | none => some (increaseFrom s b)

theorem increaseMoment_eq :
    increaseMoment s = ((demandList s).filter (wantsIncrease s)).foldl (sooner s) none := rfl

theorem time_le_increaseFrom : s.time ≤ increaseFrom s b := Nat.le_max_left _ _

theorem increaseFrom_now (h : increaseReady s b ≤ s.time) : increaseFrom s b = s.time := Nat.max_eq_left h

/-- Where one of the bays may have its increase now, the moment is now. -/
theorem sooner_now {bs : List Bay} {best : Option Moment} (hbest : ∀ t ∈ best, s.time ≤ t)
    (h : best = some s.time ∨ ∃ b ∈ bs, increaseReady s b ≤ s.time) : bs.foldl (sooner s) best = some s.time := by
  induction bs generalizing best with
  | nil =>
    obtain h | ⟨b, hb, -⟩ := h
    · exact h
    · exact absurd hb (by simp)
  | cons x bs ih =>
    refine ih (best := sooner s best x) (fun t ht => ?_) ?_
    · cases best with
      | none =>
        obtain rfl := Option.some.inj ht
        exact time_le_increaseFrom
      | some t0 =>
        obtain rfl := Option.some.inj ht
        exact Nat.le_min.mpr ⟨hbest t0 rfl, time_le_increaseFrom⟩
    · obtain rfl | ⟨b, hb, hready⟩ := h
      · exact .inl (congrArg some (Nat.min_eq_left time_le_increaseFrom))
      · obtain rfl | hb := List.mem_cons.mp hb
        · refine .inl ?_
          unfold sooner
          rw [increaseFrom_now hready]
          cases best with
          | none => rfl
          | some t0 => exact congrArg some (Nat.min_eq_right (hbest t0 rfl))
        · exact .inr ⟨b, hb, hready⟩

/-- The bay of an increase stands in the demand list, wants it, and both its spacings have run (spec 03, R62). -/
theorem increaseBay_some (h : increaseBay s = some b) :
    b ∈ demandList s ∧ wantsIncrease s b = true ∧ increaseReady s b ≤ s.time := by
  unfold increaseBay at h
  have found := List.find?_some h
  rw [Bool.and_eq_true, decide_eq_true_eq] at found
  exact ⟨List.mem_of_find?_eq_some h, found⟩

theorem increaseMoment_now (h : increaseBay s = some b) : increaseMoment s = some s.time := by
  obtain ⟨listed, wants, ready⟩ := increaseBay_some h
  rw [increaseMoment_eq]
  exact sooner_now (by simp) (.inr ⟨b, List.mem_filter.mpr ⟨listed, wants⟩, ready⟩)

theorem timeTo_now : timeTo s.time s = s := by
  unfold timeTo
  rw [Nat.max_self]

theorem stageIncrease_eq (hi : s.supply.increase = none) (h : increaseBay s = some b) :
    stageIncrease s = askIncrease b s := by
  unfold stageIncrease
  rw [hi, increaseMoment_now h]
  dsimp only
  rw [timeTo_now, h]

/-! ### The increase -/

/-- A bay that wants an increase has no STAGE open or pending. -/
theorem wantsIncrease_free (h : wantsIncrease s b = true) :
    laneOf s b .stage = .empty ∧ lineHas s b .stage = false := by
  unfold wantsIncrease at h
  simp only [Bool.and_eq_true, Bool.not_eq_eq_eq_not, Bool.not_true] at h
  obtain ⟨⟨⟨-, none_any⟩, -⟩, -⟩ := h
  unfold anyOf at none_any
  simp only [Bool.or_eq_false_iff, Option.isSome_eq_false_iff, Option.isNone_iff_eq_none] at none_any
  obtain ⟨⟨line, opened⟩, queued⟩ := none_any
  exact ⟨Lane.eq_empty opened queued, line⟩

/-- STAGE(closed + 1) joins for a bay with no STAGE (spec 03, R62). -/
theorem askIncrease_eq (hr : reachable s b = true) (hw : wantsIncrease s b = true) :
    askIncrease b s =
      updLane b .stage
        (fun _ =>
          { opened := none, queued := some (newEntry (.stage ((s.bay b).power.closed + 1) true) s.time) })
        (stageTold b ((s.bay b).power.closed + 1) (updSupply (fun p => { p with increase := some b }) s)) := by
  obtain ⟨lane, line⟩ := wantsIncrease_free hw
  have reach : reachable (updSupply (fun p => { p with increase := some b }) s) b = true := hr
  have empty : laneOf (stageTold b ((s.bay b).power.closed + 1) (updSupply (fun p => { p with increase := some b }) s)) b
      .stage = .empty := stageTold_laneOf.trans lane
  unfold askIncrease
  rw [askStage_reachable reach]
  exact updLane_congr (by rw [empty]; rfl)

theorem stageTold_increase_eq {f : SupplyRec → SupplyRec} :
    stageTold b ((s.bay b).power.closed + 1) (updSupply f s) =
      updLamp b (fun x => { x with latestStage := some s.time })
        (updPower b (fun p => { p with commanded := p.closed + 1, watch := none }) (updSupply f s)) := rfl

theorem exec_stageIncrease (hreset : s.inReset = false) (hi : s.supply.increase = none) (h : increaseBay s = some b)
    (hr : reachable s b = true) :
    exec .stageIncrease s =
      .next (updLane b .stage
        (fun _ =>
          { opened := none, queued := some (newEntry (.stage ((s.bay b).power.closed + 1) true) s.time) })
        (updLamp b (fun x => { x with latestStage := some s.time })
          (updPower b (fun p => { p with commanded := p.closed + 1, watch := none })
            (updSupply (fun p => { p with increase := some b }) s)))) := by
  obtain ⟨-, wants, -⟩ := increaseBay_some h
  have asked := (stageIncrease_eq hi h).trans (askIncrease_eq hr wants)
  have kept : ClassesKept s (stageIncrease s) := by
    rw [asked]
    exact ClassesKept.trans (stageTold_classes (s := updSupply (fun p => { p with increase := some b }) s)) .updLane
  rw [stageTold_increase_eq] at asked
  rw [← asked]
  exact kept.carried hreset rfl

end

/-- Settles O41: BUSY by what waits behind its transaction, STAGE by its outcome, and the increase of the first bay that may
have one now. -/
theorem busyAndStageOutcomesAreTakenAndIncreasesAsked : Obligations.BusyAndStageOutcomesAreTakenAndIncreasesAsked := by
  unfold Obligations.BusyAndStageOutcomesAreTakenAndIncreasesAsked
  intro l bytes target n b e s
  refine ⟨fun h hs hf => ?_, fun h hs hq hf => ?_, fun h hs hq hf => ?_, reduction_ends, increase_done,
    fun hq h hl => ⟨exec_increaseRefused hq h hl, exec_increaseRefused_above hq h hl⟩, increase_failed, reduction_failed,
    askReduction_takesPlace, exec_stageIncrease⟩
  · rw [← Entry.busy_eq]
    exact busy_alone h hs hf
  · rw [← Entry.busy_eq]
    exact busy_latch h hs hq hf
  · have taken := busy_queued h hs hq hf
    rw [Entry.busy_eq] at taken
    exact taken

end Sys2Proof.Machine
end

section
/-! PROOF. The latch lane and the end of a release (spec 02, R44; spec 08, R164). -/

namespace Sys2Proof.Machine

section
variable {s t : State} {b : Bay} {x : Lane}

/-! ### The latch lane -/

/-- A LATCH of this direction stands in the lane. -/
def Lane.latches (x : Lane) (open_ : Bool) : Bool :=
  x.opened.any (fun e => e.req == .latch open_) || x.queued.any (fun e => e.req == .latch open_)

theorem closePending_eq : closePending s b = (laneOf s b .latch).latches false := rfl

theorem openPending_eq : openPending s b = (laneOf s b .latch).latches true := rfl

/-- A LATCH that joins stands in the lane (spec 02, R44). -/
theorem Lane.join_latches {onLine open_ : Bool} {now : Moment} :
    (x.join onLine now (.latch open_)).latches open_ = true := by
  obtain ⟨o, q⟩ := x
  cases q with
  | some q => simp [Lane.join, Lane.latches, Entry.takeOver]
  | none =>
    cases o with
    | none => simp [Lane.join, Lane.latches, newEntry]
    | some o => cases onLine <;> simp [Lane.join, Lane.latches, newEntry, Entry.takeOver]

theorem withoutOpen_close {e : Option Entry} (h : e.any (fun e => e.req == .latch false) = true) : withoutOpen e = e := by
  cases e with
  | none => rfl
  | some e =>
    have close : e.req = .latch false := by simpa using h
    simp [withoutOpen, Entry.opensLatch, close, Option.filter]

/-- Withdrawing LATCH(open) leaves a LATCH(close) in the lane. -/
theorem withoutOpen_latches (h : x.latches false = true) :
    Lane.latches { opened := withoutOpen x.opened, queued := withoutOpen x.queued } false = true := by
  unfold Lane.latches at *
  rw [Bool.or_eq_true] at h ⊢
  exact h.imp (fun h => by rw [withoutOpen_close h, h]) (fun h => by rw [withoutOpen_close h, h])

theorem withdrawOpen_closePending (h : closePending s b = true) : closePending (withdrawOpen b s) b = true := by
  unfold withdrawOpen
  rw [closePending_eq, laneOf_updLane_self (by simp)]
  exact withoutOpen_latches h

theorem joinLatch_lane {open_ : Bool} :
    laneOf (joinLatch b open_ s) b .latch = (laneOf s b .latch).join (lineHas s b .latch) s.time (.latch open_) :=
  laneOf_updLane_self (by simp)

/-! ### Asking -/

/-- The record as LATCH(close) is asked (spec 08, R164). -/
def ClearRec.closing (reach : Bool) (c : ClearRec) : ClearRec := { c with relatch := reach, relatchAt := none }

theorem joinLatch_clear {open_ : Bool} : ((joinLatch b open_ s).bay b).clear = (s.bay b).clear := clear_of_view (by simp) b

theorem askClose_clear : ((askClose b s).bay b).clear = (s.bay b).clear.closing (reachable s b) := by
  unfold askClose
  split
  case isTrue h => rw [joinLatch_clear, updClear_bay_self, h]; rfl
  case isFalse h => rw [updClear_bay_self, Bool.not_eq_true _ |>.mp h]; rfl

theorem askClose_closePending (h : reachable s b = true) : closePending (askClose b s) b = true := by
  unfold askClose
  rw [if_pos h, closePending_eq, joinLatch_lane]
  exact Lane.join_latches

theorem joinLatch_bay_ne {open_ : Bool} {y : Bay} (h : y ≠ b) : (joinLatch b open_ s).bay y = s.bay y :=
  updLoop_bay_ne h _ s

theorem askClose_bay_ne {y : Bay} (h : y ≠ b) : (askClose b s).bay y = s.bay y := by
  unfold askClose
  split
  · rw [joinLatch_bay_ne h, updClear_bay_ne h]
  · exact updClear_bay_ne h _ s

theorem joinLatch_classes {open_ : Bool} : ClassesKept s (joinLatch b open_ s) := ClassesKept.updLane

theorem askClose_classes : ClassesKept s (askClose b s) := by
  have marked : ∀ reach, ClassesKept s (updClear b (ClearRec.closing reach) s) := fun _ => .updClear_state fun _ => rfl
  unfold askClose
  split
  · exact (marked true).trans joinLatch_classes
  · exact marked false

theorem askClose_ports : (askClose b s).ports = s.ports := by
  unfold askClose
  split <;> rfl

theorem askClose_time : (askClose b s).time = s.time := by
  unfold askClose
  split <;> rfl

/-- The record as LATCH(open) is asked (spec 08, R164, R166). -/
def ClearRec.opening (c : ClearRec) : ClearRec := { c with openAsked := true, relatch := false, relatchAt := none }

theorem askOpen_clear : ((askOpen b s).bay b).clear = (s.bay b).clear.opening := by
  unfold askOpen
  dsimp only
  split
  · rw [joinLatch_clear, updClear_bay_self]; rfl
  · rw [updClear_bay_self]; rfl

theorem askOpen_openPending (h : reachable s b = true) : openPending (askOpen b s) b = true := by
  unfold askOpen
  dsimp only
  rw [if_pos h, openPending_eq, joinLatch_lane]
  exact Lane.join_latches

/-! ### A release that ends -/

theorem judgePlan_latch : laneOf (judgePlan b s) b .latch = laneOf s b .latch :=
  Plans.lane (judgePlan_plans .refl) (by simp)

theorem readerReleaseEnded_latch : laneOf (readerReleaseEnded b s) b .latch = laneOf s b .latch :=
  readerReleaseEnded_asks.latches b

/-- What follows the relatch as a release ends (spec 08, R164). -/
def releaseTold (b : Bay) (s : State) : State :=
  readerReleaseEnded b (judgePlan b (postClearance b (disownOpen b (withdrawOpen b s))))

theorem releaseTold_clear : ((releaseTold b s).bay b).clear = (s.bay b).clear :=
  clear_of_view (by simp [releaseTold, postClearance]) b

theorem releaseTold_closePending (h : closePending s b = true) : closePending (releaseTold b s) b = true := by
  have withdrawn := withdrawOpen_closePending h
  rw [closePending_eq] at withdrawn ⊢
  unfold releaseTold
  rw [readerReleaseEnded_latch, judgePlan_latch]
  exact withdrawn

theorem releaseTold_announced : announced .clearance b (releaseTold b s) := by
  unfold releaseTold
  have planned : Plans (postClearance b (disownOpen b (withdrawOpen b s)))
      (judgePlan b (postClearance b (disownOpen b (withdrawOpen b s)))) := judgePlan_plans .refl
  have read : Work .none (judgePlan b (postClearance b (disownOpen b (withdrawOpen b s))))
      (readerReleaseEnded b (judgePlan b (postClearance b (disownOpen b (withdrawOpen b s))))) :=
    readerReleaseEnded_work .refl
  exact read.announced (planned.announced announced_post)

/-- What the end of a release leaves (spec 08, R164). -/
structure ReleaseEnded (s t : State) (b : Bay) (state : ClearState) (reasons : ReasonSet) : Prop where
  state : (t.bay b).clear.state = state
  reasons : (t.bay b).clear.reasons = reasons
  ended : releaseOver (t.bay b).clear
  told : announced .clearance b t
  relatch : mayBeOpen (s.bay b).clear = true → reachable s b = true →
    (t.bay b).clear.relatch = true ∧ closePending t b = true

theorem endRelease_eq {state : ClearState} {reasons : ReasonSet} :
    endRelease b state reasons s =
      releaseTold b (relatchAfter (mayBeOpen (s.bay b).clear) b (updClear b (ClearRec.ended state reasons) s)) := rfl

theorem endRelease_ended {state : ClearState} {reasons : ReasonSet} :
    ReleaseEnded s (endRelease b state reasons s) b state reasons := by
  rw [endRelease_eq]
  have told : announced .clearance b (releaseTold b
      (relatchAfter (mayBeOpen (s.bay b).clear) b (updClear b (ClearRec.ended state reasons) s))) := releaseTold_announced
  have record : ((updClear b (ClearRec.ended state reasons) s).bay b).clear = (s.bay b).clear.ended state reasons := by
    rw [updClear_bay_self]
  have reach : reachable (updClear b (ClearRec.ended state reasons) s) b = reachable s b := reachable_updClear
  generalize updClear b (ClearRec.ended state reasons) s = y at *
  generalize ho : mayBeOpen (s.bay b).clear = o at *
  cases hc : o && reachable y b with
  | false =>
    have left : relatchAfter o b y = y := if_neg (by rw [hc]; exact Bool.false_ne_true)
    rw [left] at told ⊢
    refine ⟨?_, ?_, ?_, told, fun h hr => absurd hc (by rw [← ho, h, reach, hr]; simp)⟩
    all_goals rw [releaseTold_clear, record]
    exacts [rfl, rfl, ⟨rfl, rfl, rfl, rfl, rfl, rfl⟩]
  | true =>
    have asked : relatchAfter o b y = askClose b (updClear b (fun c => { c with relatchRefused := false }) y) := if_pos hc
    have reach' : reachable (updClear b (fun c => { c with relatchRefused := false }) y) b = true :=
      reachable_updClear.trans (Bool.and_eq_true_iff.mp hc).2
    have pending := askClose_closePending reach'
    have clear := askClose_clear (b := b) (s := updClear b (fun c => { c with relatchRefused := false }) y)
    rw [reach', updClear_bay_self, record] at clear
    rw [asked] at told ⊢
    generalize askClose b (updClear b (fun c => { c with relatchRefused := false }) y) = z at *
    refine ⟨?_, ?_, ?_, told, fun _ _ => ⟨?_, releaseTold_closePending pending⟩⟩
    all_goals rw [releaseTold_clear, clear]
    exacts [rfl, rfl, ⟨rfl, rfl, rfl, rfl, rfl, rfl⟩, rfl]

/-- An end of a release stands over what leaves the bay's clearance and latch lane. -/
theorem ReleaseEnded.pollsHeld {r : State} {state : ClearState} {reasons : ReasonSet} (h : ReleaseEnded s t b state reasons) :
    ReleaseEnded s (pollsHeld r t) b state reasons := by
  obtain ⟨hs, hr, ho, ht, hl⟩ := h
  have clear : ((Machine.pollsHeld r t).bay b).clear = (t.bay b).clear := pollsHeld_clear ..
  have pending : closePending (Machine.pollsHeld r t) b = closePending t b := by
    rw [closePending_eq, pollsHeld_laneOf, closePending_eq]
  exact ⟨by rw [clear, hs], by rw [clear, hr], by rwa [clear], pollsHeld_announced ht, by rwa [clear, pending]⟩

end

end Sys2Proof.Machine
end

section
/-! PROOF. News of a PART record to the Clearance Unit and to the bay's list (spec 06, R121 to R123; spec 08, R161, R162). -/

namespace Sys2Proof.Machine

section
variable {s t u : State} {b : Bay}

/-! ### News to a clearance that is not CLEARED -/

/-- A clearance that is not CLEARED has been told news: REVOKED gains reasons, and any other stands as it was. -/
def NewsTold (b : Bay) (s t : State) : Prop :=
  (s.bay b).clear.state ≠ .cleared →
    ∃ r, (t.bay b).clear = { (s.bay b).clear with reasons := (s.bay b).clear.reasons ||| r } ∧
      ((s.bay b).clear.state ≠ .revoked → r = 0#18)

namespace NewsTold

theorem of_clear (h : (t.bay b).clear = (s.bay b).clear) : NewsTold b s t :=
  fun _ => ⟨0#18, by rw [h, BitVec.or_zero], fun _ => rfl⟩

theorem of_view (h : t.clearsView = s.clearsView) : NewsTold b s t := of_clear (clear_of_view h b)

theorem trans (h : NewsTold b s t) (k : NewsTold b t u) : NewsTold b s u := fun hs => by
  obtain ⟨r, told, none_new⟩ := h hs
  have state : (t.bay b).clear.state = (s.bay b).clear.state := by rw [told]
  obtain ⟨r', told', none_new'⟩ := k (by rw [state]; exact hs)
  refine ⟨r ||| r', ?_, fun hr => ?_⟩
  · rw [told', told, BitVec.or_assoc]
  · rw [none_new hr, none_new' (by rw [state]; exact hr), BitVec.or_zero]

theorem onlyIf {c : Bool} {f : State → State} (hf : NewsTold b s (f s)) : NewsTold b s (onlyIf c f s) := by
  cases c with
  | true => exact hf
  | false => exact of_clear rfl

theorem clearanceNews {r : Reason} : NewsTold b s (clearanceNews b r s) := fun hs => by
  unfold Machine.clearanceNews
  split
  case h_1 h => exact absurd h hs
  case h_2 h => exact ⟨only r, by rw [updClear_bay_self], fun hr => absurd h hr⟩
  all_goals exact of_clear rfl hs

theorem tellIfBlocks {before after : Bool} : NewsTold b s (tellIfBlocks b before after s) := .onlyIf .clearanceNews

/-- A clearance in release takes no news. -/
theorem releasing (h : NewsTold b s t) (hs : (s.bay b).clear.state = .releasing) :
    (t.bay b).clear = (s.bay b).clear := by
  obtain ⟨r, told, none_new⟩ := h (by rw [hs]; decide)
  rw [told, none_new (by rw [hs]; decide), BitVec.or_zero]

end NewsTold

theorem mergeInto_news {o : Offer} {e : FaultEntry} : NewsTold b s (mergeInto b o e s) := by
  have merged : NewsTold b s (onlyIf (mergeAnnounces o e) (post .faultNew b)
      (updEntry b o.source o.code (mergeEntry (minuteIfSet s) o) s)) := .of_view (by simp)
  exact merged.trans .tellIfBlocks

theorem makeEntry_news {o : Offer} : NewsTold b s (makeEntry b o s) := by
  have made : NewsTold b s (judgeLow (post .faultNew b
      (updFaults b
        (fun r => { r with
          list := r.list ++ [freshEntry (minuteIfSet s) o], revision := nextRevision r.revision })
        { s with freeCount := s.freeCount - 1 }))) := by
    have judged : ∀ y : State, (judgeLow y).clearsView = y.clearsView := fun y => by simp
    refine .of_clear ?_
    rw [clear_of_view (judged _), post_bay, updFaults_clear]
    rfl
  exact made.trans .tellIfBlocks

theorem displace_news {o : Offer} {old : FaultEntry} : NewsTold b s (displace b o old s) := by
  have displaced : NewsTold b s (post .faultNew b
      (updFaults b
        (fun r => { r with
          list := r.list.erase old ++ [freshEntry (minuteIfSet s) o]
          revision := nextRevision (nextRevision r.revision) })
        s)) := .of_clear ((congrArg BayRec.clear (post_bay ..)).trans (updFaults_clear ..))
  exact displaced.trans .tellIfBlocks

theorem refuseRecord_news : NewsTold b s (refuseRecord b s) := by
  have refused : NewsTold b s (updFaults b (fun r => { r with incomplete := true, refusal := true }) s) :=
    .of_clear (updFaults_clear _ _ _ _)
  exact refused.trans (.onlyIf .clearanceNews)

theorem offer_news {o : Offer} : NewsTold b s (offer b o s).1 := by
  unfold offer
  split
  · exact mergeInto_news
  · split
    · split
      · exact makeEntry_news
      · split
        · exact .of_clear rfl
        · exact refuseRecord_news
    · split
      · exact displace_news
      · exact refuseRecord_news

theorem recordStuck_news : NewsTold b s (recordStuck b s) := offer_news

theorem foundStuck_news : NewsTold b s (foundStuck b s) := by
  have marked : NewsTold b s (post .equipment b (updPower b (fun p => { p with stuck := true, watch := none }) s)) :=
    .of_clear ((congrArg BayRec.clear (post_bay ..)).trans (updPower_clear ..))
  exact (marked.trans (.onlyIf recordStuck_news)).trans .clearanceNews

/-! ### The record in the bay's list -/

/-- An entry of this source and code stands in the list of the bay. -/
theorem findEntry_isSome {source code : Nat} {e : FaultEntry} (he : e ∈ (s.bay b).faults.list)
    (hm : e.matches source code = true) : (findEntry s b source code).isSome = true := by
  unfold findEntry
  rw [List.find?_isSome]
  exact ⟨e, he, hm⟩

theorem freshEntry_matches {now : Option Nat} {o : Offer} :
    (freshEntry now o).matches o.source o.code = true := by simp [freshEntry, FaultEntry.matches]

/-- A PART record that is offered stands in the list, or INCOMPLETE is set (spec 06, R118, R121 to R123). -/
theorem offer_partRecorded {o : Offer} (ho : 14 ≤ o.source) :
    (findEntry (offer b o s).1 b o.source o.code).isSome = true ∨ ((offer b o s).1.bay b).faults.incomplete = true := by
  have refused : ((refuseRecord b s).bay b).faults.incomplete = true := by rw [refuseRecord_faults]
  cases hf : findEntry s b o.source o.code with
  | some e => exact .inl (by rw [(merged_found hf).2.2.2]; rfl)
  | none =>
    by_cases hq : (s.bay b).faults.list.length < (s.bay b).faults.quota
    · by_cases free : 0 < s.freeCount
      · rw [offer_new hf hq free]
        exact .inl (findEntry_isSome (by rw [makeEntry_made.1]; simp) (freshEntry_matches (now := minuteIfSet s)))
      · rw [offer_partRefused hf hq (Nat.eq_zero_of_not_pos free) ho]
        exact .inr refused
    · have full := Nat.not_lt.mp hq
      cases hd : displacement (s.bay b).faults.list o.cls with
      | some old =>
        rw [offer_displaces hf full hd]
        exact .inl (findEntry_isSome (by rw [displace_displaced.1]; simp) (freshEntry_matches (now := minuteIfSet s)))
      | none =>
        rw [offer_fullRefused hf full hd]
        exact .inr refused

theorem recordStuck_recorded :
    (findEntry (recordStuck b s) b 15 1).isSome = true ∨ ((recordStuck b s).bay b).faults.incomplete = true :=
  offer_partRecorded (o := { source := 15, code := 1, cls := .blocking, active := true, occurrences := 1 }) (by decide)

end

end Sys2Proof.Machine
end

section
/-! PROOF. The timers of a clearance: stop limit, latch limit, window, relatch and validity (spec 08, R160, R164 to R167). -/

namespace Sys2Proof.Machine

section
variable {s t : State} {b : Bay} {m : Nat}

/-- A timer's row at the moment it is due. -/
theorem exec_due {f op : State → State} (hreset : s.inReset = false) (hf : f s = op (timeTo m s)) :
    carryOut (outOfReset f) s = .next (pollsHeld s (op (timeTo m s))) := by
  rw [carryOut_outOfReset hreset, hf]

theorem releasing_inRelease (h : (s.bay b).clear.state = .releasing) : inRelease s b = true :=
  inRelease_of_state (.inl h)

/-! ### The stop limit -/

/-- What the stop limit leaves (spec 08, R165). -/
structure StopLimitEnded (s t : State) (b : Bay) : Prop where
  time : t.time = s.time
  state : (t.bay b).clear.state = .revoked
  reasons : (t.bay b).clear.reasons &&& only .equipment = only .equipment
  ended : releaseOver (t.bay b).clear
  stuck : (t.bay b).power.stuck = true
  equipment : announced .equipment b t
  clearance : announced .clearance b t
  recorded : (findEntry t b 15 1).isSome = true ∨ (t.bay b).faults.incomplete = true
  relatch : mayBeOpen (s.bay b).clear = true → reachable s b = true →
    (t.bay b).clear.relatch = true ∧ closePending t b = true
  tables : ∀ x : Bay, (t.bay x).table = (s.bay x).table

/-- The contactor's record follows a release that has ended: REVOKED gains at most a reason. -/
theorem stopLimitExpires_ended (hs : (s.bay b).clear.state = .releasing) :
    StopLimitEnded s (stopLimitExpires b s) b := by
  have work : Work .none s (stopLimitExpires b s) := stopLimitExpires_work .refl (releasing_inRelease hs)
  have tables : (stopLimitExpires b s).tablesView = s.tablesView := by simp
  have release : ReleaseEnded s (endRelease b .revoked (only .equipment) s) b .revoked (only .equipment) :=
    endRelease_ended
  unfold stopLimitExpires at *
  generalize endRelease b .revoked (only .equipment) s = y at *
  obtain ⟨state, reasons, ended, told, relatch⟩ := release
  have marked : ((updPower b (fun p => { p with stuck := true }) y).bay b) =
      { y.bay b with power := { (y.bay b).power with stuck := true } } := updPower_bay_self b _ y
  have told' : announced .clearance b (updPower b (fun p => { p with stuck := true }) y) :=
    announced_of_ports (s := y) rfl told
  generalize updPower b (fun p => { p with stuck := true }) y = z at *
  have posted : (post .equipment b z).bay b = z.bay b := rfl
  have clear : ((post .equipment b z).bay b).clear = (y.bay b).clear := by rw [posted, marked]
  have lane : laneOf (post .equipment b z) b .latch = laneOf y b .latch := laneOf_congr (by rw [posted, marked])
  have equipment : announced .equipment b (post .equipment b z) := announced_post
  have clearance : announced .clearance b (post .equipment b z) := announced_of_post told'
  have stuck : ((post .equipment b z).bay b).power.stuck = true := by rw [posted, marked]
  generalize post .equipment b z = w at *
  have recorded : Work .none w (recordStuck b w) := recordStuck_work .refl
  obtain ⟨r, news, -⟩ := recordStuck_news (b := b) (s := w) (by rw [clear, state]; decide)
  rw [clear] at news
  have lane' : laneOf (recordStuck b w) b .latch = laneOf y b .latch :=
    (laneOf_congr (loop_of_view (by simp) b)).trans lane
  have powers : (recordStuck b w).powersView = w.powersView := by simp
  exact
    { time := work.outside.time
      state := by rw [news, state]
      reasons := by rw [news, reasons]; ext i; simp; tauto
      ended := by rw [news]; exact ended
      stuck := by rw [power_of_view powers, stuck]
      equipment := recorded.announced equipment
      clearance := recorded.announced clearance
      recorded := recordStuck_recorded
      relatch := fun ho hr => by
        obtain ⟨mark, pending⟩ := relatch ho hr
        exact ⟨by rw [news]; exact mark, by rw [closePending_eq, lane']; exact pending⟩
      tables := fun x => table_of_view tables x }

theorem exec_stopLimitExpiry (hreset : s.inReset = false) (hs : (s.bay b).clear.state = .releasing)
    (hu : (s.bay b).clear.substep = some .stoppingHeat) (hm : (s.bay b).clear.stopFrom = some m) :
    exec (.stopLimitExpiry b) s = .next (pollsHeld s (stopLimitExpires b (timeTo (m + 30000000) s))) := by
  have limit : limitLength = 30000000 := rfl
  have due : stopDue s b = some (m + 30000000) := by
    unfold stopDue
    rw [if_pos ⟨hs, hu⟩, hm, limit]
    rfl
  refine exec_due hreset ?_
  unfold stopLimitEnds
  rw [due]
  rfl

theorem stopLimit_ends (hreset : s.inReset = false) (hs : (s.bay b).clear.state = .releasing)
    (hu : (s.bay b).clear.substep = some .stoppingHeat) (hm : (s.bay b).clear.stopFrom = some m) :
    ∃ t, exec (.stopLimitExpiry b) s = .next t ∧
      t.time = max s.time (m + 30000000) ∧ (t.bay b).clear.state = .revoked ∧
        (t.bay b).clear.reasons &&& only .equipment = only .equipment ∧ releaseOver (t.bay b).clear ∧
        (t.bay b).power.stuck = true ∧ announced .equipment b t ∧ announced .clearance b t ∧
        ((findEntry t b 15 1).isSome = true ∨ (t.bay b).faults.incomplete = true) ∧
        ((s.bay b).clear.openAsked = true → reachable s b = true →
          (t.bay b).clear.relatch = true ∧ closePending t b = true) ∧
        ∀ x : Bay, (t.bay x).table = (s.bay x).table := by
  have ran := exec_stopLimitExpiry hreset hs hu hm
  have e : StopLimitEnded (timeTo (m + 30000000) s) (stopLimitExpires b (timeTo (m + 30000000) s)) b :=
    stopLimitExpires_ended hs
  generalize hu : timeTo (m + 30000000) s = u at *
  have same : ∀ x, u.bay x = s.bay x := fun x => by rw [← hu]; rfl
  have time : u.time = max s.time (m + 30000000) := by rw [← hu]; rfl
  have reach : reachable u b = reachable s b := reachable_congr (by rw [same])
  generalize stopLimitExpires b u = t at *
  have clear : ((pollsHeld s t).bay b).clear = (t.bay b).clear := pollsHeld_clear ..
  have faults : ((pollsHeld s t).bay b).faults = (t.bay b).faults := pollsHeld_faults ..
  refine ⟨_, ran, by rw [pollsHeld_time, e.time, time], by rw [clear, e.state], by rw [clear, e.reasons],
    by rw [clear]; exact e.ended, by rw [pollsHeld_power, e.stuck], pollsHeld_announced e.equipment,
    pollsHeld_announced e.clearance, ?_, fun ho hr => ?_, fun x => by rw [pollsHeld_table, e.tables, same]⟩
  · unfold findEntry
    rw [faults]
    exact e.recorded
  · obtain ⟨mark, pending⟩ := e.relatch (by rw [same, mayBeOpen, ho]; rfl) (by rw [reach, hr])
    rw [clear, closePending_eq, pollsHeld_laneOf]
    exact ⟨mark, pending⟩

/-! ### The latch limit and the window -/

/-- A release that a timer ends in a state of the same bays, seen from the state before it. -/
theorem ReleaseEnded.of_bays {u : State} {state : ClearState} {reasons : ReasonSet} (h : ReleaseEnded u t b state reasons)
    (hb : u.bay b = s.bay b) : ReleaseEnded s t b state reasons := by
  obtain ⟨hs, hr, he, ht, hl⟩ := h
  exact ⟨hs, hr, he, ht, fun ho hreach => hl (by rwa [hb]) ((reachable_congr (by rw [hb])).trans hreach)⟩

theorem endRelease_tables {state : ClearState} {reasons : ReasonSet} {x : Bay} :
    ((endRelease b state reasons s).bay x).table = (s.bay x).table ∧
      ((endRelease b state reasons s).bay x).faults = (s.bay x).faults :=
  ⟨table_of_view (by simp) x, faults_of_view (by simp) x⟩

theorem endRelease_time {state : ClearState} {reasons : ReasonSet} (h : inRelease s b = true) :
    (endRelease b state reasons s).time = s.time :=
  (endRelease_work (w := .none) .refl h).outside.time

theorem exec_latchLimitExpiry (hreset : s.inReset = false) (hs : (s.bay b).clear.state = .releasing)
    (hu : (s.bay b).clear.substep = some .unlatching) (hm : (s.bay b).clear.latchFrom = some m) :
    exec (.latchLimitExpiry b) s = .next (pollsHeld s (latchLimitExpires b (timeTo (m + 30000000) s))) := by
  have limit : limitLength = 30000000 := rfl
  have due : latchDue s b = some (m + 30000000) := by
    unfold latchDue
    rw [if_pos ⟨hs, hu⟩, hm, limit]
    rfl
  refine exec_due hreset ?_
  unfold latchLimitEnds
  rw [due]
  rfl

/-- A release refused or timed out: EQUIPMENT is posted before it ends REVOKED (spec 08, R166). -/
theorem latchLimitExpires_ended (hs : inRelease s b = true) :
    ReleaseEnded s (latchLimitExpires b s) b .revoked (only .equipment) ∧
      announced .equipment b (latchLimitExpires b s) ∧ (latchLimitExpires b s).time = s.time ∧
      ∀ x : Bay, ((latchLimitExpires b s).bay x).table = (s.bay x).table ∧
        ((latchLimitExpires b s).bay x).faults = (s.bay x).faults := by
  have told : announced .equipment b (post .equipment b s) := announced_post
  have bays : ∀ x, (post .equipment b s).bay x = s.bay x := fun _ => rfl
  have release : inRelease (post .equipment b s) b = true := hs
  have time : (post .equipment b s).time = s.time := rfl
  unfold latchLimitExpires
  generalize post .equipment b s = y at *
  refine ⟨endRelease_ended.of_bays (bays b), (endRelease_work (w := .none) .refl release).announced told,
    (endRelease_time release).trans time, fun x => ?_⟩
  rw [endRelease_tables.1, endRelease_tables.2, bays]
  exact ⟨rfl, rfl⟩

theorem latchLimit_ends (hreset : s.inReset = false) (hs : (s.bay b).clear.state = .releasing)
    (hu : (s.bay b).clear.substep = some .unlatching) (hm : (s.bay b).clear.latchFrom = some m) :
    ∃ t, exec (.latchLimitExpiry b) s = .next t ∧
      t.time = max s.time (m + 30000000) ∧ (t.bay b).clear.state = .revoked ∧
        (t.bay b).clear.reasons = only .equipment ∧ releaseOver (t.bay b).clear ∧
        announced .equipment b t ∧ announced .clearance b t ∧
        ((s.bay b).clear.openAsked = true → reachable s b = true →
          (t.bay b).clear.relatch = true ∧ closePending t b = true) ∧
        ∀ x : Bay, (t.bay x).table = (s.bay x).table ∧ (t.bay x).faults = (s.bay x).faults := by
  have ran := exec_latchLimitExpiry hreset hs hu hm
  obtain ⟨ended, told, time, kept⟩ := latchLimitExpires_ended (s := timeTo (m + 30000000) s) (releasing_inRelease hs)
  obtain ⟨hstate, hreasons, hover, hclear, hrelatch⟩ := (ended.of_bays (s := s) rfl).pollsHeld (r := s)
  refine ⟨_, ran, by rw [pollsHeld_time, time]; rfl, hstate, hreasons, hover, pollsHeld_announced told, hclear,
    fun ho => hrelatch (by rw [mayBeOpen, ho]; rfl), fun x => ?_⟩
  rw [pollsHeld_table, pollsHeld_faults]
  exact kept x

theorem exec_releaseWindowExpiry (hreset : s.inReset = false) (hs : (s.bay b).clear.state = .released)
    (hm : (s.bay b).clear.windowFrom = some m) :
    exec (.releaseWindowExpiry b) s =
      .next (pollsHeld s (windowExpires b (timeTo (m + s.settings.releaseWindow * 1000000) s))) := by
  have sec : Config.sec = 1000000 := rfl
  have due : windowDue s b = some (m + s.settings.releaseWindow * 1000000) := by
    unfold windowDue windowEnd
    rw [if_pos hs, hm, sec]
    rfl
  refine exec_due hreset ?_
  unfold windowEnds
  rw [due]
  rfl

theorem releaseWindow_ends (hreset : s.inReset = false) (hs : (s.bay b).clear.state = .released)
    (hm : (s.bay b).clear.windowFrom = some m) :
    ∃ t, exec (.releaseWindowExpiry b) s = .next t ∧
      t.time = max s.time (m + s.settings.releaseWindow * 1000000) ∧ (t.bay b).clear.state = .lapsed ∧
        (t.bay b).clear.reasons = only .releaseLapsed ∧ releaseOver (t.bay b).clear ∧
        announced .clearance b t ∧
        (reachable s b = true → (t.bay b).clear.relatch = true ∧ closePending t b = true) ∧
        ∀ x : Bay, (t.bay x).table = (s.bay x).table ∧ (t.bay x).faults = (s.bay x).faults := by
  have ran := exec_releaseWindowExpiry hreset hs hm
  generalize m + s.settings.releaseWindow * 1000000 = m at *
  have ended : ReleaseEnded (timeTo m s) (windowExpires b (timeTo m s)) b .lapsed (only .releaseLapsed) :=
    endRelease_ended
  have time : (windowExpires b (timeTo m s)).time = max s.time m :=
    endRelease_time (s := timeTo m s) (inRelease_of_state (.inr hs))
  have kept : ∀ x, ((windowExpires b (timeTo m s)).bay x).table = (s.bay x).table ∧
      ((windowExpires b (timeTo m s)).bay x).faults = (s.bay x).faults := fun _ => endRelease_tables (s := timeTo m s)
  obtain ⟨hstate, hreasons, hover, hclear, hrelatch⟩ := (ended.of_bays (s := s) rfl).pollsHeld (r := s)
  refine ⟨_, ran, by rw [pollsHeld_time, time], hstate, hreasons, hover, hclear,
    hrelatch (by rw [mayBeOpen, hs]; exact Bool.or_true _), fun x => ?_⟩
  rw [pollsHeld_table, pollsHeld_faults]
  exact kept x

/-! ### The relatch and the validity -/

theorem relatch_retried (hreset : s.inReset = false) (hr : (s.bay b).clear.relatch = true)
    (hm : (s.bay b).clear.relatchAt = some m) :
    ∃ t, exec (.relatchRetry b) s = .next t ∧
      t.time = max s.time m ∧ (t.bay b).clear.relatchAt = none ∧
        (t.bay b).clear.relatch = reachable s b ∧ (reachable s b = true → closePending t b = true) ∧
        t.ports = s.ports ∧ ∀ x : Bay, x ≠ b → t.bay x = s.bay x := by
  have due : relatchDue s b = some m := by
    unfold relatchDue
    rw [hr]
    exact hm
  have kept : ClassesKept s (askClose b (timeTo m s)) := askClose_classes (s := timeTo m s)
  have retried : relatchRetried b s = askClose b (timeTo m s) := by
    unfold relatchRetried
    rw [due]
    rfl
  refine ⟨_, kept.carried hreset retried, askClose_time, ?_, ?_, fun h => askClose_closePending (s := timeTo m s) h,
    askClose_ports, fun x hx => askClose_bay_ne hx⟩
  · rw [askClose_clear]
    rfl
  · rw [askClose_clear]
    rfl

theorem validity_ends (hreset : s.inReset = false) (hs : (s.bay b).clear.state = .cleared)
    (hm : (s.bay b).clear.validityFrom = some m) :
    exec (.clearanceValidityExpiry b) s =
      .next (post .clearance b
        (updClear b
          (fun c => { c with state := .lapsed, reasons := only .validity, validityFrom := none })
          { s with time := max s.time (m + s.settings.clearanceValidity * 60000000) })) := by
  have minute : s.settings.clearanceValidity * 60 * Config.sec = s.settings.clearanceValidity * 60000000 :=
    Nat.mul_assoc ..
  have due : validityDue s b = some (m + s.settings.clearanceValidity * 60000000) := by
    unfold validityDue validityEnd
    rw [if_pos hs, hm, minute]
    rfl
  have ends : validityEnds b s = validityExpires b (timeTo (m + s.settings.clearanceValidity * 60000000) s) := by
    unfold validityEnds
    rw [due]
    rfl
  generalize m + s.settings.clearanceValidity * 60000000 = m at *
  have lapsed : ClassesKept s (updClear b
      (fun c => { c with state := .lapsed, reasons := only .validity, validityFrom := none }) (timeTo m s)) := by
    refine ClassesKept.updClear (s := timeTo m s) ?_
    unfold inRelease
    rw [updClear_bay_self]
    show false = _
    rw [show ((timeTo m s).bay b).clear.state = .cleared from hs]
  have kept : ClassesKept s (validityExpires b (timeTo m s)) := lapsed.trans fun _ => rfl
  exact kept.carried hreset ends

end

end Sys2Proof.Machine
end

section
/-! PROOF. A good POLL of a bay that releases: what reaches the Clearance Unit, and the release's next step (spec 08, R165
to R167). -/

namespace Sys2Proof.Machine

section
variable {s t u : State} {b : Bay} {r : PollReply} {n : Nat}

/-! ### What the other owners leave to the Clearance Unit -/

/-- The bay's clearance, its latch lane and its reach are as they were. -/
structure ReleaseStands (b : Bay) (s t : State) : Prop where
  clear : (t.bay b).clear = (s.bay b).clear
  lane : laneOf t b .latch = laneOf s b .latch
  reach : reachable t b = reachable s b

namespace ReleaseStands

theorem trans (h : ReleaseStands b s t) (k : ReleaseStands b t u) : ReleaseStands b s u :=
  ⟨k.clear.trans h.clear, k.lane.trans h.lane, k.reach.trans h.reach⟩

theorem openPending (h : ReleaseStands b s t) : openPending t b = openPending s b := by
  rw [openPending_eq, h.lane, openPending_eq]

end ReleaseStands

theorem replyEnded_stands {l : OnLine} {bytes : List Byte} : ReleaseStands l.bay s (replyEnded l bytes s) :=
  ⟨replyEnded_clear, replyEnded_laneOf, replyEnded_reachable⟩

theorem polled_stands {plug : Plug} {latch : Latch} : ReleaseStands b s (polled b plug latch n s) where
  clear := by rw [polled_bay]
  lane := laneOf_congr (by rw [polled_bay])
  reach := reachable_congr (by rw [polled_bay]; rfl)

theorem cabinReading_stands {x : Option Int} : ReleaseStands b s (cabinReading b x s) where
  clear := clear_of_view (by simp) b
  lane := by
    have acted : Plans (updHeat b (fun h => { h with cabin := x }) s) (cabinReading b x s) := actOnReading_plans .refl
    exact (acted.lane (by simp)).trans (laneOf_congr (by simp))
  reach := reachable_congr (congrArg TableRec.occ (table_of_view (by simp) b))

theorem watchPoll_news : NewsTold b s (watchPoll b s) := by
  unfold watchPoll
  split
  · exact .of_clear rfl
  · split
    · exact .of_view (by simp)
    · split
      · exact .of_view (by simp)
      · exact foundStuck_news

/-- The watched count, before a reduction of the excess. -/
def countWatched (b : Bay) (n : Nat) (s : State) : State :=
  watchPoll b (judgeStuckMark b (updPower b (fun p => { p with closed := n, polledSince := true }) s))

theorem closedCount_eq : closedCount b n s = stoppingToOff b (reduceExcess b (countWatched b n s)) := rfl

theorem countWatched_news : NewsTold b s (countWatched b n s) := by
  have judged : NewsTold b s
      (judgeStuckMark b (updPower b (fun p => { p with closed := n, polledSince := true }) s)) := .of_view (by simp)
  exact judged.trans watchPoll_news

theorem reduceExcess_plans : Plans s (reduceExcess b s) := by
  unfold reduceExcess
  cases hasExcess s b with
  | true => exact askReduction_plans .refl fun _ hc => hc
  | false => exact .refl

/-- A closed count leaves a release: no news reaches it (spec 08, R161). -/
theorem closedCount_stands (hs : (s.bay b).clear.state = .releasing) : ReleaseStands b s (closedCount b n s) where
  clear := by
    have kept : (stoppingToOff b (reduceExcess b (countWatched b n s))).clearsView = (countWatched b n s).clearsView := by
      simp
    rw [closedCount_eq, clear_of_view kept, countWatched_news.releasing hs]
  lane := by
    have planned : Plans (countWatched b n s) (closedCount b n s) := stoppingToOff_plans reduceExcess_plans
    have watched : (countWatched b n s).loopsView = s.loopsView := by simp [countWatched]
    exact (planned.lane (by simp)).trans (laneOf_congr (loop_of_view watched b))
  reach := reachable_congr (congrArg TableRec.occ (table_of_view (by simp) b))

theorem nextClear_asks : AsksWork s (nextClear b s) := by
  unfold nextClear goSleep
  split
  · exact enterPhase_asks (by simp [sortOf])
  · split <;> exact enterPhase_asks (by simp [sortOf])

theorem afterWake_asks : AsksWork s (afterWake b s) := by
  unfold afterWake
  split
  · exact enterPhase_asks (by simp [sortOf])
  · exact nextClear_asks

theorem bridgeReported_asks {bridge : Bridge} : AsksWork s (bridgeReported b bridge s) := by
  unfold bridgeReported
  split
  · split
    · cases bridge with
      | awake => exact afterWake_asks
      | asleep => exact visitFails_asks
      | waking => exact visitFails_asks
      | failed => exact visitFails_asks
    · exact .refl
  · exact .refl

theorem bridgeReported_stands {bridge : Bridge} : ReleaseStands b s (bridgeReported b bridge s) where
  clear := clear_of_view (by simp) b
  lane := bridgeReported_asks.latches b
  reach := reachable_congr (congrArg TableRec.occ (table_of_view (by simp) b))

/-- What a good reading leaves to the Clearance Unit. -/
def reportTaken (b : Bay) (r : PollReply) (s : State) : State :=
  bridgeReported b r.bridge (closedCount b r.closed (cabinReading b r.cabin s))

theorem pollContents_reportTaken :
    pollContents b r s = clearanceLatch b r.latch (clearanceCount b r.closed (reportTaken b r s)) := rfl

theorem reportTaken_stands (hs : (s.bay b).clear.state = .releasing) : ReleaseStands b s (reportTaken b r s) := by
  have read : ReleaseStands b s (cabinReading b r.cabin s) := cabinReading_stands
  exact (read.trans (closedCount_stands (by rw [read.clear, hs]))).trans bridgeReported_stands

/-! ### The release's next step -/

theorem clearanceCount_asks (hs : (s.bay b).clear.state = .releasing)
    (hu : (s.bay b).clear.substep = some .stoppingHeat) :
    clearanceCount b 0 s = askOpen b (updClear b (fun c => { c with substep := some .unlatching, stopFrom := none }) s) := by
  unfold clearanceCount
  rw [hs, hu]
  rfl

theorem clearanceCount_idle (hs : (s.bay b).clear.state = .releasing) (hu : (s.bay b).clear.substep = some .unlatching)
    (h : n = 0 ∨ openPending s b = false) : clearanceCount b n s = s := by
  unfold clearanceCount
  rw [hs, hu]
  refine if_neg fun ⟨closed, pending⟩ => ?_
  obtain h | h := h
  · exact absurd closed (by rw [h]; exact Nat.lt_irrefl 0)
  · exact absurd pending (by rw [h]; exact Bool.false_ne_true)

theorem clearanceLatch_idle {latch : Latch} (h : (s.bay b).clear.latchFrom = none) : clearanceLatch b latch s = s := by
  unfold clearanceLatch
  rw [h]
  split
  case h_1 hm => exact absurd hm (by simp)
  · rfl

theorem clearanceLatch_releases {m : Moment} (hs : (s.bay b).clear.state = .releasing)
    (hu : (s.bay b).clear.substep = some .unlatching) (hm : (s.bay b).clear.latchFrom = some m) :
    clearanceLatch b .open_ s =
      postClearance b
        (updClear b
          (fun c => { c with state := .released, substep := none, latchFrom := none, windowFrom := some s.time })
          s) := by
  unfold clearanceLatch
  rw [hs, hu, hm]

theorem setPoll_clear {p : PollPlan} : ((setPoll b p s).bay b).clear = (s.bay b).clear := updLoop_clear _ _ _ _

theorem setPoll_laneOf {p : PollPlan} {sort : LoopSort} : laneOf (setPoll b p s) b sort = laneOf s b sort := by
  unfold laneOf setPoll
  rw [updLoop_bay_self]
  cases sort <;> rfl

/-- The end of a POLL leaves the release as it stands. -/
theorem pollEnded_stands (h : reachable s b = true) :
    ReleaseStands b s (pollEnded b s) ∧ (pollEnded b s).time = s.time ∧ (pollEnded b s).ports = s.ports := by
  rw [pollEnded_reachable h]
  exact ⟨⟨setPoll_clear, setPoll_laneOf, reachable_congr (congrArg TableRec.occ (updLoop_table _ _ _ _))⟩, rfl, rfl⟩

/-- A good POLL with the coach plugged in, as it comes to the Clearance Unit of a bay that releases. -/
theorem releasingPoll {l : OnLine} {bytes : List Byte} (h : replies l bytes (.ok (.poll r)) s)
    (hreq : l.entry.req = .poll) (ho : (s.bay l.bay).table.occ = .present) (hp : r.plug = .in_)
    (hs : (s.bay l.bay).clear.state = .releasing) :
    ∃ y, ReleaseStands l.bay s y ∧ reachable y l.bay = true ∧
      exec (.replyTaken bytes) s =
        .next (pollsHeld s (pollEnded l.bay (clearanceLatch l.bay r.latch (clearanceCount l.bay r.closed y)))) := by
  have reach : reachable (replyEnded l bytes s) l.bay = true := by
    rw [replyEnded_reachable]
    unfold reachable
    rw [ho]
  have agrees : contrary ((replyEnded l bytes s).bay l.bay).table.occ r.plug = false := by
    rw [replyEnded_bay, ho, hp]
    rfl
  have ran := exec_pollReply h hreq
  rw [pollDone_reachable reach, tablePoll_agrees agrees, pollContents_reportTaken] at ran
  have stored : ReleaseStands l.bay s (polled l.bay r.plug r.latch 0 (replyEnded l bytes s)) :=
    replyEnded_stands.trans polled_stands
  have stands := stored.trans (reportTaken_stands (r := r) (by rw [stored.clear, hs]))
  exact ⟨_, stands, stands.reach.trans (replyEnded_reachable.symm.trans reach), ran⟩

/-- STOPPING_HEAT and no contactor closed: LATCH(open) is asked (spec 08, R165, R166). -/
theorem poll_asksOpen {l : OnLine} {bytes : List Byte} (h : replies l bytes (.ok (.poll r)) s)
    (hreq : l.entry.req = .poll) (ho : (s.bay l.bay).table.occ = .present) (hp : r.plug = .in_)
    (hs : (s.bay l.bay).clear.state = .releasing) (hu : (s.bay l.bay).clear.substep = some .stoppingHeat)
    (hm : (s.bay l.bay).clear.latchFrom = none) (hc : r.closed = 0) :
    ∃ t, exec (.replyTaken bytes) s = .next t ∧
      (t.bay l.bay).clear =
          { (s.bay l.bay).clear with
            substep := some .unlatching, stopFrom := none, openAsked := true, relatch := false, relatchAt := none } ∧
        openPending t l.bay = true := by
  obtain ⟨y, stands, reach, ran⟩ := releasingPoll h hreq ho hp hs
  have asked := clearanceCount_asks (s := y) (b := l.bay) (by rw [stands.clear, hs]) (by rw [stands.clear, hu])
  rw [hc, asked] at ran
  have reach' : reachable (updClear l.bay (fun c => { c with substep := some .unlatching, stopFrom := none }) y) l.bay =
      true := reachable_updClear.trans reach
  have clear := askOpen_clear (b := l.bay)
    (s := updClear l.bay (fun c => { c with substep := some .unlatching, stopFrom := none }) y)
  have pending := askOpen_openPending reach'
  have tables : (askOpen l.bay (updClear l.bay (fun c => { c with substep := some .unlatching, stopFrom := none }) y)).tablesView =
      y.tablesView := by simp
  rw [updClear_bay_self, stands.clear] at clear
  generalize askOpen l.bay (updClear l.bay (fun c => { c with substep := some .unlatching, stopFrom := none }) y) = z at *
  rw [clearanceLatch_idle (by rw [clear]; exact hm)] at ran
  obtain ⟨ended, -, -⟩ := pollEnded_stands (s := z) (b := l.bay)
    ((reachable_congr (congrArg TableRec.occ (table_of_view tables l.bay))).trans reach)
  refine ⟨_, ran, ?_, ?_⟩
  · rw [pollsHeld_clear, ended.clear, clear]
    rfl
  · rw [openPending_eq, pollsHeld_laneOf, ← openPending_eq, ended.openPending, pending]

/-- UNLATCHING and the latch OPEN while its limit runs: RELEASED (spec 08, R167). -/
theorem poll_releases {l : OnLine} {bytes : List Byte} {m : Moment} (h : replies l bytes (.ok (.poll r)) s)
    (hreq : l.entry.req = .poll) (ho : (s.bay l.bay).table.occ = .present) (hp : r.plug = .in_)
    (hs : (s.bay l.bay).clear.state = .releasing) (hu : (s.bay l.bay).clear.substep = some .unlatching)
    (hm : (s.bay l.bay).clear.latchFrom = some m) (hl : r.latch = .open_)
    (hc : r.closed = 0 ∨ openPending s l.bay = false) :
    ∃ t, exec (.replyTaken bytes) s = .next t ∧
      (t.bay l.bay).clear =
          { (s.bay l.bay).clear with
            state := .released, substep := none, latchFrom := none, windowFrom := some t.time } ∧
        announced .clearance l.bay t := by
  obtain ⟨y, stands, reach, ran⟩ := releasingPoll h hreq ho hp hs
  have unlatching : (y.bay l.bay).clear.substep = some .unlatching := by rw [stands.clear, hu]
  have state : (y.bay l.bay).clear.state = .releasing := by rw [stands.clear, hs]
  rw [clearanceCount_idle state unlatching (by rw [stands.openPending]; exact hc), hl,
    clearanceLatch_releases state unlatching (by rw [stands.clear, hm])] at ran
  have reach' : ∀ f, reachable (postClearance l.bay (updClear l.bay f y)) l.bay = true := fun f =>
    (reachable_updClear (f := f)).trans reach
  obtain ⟨ended, time, ports⟩ := pollEnded_stands
    (s := postClearance l.bay (updClear l.bay
      (fun c => { c with state := .released, substep := none, latchFrom := none, windowFrom := some y.time }) y))
    (b := l.bay) (reach' _)
  refine ⟨_, ran, ?_, ?_⟩
  · rw [pollsHeld_clear, ended.clear, pollsHeld_time, time, postClearance, post_bay, updClear_bay_self, stands.clear]
    rfl
  · exact pollsHeld_announced (announced_of_ports ports announced_post)

end

end Sys2Proof.Machine
end

section
/-! PROOF. LATCH outcomes, and the obligation on the release sequence (spec 08, R160, R164 to R168). -/

namespace Sys2Proof.Machine

section
variable {s : State} {b : Bay} {l : OnLine} {bytes : List Byte}

theorem latch_owner {open_ : Bool} {o : Handed} {c : Contents} (h : l.entry.req = .latch open_) :
    ownerOutcome l.bay l.entry o c s = latchOutcome l.bay open_ l.entry.wanted o s := by
  unfold ownerOutcome
  rw [h]

/-! ### LATCH(open) -/

/-- The outcome of the LATCH(open) that a bay which unlatches still wants (spec 08, R166). -/
theorem latchOutcome_unlatching {o : Handed} (hs : (s.bay b).clear.state = .releasing)
    (hu : (s.bay b).clear.substep = some .unlatching) : latchOutcome b true true o s = openOutcome b o s := by
  unfold latchOutcome
  rw [if_pos rfl, if_pos ⟨rfl, hs, hu⟩]

theorem open_owner {o : Handed} {c : Contents} (hq : l.entry.req = .latch true) (hw : l.entry.wanted = true)
    (hs : (s.bay l.bay).clear.state = .releasing) (hu : (s.bay l.bay).clear.substep = some .unlatching) :
    ownerOutcome l.bay l.entry o c s = openOutcome l.bay o s := by
  rw [latch_owner hq, hw, latchOutcome_unlatching hs hu]

/-- LATCH(open) OK starts the latch limit. -/
theorem open_done (hq : l.entry.req = .latch true) (hw : l.entry.wanted = true)
    (hs : (s.bay l.bay).clear.state = .releasing) (hu : (s.bay l.bay).clear.substep = some .unlatching)
    (h : replies l bytes (.ok .nothing) s) :
    exec (.replyTaken bytes) s =
      .next (updClear l.bay (fun c => { c with latchFrom := some (heardAt l bytes s) }) (replyEnded l bytes s)) := by
  have started : ClassesKept s
      (updClear l.bay (fun c => { c with latchFrom := some (heardAt l bytes s) }) (replyEnded l bytes s)) :=
    replyEnded_classes.trans (.updClear_state fun _ => rfl)
  have taken : openOutcome l.bay .done (replyEnded l bytes s) =
      updClear l.bay (fun c => { c with latchFrom := some (heardAt l bytes s) }) (replyEnded l bytes s) := rfl
  rw [exec_okReply h, open_owner hq hw (by rw [replyEnded_clear, hs]) (by rw [replyEnded_clear, hu]), taken,
    started.pollsHeld]

/-- LATCH(open) REFUSED ends the release as the latch limit does. -/
theorem open_refused (hq : l.entry.req = .latch true) (hw : l.entry.wanted = true)
    (hs : (s.bay l.bay).clear.state = .releasing) (hu : (s.bay l.bay).clear.substep = some .unlatching)
    (h : replies l bytes .refused s) :
    ∃ t, exec (.replyTaken bytes) s = .next t ∧
      (t.bay l.bay).clear.state = .revoked ∧ (t.bay l.bay).clear.reasons = only .equipment ∧
        releaseOver (t.bay l.bay).clear ∧ announced .equipment l.bay t ∧ announced .clearance l.bay t ∧
        (t.bay l.bay).table = (s.bay l.bay).table := by
  have state : ((replyEnded l bytes s).bay l.bay).clear.state = .releasing := by rw [replyEnded_clear, hs]
  have taken : openOutcome l.bay .refused (replyEnded l bytes s) = latchLimitExpires l.bay (replyEnded l bytes s) := rfl
  have ran := exec_refusedReply h
  rw [open_owner hq hw state (by rw [replyEnded_clear, hu]), taken] at ran
  obtain ⟨ended, told, -, kept⟩ := latchLimitExpires_ended (releasing_inRelease state)
  obtain ⟨hstate, hreasons, hover, hclear, -⟩ := ended.pollsHeld (r := s)
  refine ⟨_, ran, hstate, hreasons, hover, pollsHeld_announced told, hclear, ?_⟩
  rw [pollsHeld_table, (kept l.bay).1, replyEnded_bay]

theorem exec_openFailed (hq : l.entry.req = .latch true) (hw : l.entry.wanted = true)
    (hs : (s.bay l.bay).clear.state = .releasing) (hu : (s.bay l.bay).clear.substep = some .unlatching)
    (h : lastAttempt l s) :
    exec .replyTimeout s =
      .next (pollsHeld s
        (if (s.bay l.bay).power.closed = 0 then askOpen l.bay (failureCounted l s)
          else stopHeat l.bay (failureCounted l s))) := by
  rw [exec_lastTimeout h, open_owner hq hw (by rw [failureCounted_clear, hs]) (by rw [failureCounted_clear, hu]),
    ← failureCounted_power (l := l)]
  rfl

/-- LATCH(open) FAILED with no contactor closed: it is asked again. -/
theorem open_failedAgain (hq : l.entry.req = .latch true) (hw : l.entry.wanted = true)
    (hs : (s.bay l.bay).clear.state = .releasing) (hu : (s.bay l.bay).clear.substep = some .unlatching)
    (h : lastAttempt l s) (hc : (s.bay l.bay).power.closed = 0) :
    ∃ t, exec .replyTimeout s = .next t ∧
      openPending t l.bay = true ∧ (t.bay l.bay).clear.openAsked = true ∧
        (t.bay l.bay).clear.substep = some .unlatching := by
  have ran := exec_openFailed hq hw hs hu h
  have reach : reachable (failureCounted l s) l.bay = true := failureCounted_reachable.trans h.2.2.1
  have clear := askOpen_clear (b := l.bay) (s := failureCounted l s)
  have pending := askOpen_openPending reach
  rw [if_pos hc] at ran
  rw [failureCounted_clear] at clear
  refine ⟨_, ran, ?_, ?_, ?_⟩
  · rw [openPending_eq, pollsHeld_laneOf, ← openPending_eq, pending]
  · rw [pollsHeld_clear, clear]
    rfl
  · rw [pollsHeld_clear, clear]
    exact hu

/-- LATCH(open) FAILED with contactors closed: the heat is stopped again. -/
theorem open_failedStops (hq : l.entry.req = .latch true) (hw : l.entry.wanted = true)
    (hs : (s.bay l.bay).clear.state = .releasing) (hu : (s.bay l.bay).clear.substep = some .unlatching)
    (h : lastAttempt l s) (hc : 0 < (s.bay l.bay).power.closed) :
    ∃ t, exec .replyTimeout s = .next t ∧
      (t.bay l.bay).clear =
        { (s.bay l.bay).clear with
          substep := some .stoppingHeat, stopFrom := some t.time, latchFrom := none } := by
  have ran := exec_openFailed hq hw hs hu h
  rw [if_neg (Nat.ne_of_gt hc)] at ran
  refine ⟨_, ran, ?_⟩
  rw [pollsHeld_clear, pollsHeld_time, stopHeat, updClear_bay_self, failureCounted_clear]
  rfl

/-! ### LATCH(close) -/

theorem close_owner {o : Handed} {c : Contents} (hq : l.entry.req = .latch false)
    (hr : (s.bay l.bay).clear.relatch = true) : ownerOutcome l.bay l.entry o c s = closeOutcome l.bay o s := by
  rw [latch_owner hq]
  exact (if_neg Bool.false_ne_true).trans (if_pos hr)

/-- LATCH(close) OK ends the relatch. -/
theorem close_done (hq : l.entry.req = .latch false) (hr : (s.bay l.bay).clear.relatch = true)
    (h : replies l bytes (.ok .nothing) s) :
    exec (.replyTaken bytes) s =
      .next (updClear l.bay (fun c => { c with relatch := false, relatchAt := none }) (replyEnded l bytes s)) := by
  have closed : ClassesKept s
      (updClear l.bay (fun c => { c with relatch := false, relatchAt := none }) (replyEnded l bytes s)) :=
    replyEnded_classes.trans (.updClear_state fun _ => rfl)
  have taken : closeOutcome l.bay .done (replyEnded l bytes s) =
      updClear l.bay (fun c => { c with relatch := false, relatchAt := none }) (replyEnded l bytes s) := rfl
  rw [exec_okReply h, close_owner hq (by rw [replyEnded_clear, hr]), taken, closed.pollsHeld]

/-- LATCH(close) REFUSED is asked again after 10 s, and EQUIPMENT posted the first time. -/
theorem close_refused (hq : l.entry.req = .latch false) (hr : (s.bay l.bay).clear.relatch = true)
    (h : replies l bytes .refused s) :
    exec (.replyTaken bytes) s =
      .next (onlyIf (!(s.bay l.bay).clear.relatchRefused) (post .equipment l.bay)
        (updClear l.bay
          (fun c => { c with relatchRefused := true, relatchAt := some (heardAt l bytes s + 10000000) })
          (replyEnded l bytes s))) := by
  have delay : relatchDelay = 10000000 := rfl
  have taken : closeOutcome l.bay .refused (replyEnded l bytes s) =
      onlyIf (!((replyEnded l bytes s).bay l.bay).clear.relatchRefused) (post .equipment l.bay)
        (updClear l.bay
          (fun c => { c with relatchRefused := true, relatchAt := some (heardAt l bytes s + relatchDelay) })
          (replyEnded l bytes s)) := rfl
  rw [exec_refusedReply h, close_owner hq (by rw [replyEnded_clear, hr]), taken, replyEnded_clear, delay]
  generalize heardAt l bytes s + 10000000 = again
  have marked : ClassesKept s (updClear l.bay
      (fun c => { c with relatchRefused := true, relatchAt := some again }) (replyEnded l bytes s)) :=
    replyEnded_classes.trans (.updClear_state fun _ => rfl)
  exact congrArg _ (ClassesKept.pollsHeld (marked.trans (.onlyIf fun _ => rfl)))

end

/-- Settles O53: the timers' rows, the good poll of a bay that releases, and the outcomes of its LATCH. -/
theorem releaseTimersAndLatchOutcomesMoveTheRelease :
    Obligations.ReleaseTimersAndLatchOutcomesMoveTheRelease := by
  unfold Obligations.ReleaseTimersAndLatchOutcomesMoveTheRelease
  intro b m l bytes r s hreset
  exact ⟨stopLimit_ends hreset, latchLimit_ends hreset, releaseWindow_ends hreset, relatch_retried hreset,
    validity_ends hreset,
    fun h hq ho hp hs => ⟨poll_asksOpen h hq ho hp hs, poll_releases h hq ho hp hs⟩,
    fun hq hw hs hu => ⟨open_done hq hw hs hu, open_refused hq hw hs hu, open_failedAgain hq hw hs hu,
      open_failedStops hq hw hs hu⟩,
    fun hq hr => ⟨close_done hq hr, close_refused hq hr⟩⟩

end Sys2Proof.Machine
end

section
/-! PROOF. The recompute: what the walk of the demand list gives each bay, and that all of it fits the heat budget (spec
03, R57 to R59). -/

namespace Sys2Proof.Machine

section
variable {s t : State} {b x : Bay} {bays : List Bay} {remaining : Nat}

/-! ### The walk -/

/-- The grant of the first bay of a walk. -/
theorem grantIn_walkGrants_head :
    grantIn (walkGrants s (b :: bays) remaining) b = min (s.bay b).heat.demand (remaining / stagePower s b) := by
  simp [walkGrants, grantIn]

/-- The grant of a later bay of a walk, from what its first bay leaves. -/
theorem grantIn_walkGrants_tail (h : x ≠ b) :
    grantIn (walkGrants s (b :: bays) remaining) x =
      grantIn
        (walkGrants s bays
          (remaining - min (s.bay b).heat.demand (remaining / stagePower s b) * stagePower s b)) x := by
  simp [walkGrants, grantIn, Ne.symm h]

theorem grantIn_walkGrants_of_not_mem (h : x ∉ bays) : grantIn (walkGrants s bays remaining) x = 0 := by
  induction bays generalizing remaining with
  | nil => rfl
  | cons b bays ih =>
    rw [List.mem_cons, not_or] at h
    rw [grantIn_walkGrants_tail h.1, ih h.2]

/-- No walk grants a bay more than its demand. -/
theorem grantIn_walkGrants_le_demand : grantIn (walkGrants s bays remaining) x ≤ (s.bay x).heat.demand := by
  induction bays generalizing remaining with
  | nil => exact Nat.zero_le _
  | cons b bays ih =>
    by_cases h : x = b
    · rw [h, grantIn_walkGrants_head]
      exact Nat.min_le_left _ _
    · rw [grantIn_walkGrants_tail h]
      exact ih

/-- What a walk takes for some bays. -/
def taken (s : State) (grants : List (Bay × Nat)) (bays : List Bay) : Nat :=
  (bays.map fun y => grantIn grants y * stagePower s y).sum

theorem taken_cons {grants : List (Bay × Nat)} :
    taken s grants (b :: bays) = grantIn grants b * stagePower s b + taken s grants bays := by
  simp [taken]

/-- What a walk takes for its later bays is what the walk of those takes. -/
theorem taken_tail {ys : List Bay} (h : b ∉ ys) :
    taken s (walkGrants s (b :: bays) remaining) ys =
      taken s
        (walkGrants s bays
          (remaining - min (s.bay b).heat.demand (remaining / stagePower s b) * stagePower s b)) ys := by
  unfold taken
  refine congrArg List.sum (List.map_congr_left fun y hy => ?_)
  have hne : y ≠ b := fun e => h (e ▸ hy)
  rw [grantIn_walkGrants_tail hne]

/-- Each bay of a walk has the lesser of its demand and the whole stages that fit in what the bays before it leave. -/
theorem grantIn_walkGrants_getElem (hn : bays.Nodup) {i : Nat} (hi : i < bays.length) :
    grantIn (walkGrants s bays remaining) bays[i] =
      min (s.bay bays[i]).heat.demand
        ((remaining - taken s (walkGrants s bays remaining) (bays.take i)) / stagePower s bays[i]) := by
  induction bays generalizing remaining i with
  | nil => exact absurd hi (Nat.not_lt_zero i)
  | cons b bays ih =>
    obtain ⟨hb, hn⟩ := List.nodup_cons.mp hn
    cases i with
    | zero => simp [grantIn_walkGrants_head, taken]
    | succ i =>
      have hi : i < bays.length := Nat.lt_of_succ_lt_succ hi
      have hne : bays[i] ≠ b := fun e => hb (e ▸ List.getElem_mem hi)
      rw [List.getElem_cons_succ, List.take_succ_cons, taken_cons, grantIn_walkGrants_tail hne, ih hn hi,
        taken_tail (fun h => hb (List.mem_of_mem_take h)), grantIn_walkGrants_head, Nat.sub_sub]

/-- What a walk takes fits in what it had. -/
theorem taken_le (hn : bays.Nodup) : taken s (walkGrants s bays remaining) bays ≤ remaining := by
  induction bays generalizing remaining with
  | nil => exact Nat.zero_le _
  | cons b bays ih =>
    obtain ⟨hb, hn⟩ := List.nodup_cons.mp hn
    rw [taken_cons, taken_tail hb, grantIn_walkGrants_head]
    have first : min (s.bay b).heat.demand (remaining / stagePower s b) * stagePower s b ≤ remaining :=
      (Nat.mul_le_mul_right _ (Nat.min_le_right _ _)).trans (Nat.div_mul_le_self _ _)
    have rest := ih hn (remaining := remaining - min (s.bay b).heat.demand (remaining / stagePower s b) * stagePower s b)
    omega

/-! ### The books -/

theorem project_power : ((project b s).bay x).power = (s.bay x).power := power_of_view (by simp) x

/-- A grant is set at its bay alone. -/
theorem setGrant_grant {starting : Option Bay} {n : Nat} :
    ((setGrant starting b n s).bay x).power.grant = if x = b then n else (s.bay x).power.grant := by
  have judged : ((judgeStarved b (updPower b (fun p => { p with grant := n }) s)).bay x).power.grant =
      if x = b then n else (s.bay x).power.grant := by
    unfold judgeStarved
    rw [updHeat_power, updPower_bay]
    split <;> rfl
  unfold setGrant
  split
  case isTrue h =>
    split
    case isTrue hx => rw [hx, h]
    · rfl
  · unfold onlyIf
    split
    · rw [project_power, judged]
    · exact judged

/-- Each bay given its grant has it after all. -/
theorem forAllBays_setGrant {starting : Option Bay} (grant : Bay → Nat) :
    ((forAllBays (fun y => setGrant starting y (grant y)) s).bay x).power.grant = grant x :=
  forAllBays_each (P := fun u y => (u.bay y).power.grant = grant y)
    (fun y u => by rw [setGrant_grant, if_pos rfl])
    (fun y z u h => by
      rw [setGrant_grant]
      split
      case isTrue hz => rw [hz]
      · exact h)
    x

theorem recomputeBooks_eq {starting : Option Bay} :
    recomputeBooks starting s = forAllBays (fun y => setGrant starting y (recomputedGrant s y)) s := rfl

/-- The recompute gives every bay the grant of the walk. -/
theorem recomputeBooks_grant {starting : Option Bay} :
    ((recomputeBooks starting s).bay x).power.grant = recomputedGrant s x := by
  rw [recomputeBooks_eq]
  exact forAllBays_setGrant (recomputedGrant s)

theorem recomputedGrant_le_demand : recomputedGrant s x ≤ (s.bay x).heat.demand := grantIn_walkGrants_le_demand

end

/-- Settles O11: the walk gives each bay of the demand list its share of what the bays before it leave, and all of it fits
where no bay stands twice. -/
theorem recomputeWalksTheDemandListWithinTheHeatBudget :
    Obligations.RecomputeWalksTheDemandListWithinTheHeatBudget := by
  unfold Obligations.RecomputeWalksTheDemandListWithinTheHeatBudget
  intro starting s hn
  have hd : (demandList s).Nodup := hn.filter _
  have sum : ∀ bays : List Bay,
      (bays.map fun x => ((recomputeBooks starting s).bay x).power.grant * stagePower s x).sum =
        taken s (walkGrants s (demandList s) (heatBudget s)) bays := fun bays =>
    congrArg List.sum (List.map_congr_left fun x _ => by rw [recomputeBooks_grant]; rfl)
  refine ⟨fun b hb => ?_, fun i => ?_, ?_⟩
  · rw [recomputeBooks_grant]
    exact grantIn_walkGrants_of_not_mem hb
  · rw [recomputeBooks_grant, sum]
    exact grantIn_walkGrants_getElem hd i.isLt
  · rw [sum]
    exact taken_le hd

end Sys2Proof.Machine
end

section
/-! PROOF. What the allocator does between two recomputes: the grants, the heat records and the budgets stand, no bay comes
to be commanded above its grant, and no reservation is added that does not fit (spec 03, R52, R54, R60, R61). -/

namespace Sys2Proof.Machine

section
variable {s t u : State} {b x : Bay}

/-! ### The budgets -/

/-- The supply state, the two budgets, the service reserve and the restore delay are as they were. -/
structure SameBudgets (s t : State) : Prop where
  state : t.supply.state = s.supply.state
  normal : t.supply.normal = s.supply.normal
  shed : t.supply.shed = s.supply.shed
  reserve : t.supply.reserve = s.supply.reserve
  restoreFrom : t.supply.restoreFrom = s.supply.restoreFrom

theorem SameBudgets.refl : SameBudgets s s := ⟨rfl, rfl, rfl, rfl, rfl⟩

theorem SameBudgets.trans (h : SameBudgets s t) (k : SameBudgets t u) : SameBudgets s u :=
  ⟨k.state.trans h.state, k.normal.trans h.normal, k.shed.trans h.shed, k.reserve.trans h.reserve,
    k.restoreFrom.trans h.restoreFrom⟩

theorem SameBudgets.of_supply (h : t.supply = s.supply) : SameBudgets s t := by
  constructor <;> rw [h]

theorem SameBudgets.effectiveBudget (h : SameBudgets s t) : effectiveBudget t = effectiveBudget s := by
  unfold Machine.effectiveBudget
  rw [h.state, h.normal, h.shed]

theorem SameBudgets.effectiveReserve (h : SameBudgets s t) : effectiveReserve t = effectiveReserve s := by
  unfold Machine.effectiveReserve
  rw [h.reserve, h.effectiveBudget]

theorem SameBudgets.heatBudget (h : SameBudgets s t) : heatBudget t = heatBudget s := by
  unfold Machine.heatBudget
  rw [h.effectiveBudget, h.effectiveReserve]

theorem Plans.budgets (h : Plans s t) : SameBudgets s t := by
  induction h with
  | refl => exact .refl
  | _ => rename_i ih; exact ⟨ih.1, ih.2, ih.3, ih.4, ih.5⟩

/-! ### The reservations -/

/-- The granted reservations fit the effective reserve (spec 03, R54). -/
def reservationsFit (s : State) : Prop := reservedAmount s ≤ effectiveReserve s

theorem reservedAmount_of_sublist (h : t.supply.reservations.Sublist s.supply.reservations) :
    reservedAmount t ≤ reservedAmount s :=
  (h.map fun r : Reservation => holderAmount r.holder).sum_le_sum fun _ _ => Nat.zero_le _

/-- No reservation is added that does not fit. -/
def addsFitting (s t : State) : Prop :=
  t.supply.reservations.Sublist s.supply.reservations ∨ reservationsFit t

theorem addsFitting.fit (h : addsFitting s t) (hb : SameBudgets s t) (hs : reservationsFit s) : reservationsFit t := by
  obtain h | h := h
  · unfold reservationsFit at *
    rw [hb.effectiveReserve]
    exact (reservedAmount_of_sublist h).trans hs
  · exact h

theorem addsFitting.trans (h : addsFitting s t) (k : addsFitting t u) (hb : SameBudgets t u) : addsFitting s u := by
  obtain k' | k' := k
  · obtain h | h := h
    · exact .inl (k'.trans h)
    · exact .inr (addsFitting.fit (.inl k') hb h)
  · exact .inr k'

/-! ### Nothing is divided anew -/

/-- The grants, the heat records and the budgets are as they were, no bay has come to be commanded above its grant, and no
reservation has been added that does not fit. -/
structure Settled (s t : State) : Prop where
  grants : SameGrants s t
  heats : t.heatsView = s.heatsView
  budgets : SameBudgets s t
  reserved : addsFitting s t
  commanded : ∀ x, (s.bay x).power.commanded ≤ (s.bay x).power.grant →
    (t.bay x).power.commanded ≤ (t.bay x).power.grant

namespace Settled

theorem refl : Settled s s := ⟨.refl, rfl, .refl, .inl (.refl _), fun _ => id⟩

theorem trans (h : Settled s t) (k : Settled t u) : Settled s u :=
  ⟨h.grants.trans k.grants, k.heats.trans h.heats, h.budgets.trans k.budgets, h.reserved.trans k.reserved k.budgets,
    fun x hx => k.commanded x (h.commanded x hx)⟩

/-- A change outside the Planner and the allocator. -/
theorem aside (h : Settled s t)
    (hk : u.powersView = t.powersView ∧ u.booksView = t.booksView ∧ u.heatsView = t.heatsView) :
    Settled s u := by
  obtain ⟨powers, books, heats⟩ := hk
  have supply : u.supply = t.supply := books
  refine h.trans ⟨.of_view powers, heats, .of_supply supply, .inl (by rw [supply]), fun x hx => ?_⟩
  rwa [power_of_view powers]

/-- A change of the allocator's own record that leaves the budgets and adds no reservation. -/
theorem books {f : SupplyRec → SupplyRec} (h : Settled s t)
    (hf : SameBudgets t (updSupply f t))
    (hr : (f t.supply).reservations.Sublist t.supply.reservations) : Settled s (updSupply f t) :=
  h.trans ⟨.of_view rfl, rfl, hf, .inl hr, fun _ hx => hx⟩

/-- A change of the allocator's part of a bay that leaves the grant and the commanded target. -/
theorem marks {f : PowerRec → PowerRec} (h : Settled s t)
    (hf : ∀ p, (f p).grant = p.grant ∧ (f p).commanded = p.commanded) : Settled s (updPower b f t) := by
  refine h.trans ⟨.updPower fun p => (hf p).1, by simp, .of_supply rfl, .inl (.refl _), fun x hx => ?_⟩
  rw [updPower_bay]
  split
  case isTrue hxb =>
    subst hxb
    rw [(hf _).1, (hf _).2]
    exact hx
  · exact hx

theorem onlyIf {c : Bool} {f : State → State} (h : Settled s t) (hf : c = true → Settled s (f t)) :
    Settled s (onlyIf c f t) := by
  cases c with
  | true => exact hf rfl
  | false => exact h

theorem foldl {α : Type} {l : List α} {f : State → α → State} (hf : ∀ a u, Settled s u → Settled s (f u a))
    (h : Settled s t) : Settled s (l.foldl f t) := by
  induction l generalizing t with
  | nil => exact h
  | cons a l ih => exact ih (hf a t h)

/-- Work of the Planner and the allocator that leaves grants and heat records and commands no bay above its grant. -/
theorem plans (h : Settled s t) (k : Plans t u) (hg : SameGrants t u)
    (hc : ∀ x, (t.bay x).power.commanded ≤ (t.bay x).power.grant →
      (u.bay x).power.commanded ≤ (u.bay x).power.grant)
    (hh : u.heatsView = t.heatsView) : Settled s u :=
  h.trans ⟨hg, hh, k.budgets, .inl (by rw [k.reservations]), hc⟩

end Settled

/-! ### STAGE -/

theorem freeIncrease_settled (h : Settled s t) : Settled s (freeIncrease b t) :=
  h.books ⟨rfl, rfl, rfl, rfl, rfl⟩ (.refl _)

theorem stageEnded_settled (h : Settled s t) : Settled s (stageEnded b t) := h.marks fun _ => ⟨rfl, rfl⟩

/-- A STAGE moves the commanded target of its own bay alone. -/
theorem askStage_power_ne {target : Nat} {increase : Bool} (h : x ≠ b) :
    ((askStage b target increase s).bay x).power = (s.bay x).power := by
  have told : ((stageTold b target s).bay x).power = (s.bay x).power := by rw [stageTold_bay_ne h]
  have ended : ((stageEnded b (stageTold b target s)).bay x).power = (s.bay x).power := by
    rw [stageEnded, updPower_bay_ne h, told]
  have unqueued : ((stageUnqueued b increase (stageEnded b (stageTold b target s))).bay x).power = (s.bay x).power := by
    unfold stageUnqueued
    split
    · rw [updPower_bay_ne h, ended]
    · cases increase
      · exact ended
      · rw [onlyIf_true, commandClosed, updPower_bay_ne h, ended]
  have freed : ∀ y : State, (onlyIf increase (freeIncrease b) y).bay x = y.bay x := fun y => by cases increase <;> rfl
  unfold askStage
  dsimp only
  split
  · exact (congrArg BayRec.power (joinStage_bay_ne h)).trans told
  · rw [freed]
    exact unqueued

/-- A STAGE commands its bay no more than its target, where an increase is above the closed count. -/
theorem askStage_commanded {target : Nat} {increase : Bool} (hc : increase = true → (s.bay b).power.closed ≤ target) :
    ((askStage b target increase s).bay b).power.commanded ≤ target := by
  have told : ((stageEnded b (stageTold b target s)).bay b).power =
      { (s.bay b).power with commanded := target, watch := none, polledSince := false } := by
    rw [stageEnded, updPower_bay_self, stageTold_bay]
  have unqueued : ((stageUnqueued b increase (stageEnded b (stageTold b target s))).bay b).power.commanded ≤ target := by
    unfold stageUnqueued
    split
    · rw [updPower_bay_self]
      exact Nat.zero_le _
    · cases increase
      · rw [onlyIf_false, told]
      · rw [onlyIf_true, commandClosed, updPower_bay_self, told]
        exact hc rfl
  have freed : ∀ y : State, (onlyIf increase (freeIncrease b) y).bay b = y.bay b := fun y => by cases increase <;> rfl
  unfold askStage
  dsimp only
  split
  · have joined : ((joinStage b target increase (stageTold b target s)).bay b).power = ((stageTold b target s).bay b).power :=
      updLoop_power _ _ _ _
    refine (congrArg PowerRec.commanded joined).trans_le ?_
    rw [stageTold_bay]
  · rw [freed]
    exact unqueued

/-- A STAGE within the grant keeps every bay within its grant. -/
theorem askStage_within {target : Nat} {increase : Bool} (ht : x = b → target ≤ (s.bay b).power.grant)
    (hc : increase = true → (s.bay b).power.closed ≤ target)
    (hx : x ≠ b → (s.bay x).power.commanded ≤ (s.bay x).power.grant) :
    ((askStage b target increase s).bay x).power.commanded ≤ ((askStage b target increase s).bay x).power.grant := by
  rw [askStage_grants x]
  by_cases h : x = b
  · subst h
    exact (askStage_commanded hc).trans (ht rfl)
  · rw [askStage_power_ne h]
    exact hx h

theorem askReduction_within {target : Nat} (ht : x = b → target ≤ (s.bay b).power.grant)
    (hx : x ≠ b → (s.bay x).power.commanded ≤ (s.bay x).power.grant) :
    ((askReduction b target s).bay x).power.commanded ≤ ((askReduction b target s).bay x).power.grant := by
  have freed : ∀ y, (onlyIf (isIncrease (replaceable s b .stage)) (freeIncrease b) s).bay y = s.bay y := fun y => by
    cases isIncrease (replaceable s b .stage) <;> rfl
  unfold askReduction
  refine askStage_within (by rw [freed]; exact ht) (fun h => absurd h Bool.false_ne_true) fun h => ?_
  rw [freed]
  exact hx h

theorem reduceBay_grants : SameGrants s (reduceBay b s) := .onlyIf fun _ => askReduction_grants

/-- R61: a bay is not left commanded above its grant. -/
theorem reduceBay_within (hx : x ≠ b → (s.bay x).power.commanded ≤ (s.bay x).power.grant) :
    ((reduceBay b s).bay x).power.commanded ≤ ((reduceBay b s).bay x).power.grant := by
  unfold reduceBay onlyIf
  split
  · exact askReduction_within (fun _ => Nat.le_refl _) hx
  case isFalse h =>
    by_cases hb : x = b
    · rw [decide_eq_true_iff] at h
      rw [hb]
      exact Nat.not_lt.mp h
    · exact hx hb

/-- A STAGE leaves the budgets and the reservations. -/
theorem askStage_books {target : Nat} {increase : Bool} :
    SameBudgets s (askStage b target increase s) ∧
      (askStage b target increase s).supply.reservations = s.supply.reservations := by
  have ended : (stageUnqueued b increase (stageEnded b (stageTold b target s))).supply = s.supply := by
    have books : (stageUnqueued b increase (stageEnded b (stageTold b target s))).booksView = s.booksView := by
      simp [stageTold]
    exact books
  have reservations := congrArg SupplyRec.reservations ended
  unfold askStage
  dsimp only
  split
  · exact ⟨.of_supply rfl, rfl⟩
  · cases increase
    · exact ⟨.of_supply ended, reservations⟩
    · exact ⟨(SameBudgets.of_supply ended).trans (t := stageUnqueued b true (stageEnded b (stageTold b target s)))
        ⟨rfl, rfl, rfl, rfl, rfl⟩, reservations⟩

/-- A STAGE asked within the grant, an increase above the closed count. -/
theorem askStage_settled {target : Nat} {increase : Bool} (h : Settled s t)
    (ht : (t.bay b).power.commanded ≤ (t.bay b).power.grant → target ≤ (t.bay b).power.grant)
    (hc : increase = true → (t.bay b).power.closed ≤ target) : Settled s (askStage b target increase t) := by
  obtain ⟨budgets, reservations⟩ := askStage_books (s := t) (b := b) (target := target) (increase := increase)
  refine h.trans ⟨askStage_grants, by simp, budgets, .inl (by rw [reservations]), fun x hx => ?_⟩
  exact askStage_within (fun hb => ht (hb ▸ hx)) hc fun _ => hx

theorem askReduction_settled {target : Nat} (h : Settled s t)
    (ht : (t.bay b).power.commanded ≤ (t.bay b).power.grant → target ≤ (t.bay b).power.grant) :
    Settled s (askReduction b target t) := by
  unfold askReduction
  refine askStage_settled (h.onlyIf fun _ => freeIncrease_settled h) ?_ fun h => absurd h Bool.false_ne_true
  cases isIncrease (replaceable t b .stage) <;> exact ht

/-- The reductions leave no bay commanded above its grant. -/
theorem askReductions_within :
    ((askReductions s).bay x).power.commanded ≤ ((askReductions s).bay x).power.grant := by
  have each := forAllBays_each (f := reduceBay) (s := s)
    (P := fun u y => (u.bay y).power.commanded ≤ (u.bay y).power.grant)
    (fun _ _ => reduceBay_within fun h => absurd rfl h) (fun _ _ _ h => reduceBay_within fun _ => h) x
  unfold askReductions
  exact each

theorem askReductions_grants : SameGrants s (askReductions s) := by
  unfold askReductions
  exact forAllBays_keeps (P := SameGrants s) (fun _ _ h => h.trans reduceBay_grants) s .refl

theorem askReductions_settled (h : Settled s t) : Settled s (askReductions t) :=
  h.plans (askReductions_plans .refl) askReductions_grants (fun _ _ => askReductions_within) (by simp)

/-- The commanded target returns to the closed count, and is reduced where that exceeds the grant. -/
theorem returnCommanded_settled (h : Settled s t) : Settled s (returnCommanded b t) := by
  have closed : SameGrants t (commandClosed b t) := .updPower fun _ => rfl
  have reduced : Plans (commandClosed b t) (reduceBay b (commandClosed b t)) := reduceBay_plans .refl
  unfold returnCommanded
  split
  · exact h
  · refine h.trans ⟨closed.trans reduceBay_grants, by simp, ?_, .inl (by rw [reduced.reservations]; rfl), fun x hx => ?_⟩
    · exact SameBudgets.trans (t := commandClosed b t) (.of_supply rfl) reduced.budgets
    · refine reduceBay_within fun hb => ?_
      rw [commandClosed, updPower_bay_ne hb]
      exact hx

theorem commandedOff_settled {f : PowerRec → PowerRec} (h : Settled s t)
    (hf : ∀ p, (f p).grant = p.grant ∧ (f p).commanded = 0) : Settled s (updPower b f t) := by
  refine h.trans ⟨.updPower fun p => (hf p).1, by simp, .of_supply rfl, .inl (.refl _), fun x hx => ?_⟩
  rw [updPower_bay]
  split
  · rw [(hf _).2]
    exact Nat.zero_le _
  · exact hx

theorem stageNotSent_settled {increase : Bool} (h : Settled s t) : Settled s (stageNotSent b increase t) := by
  have ended : Settled s (Machine.onlyIf increase (freeIncrease b) (stageEnded b t)) :=
    (stageEnded_settled h).onlyIf fun _ => freeIncrease_settled (stageEnded_settled h)
  unfold stageNotSent
  split
  · exact commandedOff_settled ended fun _ => ⟨rfl, rfl⟩
  · exact ended.onlyIf fun _ => returnCommanded_settled ended

theorem startWatch_settled (h : Settled s t) : Settled s (startWatch b t) := h.marks fun _ => ⟨rfl, rfl⟩

theorem stepEnded_settled (h : Settled s t) : Settled s (stepEnded b t) := h.marks fun _ => ⟨rfl, rfl⟩

theorem stepBegan_settled (h : Settled s t) : Settled s (stepBegan b t) := by
  have held : Settled s (updPower b (fun p => { p with stepHold := true }) t) := h.marks fun _ => ⟨rfl, rfl⟩
  unfold stepBegan
  dsimp only
  split
  · exact stageNotSent_settled (held.aside (by simp))
  · exact held

theorem increaseEnded_settled (h : Settled s t) : Settled s (increaseEnded b t) :=
  freeIncrease_settled
    (Settled.books (f := fun p => { p with lastIncrease := some t.time })
      (h.marks (f := fun p => { p with lastIncrease := some t.time }) fun _ => ⟨rfl, rfl⟩) ⟨rfl, rfl, rfl, rfl, rfl⟩ (.refl _))

theorem increaseRefused_settled (h : Settled s t) : Settled s (increaseRefused b t) := by
  have marked : Settled s (updPower b (fun p => { p with refused := true }) t) := h.marks fun _ => ⟨rfl, rfl⟩
  exact returnCommanded_settled (marked.onlyIf fun _ => marked.aside (by simp))

theorem stageOutcome_settled {increase : Bool} {o : Handed} (h : Settled s t) :
    Settled s (stageOutcome b increase o t) := by
  have ended := stageEnded_settled (b := b) h
  have power : ((stageEnded b t).bay b).power = { (t.bay b).power with polledSince := false } := by
    rw [stageEnded, updPower_bay_self]
  unfold stageOutcome
  split
  · exact startWatch_settled ended
  · exact startWatch_settled ended
  · exact askReduction_settled ended fun hx => by rw [power] at hx ⊢; exact hx
  · exact stageNotSent_settled h
  · exact startWatch_settled ((increaseEnded_settled ended).marks fun _ => ⟨rfl, rfl⟩)
  · exact increaseRefused_settled (startWatch_settled (increaseEnded_settled ended))
  · exact increaseEnded_settled ended
  · exact stageNotSent_settled h

/-! ### Increases (spec 03, R62) -/

theorem wantsIncrease_of_increaseBay (h : increaseBay s = some b) : wantsIncrease s b = true := by
  have found := List.find?_some h
  rw [Bool.and_eq_true] at found
  exact found.1

/-- An increase is asked of a bay that has fewer closed than granted. -/
theorem stageIncrease_settled (h : Settled s t) : Settled s (stageIncrease t) := by
  unfold stageIncrease
  split
  case h_1 m _ _ =>
    split
    case h_1 b hb =>
      have wanted := wantsIncrease_of_increaseBay hb
      simp only [wantsIncrease, Bool.and_eq_true, decide_eq_true_eq] at wanted
      obtain ⟨⟨⟨fewer, -⟩, -⟩, -⟩ := wanted
      have timed : Settled s (timeTo m t) := h.aside (by simp)
      exact askStage_settled (timed.books ⟨rfl, rfl, rfl, rfl, rfl⟩ (.refl _)) (fun _ => fewer) fun _ => Nat.le_succ _
    · exact h
  · exact h

/-! ### Reservations (spec 03, R54, R55) -/

theorem joinWaiting_settled {o : Holder} (h : Settled s t) : Settled s (joinWaiting o t) := by
  unfold joinWaiting
  split
  · exact h
  · exact h.books ⟨rfl, rfl, rfl, rfl, rfl⟩ (.refl _)

theorem leaveWaiting_settled {o : Holder} (h : Settled s t) : Settled s (leaveWaiting o t) :=
  h.books ⟨rfl, rfl, rfl, rfl, rfl⟩ (.refl _)

theorem dropReservation_settled {o : Holder} (h : Settled s t) : Settled s (dropReservation o t) :=
  h.books ⟨rfl, rfl, rfl, rfl, rfl⟩ List.filter_sublist

/-- A reservation added where it fits. -/
theorem addReservation_settled {o : Holder} (h : Settled s t) (hf : fits t o = true) :
    Settled s (addReservation o b t) := by
  refine h.trans ⟨.of_view rfl, rfl, ⟨rfl, rfl, rfl, rfl, rfl⟩, .inr ?_, fun _ hx => hx⟩
  have amount : reservedAmount (addReservation o b t) = reservedAmount t + holderAmount o := by
    simp [reservedAmount, addReservation]
  unfold reservationsFit
  rw [amount]
  exact of_decide_eq_true hf

theorem askSample_settled {i : Fin 4} (h : Settled s t) : Settled s (askSample i t) := h.aside (by simp)

theorem disownLamp_settled (h : Settled s t) : Settled s (disownLamp b t) := h.aside (by simp)

theorem stepBegins_settled {i : Fin 4} (h : Settled s t) : Settled s (stepBegins i t) := by
  unfold stepBegins
  split
  · split
    · have slot : ∀ f, Settled s (updSlot i f t) := fun f => h.aside (by simp)
      exact askSample_settled (disownLamp_settled (stepBegan_settled (slot _)))
    · exact h
  · exact h

theorem slotGranted_settled {i : Fin 4} (h : Settled s t) : Settled s (slotGranted i t) := by
  unfold slotGranted
  split
  · exact stepBegins_settled (h.aside (by simp))
  · exact h

theorem visitBegins_settled {rest : List Bay} (h : Settled s t) : Settled s (visitBegins b rest t) := h.aside (by simp)

/-- A holder is granted a reservation that fits. -/
theorem grantHolder_settled {o : Holder} (h : Settled s t) (hf : fits t o = true) : Settled s (grantHolder o t) := by
  unfold grantHolder
  split
  · split
    · exact slotGranted_settled (addReservation_settled h hf)
    · exact h
  · split
    · exact visitBegins_settled (addReservation_settled h hf)
    · exact h

theorem requestPower_settled {o : Holder} (h : Settled s t) : Settled s (requestPower o t) := by
  unfold requestPower
  split
  · exact grantHolder_settled h ‹_›
  · exact joinWaiting_settled h

theorem passTurn_settled {o : Holder} (h : Settled s t) : Settled s (passTurn t o) := by
  unfold passTurn
  split
  case isTrue hc => exact grantHolder_settled h (Bool.and_eq_true _ _ ▸ hc).2
  · exact h

theorem grantPass_settled (h : Settled s t) : Settled s (grantPass t) := h.foldl fun _ _ => passTurn_settled

theorem giveBack_settled {o : Holder} (h : Settled s t) : Settled s (giveBack o t) := by
  unfold giveBack
  split
  · exact grantPass_settled (dropReservation_settled h)
  · exact leaveWaiting_settled h

theorem askVisit_settled (h : Settled s t) : Settled s (askVisit t) := by
  unfold askVisit
  split
  · exact leaveWaiting_settled h
  · split
    · exact h
    · exact requestPower_settled h
  · exact h

theorem placeTail_settled (h : Settled s t) : Settled s (placeTail b t) := by
  have queued : ∀ y, Settled s y → Settled s (markQueued b y) := fun _ k => k.aside (by simp)
  have joined : ∀ q, Settled s { t with readerQueue := q } := fun _ => h.aside ⟨rfl, rfl, rfl⟩
  unfold placeTail
  split
  · split
    · exact askVisit_settled (queued _ h)
    · exact askVisit_settled (queued _ (joined _))
  · exact h

end

end Sys2Proof.Machine
end

section
/-! PROOF. A change of the budget in force or of the service reserve leaves the books in order, and so does every recompute
(spec 03, R52, R56, R58). -/

namespace Sys2Proof.Machine

section
variable {s t u : State} {b x : Bay}

/-! ### Withdrawals (spec 03, R56) -/

theorem askLampOff_settled (h : Settled s t) : Settled s (askLampOff b t) := h.aside (by simp)

theorem lampPowerWithdrawn_settled {i : Fin 4} (h : Settled s t) : Settled s (lampPowerWithdrawn i t) := by
  unfold lampPowerWithdrawn
  split
  · dsimp only
    split
    · have slot : ∀ f y, Settled s y → Settled s (updSlot i f y) := fun _ _ k => k.aside (by simp)
      exact askLampOff_settled (disownLamp_settled (stepEnded_settled (slot _ _ (h.aside (by simp)))))
    · exact h.aside (by simp)
  · exact h

theorem partingSleep_settled (h : Settled s t) : Settled s (partingSleep b t) := h.aside (by simp)

theorem visitWithdrawn_settled (h : Settled s t) : Settled s (visitWithdrawn t) := by
  unfold visitWithdrawn
  split
  · exact askVisit_settled (partingSleep_settled (h.aside (by simp)))
  · exact h

theorem withdrawn_settled {o : Holder} (h : Settled s t) : Settled s (withdrawn o t) := by
  unfold withdrawn
  split
  · exact lampPowerWithdrawn_settled (joinWaiting_settled h)
  · exact visitWithdrawn_settled h

/-- A holder with a reservation in the list has fewer in it once it is dropped. -/
theorem dropReservation_length {r : Reservation} (h : s.supply.reservations.getLast? = some r) :
    (dropReservation r.holder s).supply.reservations.length < s.supply.reservations.length :=
  List.length_filter_lt_length_iff_exists.mpr ⟨r, List.mem_of_getLast? h, by simp⟩

theorem withdrawNewest_budgets {n : Nat} : SameBudgets s (withdrawNewest n s) := by
  induction n generalizing s with
  | zero => exact .refl
  | succ n ih =>
    unfold withdrawNewest
    split
    · exact .refl
    · split
      · exact (withdrawn_settled (dropReservation_settled .refl)).budgets.trans ih
      · exact .refl

/-- As many withdrawals as there are reservations leave those that fit. -/
theorem withdrawNewest_fit {n : Nat} (h : s.supply.reservations.length ≤ n ∨ reservationsFit s) :
    reservationsFit (withdrawNewest n s) := by
  induction n generalizing s with
  | zero =>
    obtain h | h := h
    · have empty : s.supply.reservations = [] := List.eq_nil_of_length_eq_zero (Nat.le_zero.mp h)
      have amount : reservedAmount s = 0 := by unfold reservedAmount; rw [empty]; rfl
      exact amount.trans_le (Nat.zero_le _)
    · exact h
  | succ n ih =>
    unfold withdrawNewest
    split
    · assumption
    case isFalse hover =>
      have short := h.resolve_right hover
      split
      case h_1 r hr =>
        refine ih ?_
        have dropped := dropReservation_length hr
        obtain sub | fit := (withdrawn_settled (o := r.holder) (.refl (s := dropReservation r.holder s))).reserved
        · exact .inl (by have := sub.length_le; omega)
        · exact .inr fit
      case h_2 hn =>
        have empty : s.supply.reservations = [] := List.getLast?_eq_none_iff.mp hn
        refine absurd ?_ hover
        have amount : reservedAmount s = 0 := by unfold reservedAmount; rw [empty]; rfl
        exact amount.trans_le (Nat.zero_le _)

theorem withdrawExcess_fit : reservationsFit (withdrawExcess s) := withdrawNewest_fit (.inl (Nat.le_refl _))

/-! ### The books in order -/

/-- The reservations fit, and every grant is the one the walk of the demand list gives. -/
def dividedByWalk (s : State) : Prop := reservationsFit s ∧ ∀ x, (s.bay x).power.grant = recomputedGrant s x

/-- The walk reads the departure list, the demands, the stage powers and the heat budget. -/
theorem recomputedGrant_congr (hd : t.departures = s.departures) (hh : Steady s t) (hb : SameBudgets s t) :
    recomputedGrant t x = recomputedGrant s x := by
  have demand : ∀ y, (t.bay y).heat.demand = (s.bay y).heat.demand := fun y => (hh y).demand
  have power : ∀ y, stagePower t y = stagePower s y := fun y => by unfold stagePower; rw [(hh y).profile]
  have list : demandList t = demandList s := by
    unfold demandList departureOrder
    rw [hd]
    exact List.filter_congr fun y _ => by rw [demand]
  have walk : ∀ bays n, walkGrants t bays n = walkGrants s bays n := fun bays => by
    induction bays with
    | nil => exact fun _ => rfl
    | cons y bays ih =>
      intro n
      unfold walkGrants
      dsimp only
      rw [demand, power, ih]
  unfold recomputedGrant
  rw [list, hb.heatBudget, walk]

theorem dividedByWalk.settled (h : dividedByWalk s) (k : Settled s t) (hd : t.departures = s.departures) :
    dividedByWalk t :=
  ⟨k.reserved.fit k.budgets h.1, fun x => by
    rw [k.grants x, h.2 x, recomputedGrant_congr hd (.of_view k.heats) k.budgets]⟩

theorem recomputeBooks_steady {starting : Option Bay} : Steady s (recomputeBooks starting s) :=
  .forAllBays fun _ _ => setGrant_steady

theorem supply_of_view (h : t.booksView = s.booksView) : t.supply = s.supply := h

theorem recomputeBooks_supply {starting : Option Bay} : (recomputeBooks starting s).supply = s.supply :=
  supply_of_view (by simp)

theorem recomputeBooks_departures {starting : Option Bay} : (recomputeBooks starting s).departures = s.departures :=
  departures_of_view (by simp)

theorem recomputeBooks_divided {starting : Option Bay} (h : reservationsFit s) :
    dividedByWalk (recomputeBooks starting s) := by
  have budgets : SameBudgets s (recomputeBooks starting s) := .of_supply recomputeBooks_supply
  refine ⟨addsFitting.fit (.inl (by rw [recomputeBooks_supply])) budgets h, fun x => ?_⟩
  rw [recomputeBooks_grant, recomputedGrant_congr recomputeBooks_departures recomputeBooks_steady budgets]

theorem askReductions_departures : (askReductions s).departures = s.departures :=
  departures_of_view (by simp)

/-- The reductions put books in order whose grants are those of the walk. -/
theorem askReductions_inForce (h : dividedByWalk s) : booksInForce (askReductions s) :=
  have divided := h.settled (askReductions_settled .refl) askReductions_departures
  ⟨divided.1, fun x => ⟨divided.2 x, askReductions_within⟩⟩

/-- A recompute leaves the books in order where the reservations fit (spec 03, R58, R61). -/
theorem recompute_inForce {starting : Option Bay} (h : reservationsFit s) : booksInForce (recompute starting s) :=
  askReductions_inForce (recomputeBooks_divided h)

/-! ### A change of the supply (spec 03, R52) -/

theorem grantPass_departures : (grantPass s).departures = s.departures :=
  departures_of_view (by simp)

theorem postSupply_settled (h : Settled s t) : Settled s (postSupply t) := h.aside (by simp)

/-- The effects of R52 leave the books in order, whatever they were. -/
theorem supplyChanged_inForce {tellsMasters : Bool} : booksInForce (supplyChanged tellsMasters s) := by
  have divided : dividedByWalk (recomputeBooks none (withdrawExcess s)) := recomputeBooks_divided withdrawExcess_fit
  have granted := divided.settled (grantPass_settled .refl) grantPass_departures
  unfold supplyChanged
  generalize grantPass (recomputeBooks none (withdrawExcess s)) = y at granted ⊢
  have told : Settled y (onlyIf tellsMasters postSupply y) := Settled.refl.onlyIf fun _ => postSupply_settled .refl
  exact askReductions_inForce (granted.settled told (by cases tellsMasters <;> rfl))

theorem supplyChanged_budgets {tellsMasters : Bool} : SameBudgets s (supplyChanged tellsMasters s) := by
  have withdrawn : SameBudgets s (withdrawExcess s) := withdrawNewest_budgets
  have divided : SameBudgets (withdrawExcess s) (recomputeBooks none (withdrawExcess s)) :=
    .of_supply recomputeBooks_supply
  have granted := grantPass_settled (s := recomputeBooks none (withdrawExcess s)) .refl
  have told := askReductions_settled (granted.onlyIf (c := tellsMasters) fun _ => postSupply_settled granted)
  exact (withdrawn.trans divided).trans told.budgets

/-! ### SUPPLY (spec 10, R183) -/

/-- The Planner and the allocator post no SUPPLY. -/
theorem Plans.supplyNotPosted (h : Plans s t) : supplyNotPosted s t := by
  induction h with
  | refl => exact fun _ => rfl
  | post _ _ ih => exact fun p => by rw [post_port]; exact ih p
  | _ => rename_i ih; exact ih

theorem supplyNotPosted.trans (h : supplyNotPosted s t) (k : supplyNotPosted t u) : supplyNotPosted s u := fun p =>
  (k p).trans (h p)

theorem supplyNotPosted.of_view (h : t.eventsView = s.eventsView) : supplyNotPosted s t := fun p => by
  rw [port_of_view h]

/-- The books are divided, and the grants passed, before SUPPLY is posted. -/
theorem grantPass_recomputeBooks_notPosted :
    supplyNotPosted s (grantPass (recomputeBooks none (withdrawExcess s))) := by
  have withdrawn : supplyNotPosted s (withdrawExcess s) := .of_view (by simp)
  have passed : supplyNotPosted (recomputeBooks none (withdrawExcess s))
      (grantPass (recomputeBooks none (withdrawExcess s))) := .of_view (by simp)
  exact (withdrawn.trans (recomputeBooks_plans .refl).supplyNotPosted).trans passed

/-- SUPPLY is posted once where the masters are told. -/
theorem supplyChanged_posted : supplyPosted s (supplyChanged true s) := by
  have reduced : supplyNotPosted (postSupply (grantPass (recomputeBooks none (withdrawExcess s)))) (supplyChanged true s) :=
    .of_view (by simp [supplyChanged])
  intro p
  rw [reduced p, postSupply_port, grantPass_recomputeBooks_notPosted p]

theorem supplyChanged_notPosted : supplyNotPosted s (supplyChanged false s) := by
  have reduced : supplyNotPosted (grantPass (recomputeBooks none (withdrawExcess s))) (supplyChanged false s) :=
    .of_view (by simp [supplyChanged])
  exact grantPass_recomputeBooks_notPosted.trans reduced

end

end Sys2Proof.Machine
end

section
/-! PROOF. The edges of SHED, the end of the restore delay, SET_BUDGET and SET_RESERVE (spec 03, R49 to R53). -/

namespace Sys2Proof.Machine

section
variable {s t u : State} {b x : Bay} {m : Nat}

/-! ### Beside the books -/

/-- The books stand where the departure list, the heat records and the allocator's part are as they were. -/
theorem booksInForce.aside (h : booksInForce s) (hd : t.departures = s.departures) (hs : t.supply = s.supply)
    (hb : ∀ x, (t.bay x).heat = (s.bay x).heat ∧ (t.bay x).power = (s.bay x).power) : booksInForce t := by
  have budgets : SameBudgets s t := .of_supply hs
  obtain ⟨fit, grants⟩ := h
  refine ⟨addsFitting.fit (.inl (by rw [hs])) budgets fit, fun x => ?_⟩
  rw [(hb x).2, recomputedGrant_congr hd (fun y => by rw [(hb y).1]; exact .refl) budgets]
  exact grants x

theorem booksInForce.polled (h : booksInForce t) : booksInForce (pollsHeld s t) :=
  h.aside (pollsHeld_departures s t) (pollsHeld_supply s t) fun x => ⟨pollsHeld_heat s t x, pollsHeld_power s t x⟩

theorem supplyPosted.polled (h : supplyPosted s t) : supplyPosted s (pollsHeld u t) := fun p => by
  rw [pollsHeld_port]
  exact h p

theorem shedLine_of_frozen (h : Frozen s t) : t.shedLine = s.shedLine := congrArg (·.2.1) h.1

theorem time_of_frozen (h : Frozen s t) : t.time = s.time := congrArg (·.1) h.2.1

/-! ### The supply state (spec 03, R50, R52) -/

/-- The budget in force has been switched: SUPPLY is posted, and the books are in order. -/
structure SupplySwitched (state : SupplyState) (s t : State) : Prop where
  state : t.supply.state = state
  restoreFrom : t.supply.restoreFrom = none
  posted : supplyPosted s t
  books : booksInForce t
  shedLine : t.shedLine = s.shedLine
  time : t.time = s.time

theorem switchSupply_switched {state : SupplyState} : SupplySwitched state s (switchSupply state s) := by
  unfold switchSupply
  have begun : ∀ y, y = updSupply (fun p => { p with state := state, restoreFrom := none }) s →
      SupplySwitched state s (supplyChanged true y) := by
    intro y hy
    have budgets : SameBudgets y (supplyChanged true y) := supplyChanged_budgets
    have frozen : Frozen y (supplyChanged true y) := (supplyChanged_keeps true y).1
    have posted : supplyPosted y (supplyChanged true y) := supplyChanged_posted
    have books : booksInForce (supplyChanged true y) := supplyChanged_inForce
    generalize supplyChanged true y = t at *
    subst hy
    exact ⟨budgets.state, budgets.restoreFrom, posted, books, shedLine_of_frozen frozen, time_of_frozen frozen⟩
  exact begun _ rfl

theorem SupplySwitched.polled {state : SupplyState} (h : SupplySwitched state s t) :
    SupplySwitched state s (pollsHeld u t) where
  state := (congrArg SupplyRec.state (pollsHeld_supply u t)).trans h.state
  restoreFrom := (congrArg SupplyRec.restoreFrom (pollsHeld_supply u t)).trans h.restoreFrom
  posted := h.posted.polled
  books := h.books.polled
  shedLine := (pollsHeld_shedLine u t).trans h.shedLine
  time := (pollsHeld_time u t).trans h.time

/-- The supply record alone moves no poll class. -/
theorem pollsHeld_supplyWritten {line : Bool} {p : SupplyRec} :
    pollsHeld s { s with shedLine := line, supply := p } = { s with shedLine := line, supply := p } :=
  pollsHeld_of_period fun _ => rfl

/-! ### The edges of SHED (spec 03, R50) -/

theorem exec_shedAsserted (h : s.inReset = false) :
    exec .shedAsserted s = .next (pollsHeld s (shedAsserts { s with shedLine := true })) := by
  have asserted : shedAsserted s = shedAsserts { s with shedLine := true } := if_neg (by rw [h]; decide)
  exact congrArg (fun y => Host.Outcome.next (pollsHeld s y)) asserted

theorem exec_shedDeasserted (h : s.inReset = false) :
    exec .shedDeasserted s = .next (pollsHeld s (shedDeasserts { s with shedLine := false })) := by
  have deasserted : shedDeasserted s = shedDeasserts { s with shedLine := false } := if_neg (by rw [h]; decide)
  exact congrArg (fun y => Host.Outcome.next (pollsHeld s y)) deasserted

theorem shedAsserts_normal (h : s.supply.state = .normal) : shedAsserts s = switchSupply .shed s := by
  unfold shedAsserts
  rw [h]

theorem shedAsserts_restoring (h : s.supply.state = .restoring) :
    shedAsserts s = { s with supply := { s.supply with state := .shed, restoreFrom := none } } := by
  unfold shedAsserts
  rw [h]
  rfl

theorem shedAsserts_shed (h : s.supply.state = .shed) : shedAsserts s = s := by
  unfold shedAsserts
  rw [h]

theorem shedDeasserts_delayed (h : s.supply.state = .shed) (hd : s.settings.restoreDelay ≠ 0) :
    shedDeasserts s = { s with supply := { s.supply with state := .restoring, restoreFrom := some s.time } } := by
  unfold shedDeasserts
  rw [h]
  exact if_neg hd

theorem shedDeasserts_atOnce (h : s.supply.state = .shed) (hd : s.settings.restoreDelay = 0) :
    shedDeasserts s = switchSupply .normal s := by
  unfold shedDeasserts
  rw [h]
  exact if_pos hd

theorem shedDeasserts_other (h : s.supply.state ≠ .shed) : shedDeasserts s = s := by
  unfold shedDeasserts
  split
  · exact absurd ‹_› h
  · rfl
  · rfl

/-- SHED is asserted (spec 03, R50). -/
theorem shedAsserted_edge (hreset : s.inReset = false) :
    ∃ t, exec .shedAsserted s = .next t ∧
      t.shedLine = true ∧ t.supply.state = .shed ∧
        (s.supply.state = .normal → t.supply.restoreFrom = none ∧ supplyPosted s t ∧ booksInForce t) ∧
        (s.supply.state = .restoring →
          t = { s with shedLine := true, supply := { s.supply with state := .shed, restoreFrom := none } }) ∧
        (s.supply.state = .shed → t = { s with shedLine := true }) := by
  rw [exec_shedAsserted hreset]
  cases hs : s.supply.state with
  | normal =>
    have switched := (switchSupply_switched (state := .shed) (s := { s with shedLine := true })).polled (u := s)
    rw [shedAsserts_normal (by exact hs)]
    generalize pollsHeld s (switchSupply .shed { s with shedLine := true }) = t at switched ⊢
    exact ⟨t, rfl, switched.shedLine, switched.state,
      fun _ => ⟨switched.restoreFrom, switched.posted, switched.books⟩, (fun h => nomatch h), (fun h => nomatch h)⟩
  | restoring =>
    rw [shedAsserts_restoring (by exact hs), pollsHeld_supplyWritten]
    exact ⟨_, rfl, rfl, rfl, (fun h => nomatch h), fun _ => rfl, (fun h => nomatch h)⟩
  | shed =>
    rw [shedAsserts_shed (by exact hs), pollsHeld_supplyWritten]
    exact ⟨_, rfl, rfl, hs, (fun h => nomatch h), (fun h => nomatch h), fun _ => rfl⟩

/-- SHED is deasserted (spec 03, R50, R51). -/
theorem shedDeasserted_edge (hreset : s.inReset = false) :
    ∃ t, exec .shedDeasserted s = .next t ∧
      t.shedLine = false ∧
        (s.supply.state = .shed → s.settings.restoreDelay ≠ 0 →
          t = { s with
            shedLine := false
            supply := { s.supply with state := .restoring, restoreFrom := some s.time } }) ∧
        (s.supply.state = .shed → s.settings.restoreDelay = 0 →
          t.supply.state = .normal ∧ supplyPosted s t ∧ booksInForce t) ∧
        (s.supply.state ≠ .shed → t = { s with shedLine := false }) := by
  rw [exec_shedDeasserted hreset]
  by_cases hs : s.supply.state = .shed
  · by_cases hd : s.settings.restoreDelay = 0
    · have switched := (switchSupply_switched (state := .normal) (s := { s with shedLine := false })).polled (u := s)
      rw [shedDeasserts_atOnce (by exact hs) (by exact hd)]
      generalize pollsHeld s (switchSupply .normal { s with shedLine := false }) = t at switched ⊢
      exact ⟨t, rfl, switched.shedLine, fun _ h => absurd hd h,
        fun _ _ => ⟨switched.state, switched.posted, switched.books⟩, fun h => absurd hs h⟩
    · rw [shedDeasserts_delayed (by exact hs) (by exact hd), pollsHeld_supplyWritten]
      exact ⟨_, rfl, rfl, fun _ _ => rfl, fun _ h => absurd h hd, fun h => absurd hs h⟩
  · rw [shedDeasserts_other (by exact hs), pollsHeld_supplyWritten]
    exact ⟨_, rfl, rfl, fun h => absurd h hs, fun h => absurd h hs, fun _ => rfl⟩

/-- The restore delay has run (spec 03, R51). -/
theorem restoreDelay_ended (hreset : s.inReset = false) (hs : s.supply.state = .restoring)
    (hm : s.supply.restoreFrom = some m) :
    ∃ t, exec .restoreDelayEnd s = .next t ∧
      t.time = max s.time (m + s.settings.restoreDelay * 1000000) ∧ t.supply.state = .normal ∧
        t.supply.restoreFrom = none ∧ supplyPosted s t ∧ booksInForce t := by
  have due : restoreEnd s = some (m + s.settings.restoreDelay * 1000000) := by
    unfold restoreEnd
    rw [hs, hm]
    rfl
  have ends : restoreDelayEnds s = switchSupply .normal (timeTo (m + s.settings.restoreDelay * 1000000) s) := by
    unfold restoreDelayEnds
    rw [due]
    rfl
  have ran : exec .restoreDelayEnd s = .next (pollsHeld s (restoreDelayEnds s)) := carryOut_outOfReset hreset
  have switched := (switchSupply_switched (state := .normal)
    (s := timeTo (m + s.settings.restoreDelay * 1000000) s)).polled (u := s)
  rw [ran, ends]
  generalize pollsHeld s (switchSupply .normal (timeTo (m + s.settings.restoreDelay * 1000000) s)) = t at switched ⊢
  exact ⟨t, rfl, switched.time, switched.state, switched.restoreFrom, switched.posted, switched.books⟩

/-! ### SET_BUDGET and SET_RESERVE (spec 03, R49, R53) -/

/-- The budgets written, each at most 16,000 (spec 03, R49). -/
def budgetsWritten (normal shed : Option Nat) (s : State) : State :=
  { s with supply := { s.supply with
      normal := (normal.map (min 16000)).getD s.supply.normal
      shed := (shed.map (min 16000)).getD s.supply.shed } }

theorem clampNat_zero {hi : Nat} : clampNat 0 hi = min hi := funext fun _ => Nat.zero_max _

theorem setBudget_eq {normal shed : Option Nat} :
    setBudget normal shed s =
      if effectiveBudget (budgetsWritten normal shed s) = effectiveBudget s then budgetsWritten normal shed s
      else supplyChanged true (budgetsWritten normal shed s) := by
  unfold setBudget
  rw [clampNat_zero]
  rfl

/-- The reserve written, at most 400 (spec 03, R53). -/
def reserveWritten (units : Nat) (s : State) : State := { s with supply := { s.supply with reserve := min 400 units } }

theorem setReserve_eq {units : Nat} : setReserve units s = supplyChanged false (reserveWritten units s) := by
  unfold setReserve
  rw [clampNat_zero]
  rfl

theorem answered_supply {p : Port} {r : Response} : (pollsHeld s (answerPort p r t)).supply = t.supply :=
  pollsHeld_supply s _

/-- The ports' answers stand outside SUPPLY. -/
theorem answerPort_supplyKind {p q : Port} {r : Response} : ((answerPort p r s).port q).supply = (s.port q).supply := by
  unfold answerPort
  rw [updPort_port]
  split
  case isTrue h => rw [h]
  · rfl

theorem booksInForce.answered {p : Port} {r : Response} (h : booksInForce t) :
    booksInForce (pollsHeld s (answerPort p r t)) :=
  booksInForce.polled (h.aside rfl rfl fun _ => ⟨rfl, rfl⟩)

theorem exec_setBudget {normal shed : Option Nat} (ht : takes .schedule s) :
    exec (.setBudget .schedule normal shed) s =
      .next (pollsHeld s (answerPort .schedule { echo := 3, result := .done, payload := [] } (setBudget normal shed s))) :=
  exec_done (n := noBay) (body := .setBudget normal shed) rfl rfl ht (by decide) rfl

theorem exec_setReserve {units : Nat} (ht : takes .schedule s) :
    exec (.setReserve .schedule units) s =
      .next (pollsHeld s (answerPort .schedule { echo := 4, result := .done, payload := [] } (setReserve units s))) :=
  exec_done (n := noBay) (body := .setReserve units) rfl rfl ht (by decide) rfl

/-- SET_BUDGET (spec 03, R49, R52). -/
theorem setBudget_taken {normal shed : Option Nat} (ht : takes .schedule s) :
    ∃ t, exec (.setBudget .schedule normal shed) s = .next t ∧
      answered .schedule { echo := 3, result := .done, payload := [] } t ∧
        t.supply.normal = (normal.map (min 16000)).getD s.supply.normal ∧
        t.supply.shed = (shed.map (min 16000)).getD s.supply.shed ∧ t.supply.state = s.supply.state ∧
        t.supply.reserve = s.supply.reserve ∧
        (effectiveBudget t = effectiveBudget s →
          t = answerPort .schedule { echo := 3, result := .done, payload := [] } (budgetsWritten normal shed s)) ∧
        (effectiveBudget t ≠ effectiveBudget s → supplyPosted s t ∧ booksInForce t) := by
  refine ⟨_, exec_setBudget ht, answered_polled, ?_⟩
  rw [setBudget_eq]
  split
  case isTrue same =>
    have held : ∀ r, pollsHeld s (answerPort .schedule r (budgetsWritten normal shed s)) =
        answerPort .schedule r (budgetsWritten normal shed s) := fun r => pollsHeld_of_period fun _ => rfl
    rw [held]
    exact ⟨rfl, rfl, rfl, rfl, fun _ => rfl, fun h => absurd same h⟩
  case isFalse moved =>
    have budgets : SameBudgets (budgetsWritten normal shed s) (supplyChanged true (budgetsWritten normal shed s)) :=
      supplyChanged_budgets
    have posted : supplyPosted s (supplyChanged true (budgetsWritten normal shed s)) :=
      supplyChanged_posted (s := budgetsWritten normal shed s)
    have books : booksInForce (supplyChanged true (budgetsWritten normal shed s)) := supplyChanged_inForce
    generalize supplyChanged true (budgetsWritten normal shed s) = y at *
    have answer : ∀ r, SameBudgets (budgetsWritten normal shed s) (pollsHeld s (answerPort .schedule r y)) := fun r =>
      budgets.trans (.of_supply answered_supply)
    refine ⟨(answer _).normal, (answer _).shed, (answer _).state, (answer _).reserve, fun h => ?_, fun _ => ⟨?_, ?_⟩⟩
    · exact absurd ((answer _).effectiveBudget.symm.trans h) moved
    · exact supplyPosted.polled fun q => answerPort_supplyKind.trans (posted q)
    · exact books.answered

/-- SET_RESERVE (spec 03, R53). -/
theorem setReserve_taken {units : Nat} (ht : takes .schedule s) :
    ∃ t, exec (.setReserve .schedule units) s = .next t ∧
      answered .schedule { echo := 4, result := .done, payload := [] } t ∧ t.supply.reserve = min 400 units ∧
        t.supply.normal = s.supply.normal ∧ t.supply.shed = s.supply.shed ∧ t.supply.state = s.supply.state ∧
        supplyNotPosted s t ∧ booksInForce t := by
  refine ⟨_, exec_setReserve ht, answered_polled, ?_⟩
  rw [setReserve_eq]
  have budgets : SameBudgets (reserveWritten units s) (supplyChanged false (reserveWritten units s)) :=
    supplyChanged_budgets
  have quiet : supplyNotPosted s (supplyChanged false (reserveWritten units s)) :=
    supplyChanged_notPosted (s := reserveWritten units s)
  have books : booksInForce (supplyChanged false (reserveWritten units s)) := supplyChanged_inForce
  generalize supplyChanged false (reserveWritten units s) = y at *
  have answer : ∀ r, SameBudgets (reserveWritten units s) (pollsHeld s (answerPort .schedule r y)) := fun r =>
    budgets.trans (.of_supply answered_supply)
  refine ⟨(answer _).reserve, (answer _).normal, (answer _).shed, (answer _).state, fun q => ?_, books.answered⟩
  rw [pollsHeld_port, answerPort_supplyKind]
  exact quiet q

end

/-- Settles O9: each edge by the supply state, a switch of the budget in force as R52 takes it. -/
theorem shedEdgesMoveTheSupplyState : Obligations.ShedEdgesMoveTheSupplyState := by
  unfold Obligations.ShedEdgesMoveTheSupplyState
  exact fun t0 s hreset => ⟨shedAsserted_edge hreset, shedDeasserted_edge hreset, restoreDelay_ended hreset⟩

/-- Settles O10: what is written is clamped, and the effects of R52 leave the books in order. -/
theorem budgetAndReserveAreClampedAndTaken : Obligations.BudgetAndReserveAreClampedAndTaken := by
  unfold Obligations.BudgetAndReserveAreClampedAndTaken
  exact fun normal shed units s ht => ⟨setBudget_taken ht, setReserve_taken ht⟩

end Sys2Proof.Machine
end

section
/-! PROOF. What every operation of the Planner and the allocator keeps of the law of the supply books (spec 03, R52, R54,
R58, R60, R61). -/

namespace Sys2Proof.Machine

section
variable {s t u : State} {b x : Bay}

/-! ### The law -/

namespace Inv.supply

/-- What divides nothing anew keeps the law. -/
theorem settled (h : Inv.supply s) (k : Settled s t) : Inv.supply t := by
  obtain ⟨fit, bays⟩ := h
  refine ⟨k.reserved.fit k.budgets fit, fun x => ⟨k.commanded x (bays x).1, ?_⟩⟩
  rw [k.grants x, heat_of_view k.heats]
  exact (bays x).2

/-- Books in order meet the law: the walk grants no bay more than its demand. -/
theorem of_inForce (h : booksInForce s) : Inv.supply s := by
  obtain ⟨fit, bays⟩ := h
  refine ⟨fit, fun x => ⟨(bays x).2, ?_⟩⟩
  rw [(bays x).1]
  exact recomputedGrant_le_demand

/-- The law reads the allocator's record, its parts of the bays, and the demands. -/
theorem congr (h : Inv.supply s) (hs : t.supply = s.supply)
    (hb : ∀ x, (t.bay x).power = (s.bay x).power ∧ (t.bay x).heat.demand = (s.bay x).heat.demand) : Inv.supply t := by
  obtain ⟨fit, bays⟩ := h
  refine ⟨addsFitting.fit (.inl (by rw [hs])) (.of_supply hs) fit, fun x => ?_⟩
  rw [(hb x).1, (hb x).2]
  exact bays x

/-- A change outside the Planner and the allocator. -/
theorem aside (h : Inv.supply s)
    (hk : t.powersView = s.powersView ∧ t.booksView = s.booksView ∧ t.heatsView = s.heatsView) :
    Inv.supply t := by
  obtain ⟨powers, books, heats⟩ := hk
  exact h.congr books fun x => ⟨power_of_view powers x, by rw [heat_of_view heats]⟩

/-- A change outside the bays and the allocator. -/
theorem beside (h : Inv.supply s) (hb : t.bays = s.bays) (hs : t.supply = s.supply) : Inv.supply t :=
  h.congr hs fun x => by unfold State.bay; rw [hb]; exact ⟨rfl, rfl⟩

/-- A change of a heat record that leaves the demand. -/
theorem heat {f : HeatRec → HeatRec} (h : Inv.supply s) (hf : ∀ r, (f r).demand = r.demand) :
    Inv.supply (updHeat b f s) := by
  refine h.congr rfl fun x => ⟨updHeat_power b x f s, ?_⟩
  rw [updHeat_bay]
  split
  case isTrue hx => rw [hx]; exact hf _
  · rfl

theorem post {e : BayEvent} (h : Inv.supply s) : Inv.supply (post e b s) := h.aside (by simp)

theorem onlyIf {c : Bool} {f : State → State} (h : Inv.supply s) (hf : c = true → Inv.supply (f s)) :
    Inv.supply (onlyIf c f s) := by
  cases c with
  | true => exact hf rfl
  | false => exact h

theorem foldl {α : Type} {l : List α} {f : State → α → State} (hf : ∀ a u, Inv.supply u → Inv.supply (f u a))
    (h : Inv.supply s) : Inv.supply (l.foldl f s) := by
  induction l generalizing s with
  | nil => exact h
  | cons a l ih => exact ih (hf a s h)

theorem forAllBays {f : Bay → State → State} (hf : ∀ b u, Inv.supply u → Inv.supply (f b u)) (h : Inv.supply s) :
    Inv.supply (forAllBays f s) :=
  forAllBays_keeps (P := Inv.supply) hf s h

end Inv.supply

/-! ### The Planner -/

theorem recompute_orderly {starting : Option Bay} (h : Inv.supply s) : Inv.supply (recompute starting s) :=
  .of_inForce (recompute_inForce h.1)

/-- A changed demand is divided anew; until then only the reservations need fit. -/
theorem setDemand_orderly {starting : Option Bay} {demand : Nat} (h : Inv.supply s) :
    Inv.supply (setDemand starting b demand s) := by
  unfold setDemand
  split
  · exact h
  · exact .of_inForce (recompute_inForce h.1)

theorem plan_orderly (h : Inv.supply s) : Inv.supply (plan b s) := by
  unfold plan
  split
  · exact h.heat (by simp)
  · exact h

theorem project_orderly (h : Inv.supply s) : Inv.supply (project b s) := by
  unfold project
  split
  · exact (h.heat (by simp)).onlyIf fun _ => (h.heat (by simp)).post
  · exact h

theorem beginHeating_orderly (h : Inv.supply s) : Inv.supply (beginHeating b s) := by
  have begun : Inv.supply (post .heatStarted b (updHeat b (fun r => { r with state := .heating }) s)) :=
    (h.heat (by simp)).post
  exact (setDemand_orderly begun).heat (by simp)

theorem becomeHolding_orderly (h : Inv.supply s) : Inv.supply (becomeHolding b s) :=
  setDemand_orderly (h.heat (by simp)).post

theorem readyTest_orderly (h : Inv.supply s) : Inv.supply (readyTest b s) := by
  unfold readyTest
  split
  · split
    · exact becomeHolding_orderly h
    · exact project_orderly h
  · exact project_orderly h

theorem fireIfDue_orderly (h : Inv.supply s) : Inv.supply (fireIfDue b s) := by
  unfold fireIfDue
  split
  · split
    · exact readyTest_orderly (beginHeating_orderly h)
    · exact h
  · exact h

theorem replan_orderly (h : Inv.supply s) : Inv.supply (replan b s) := fireIfDue_orderly (plan_orderly h)

theorem judgePlan_orderly (h : Inv.supply s) : Inv.supply (judgePlan b s) := by
  unfold judgePlan
  split
  · exact replan_orderly (h.heat (by simp))
  · exact h

theorem enterOff_orderly (h : Inv.supply s) : Inv.supply (enterOff b s) := judgePlan_orderly (h.heat (by simp))

theorem stoppingToOff_orderly (h : Inv.supply s) : Inv.supply (stoppingToOff b s) := by
  unfold stoppingToOff
  split
  · exact enterOff_orderly h
  · exact h

theorem enterStopping_orderly (h : Inv.supply s) : Inv.supply (enterStopping b s) :=
  stoppingToOff_orderly (setDemand_orderly (h.heat (by simp)))

theorem thermostat_orderly {reading : Int} (h : Inv.supply s) : Inv.supply (thermostat b reading s) := by
  unfold thermostat
  split
  · split
    · exact setDemand_orderly h
    split
    · exact h
    split
    · exact setDemand_orderly h
    · exact project_orderly (beginHeating_orderly h)
  · exact h

theorem thermostatNow_orderly (h : Inv.supply s) : Inv.supply (thermostatNow b s) := by
  unfold thermostatNow
  split
  · exact thermostat_orderly h
  · exact h

theorem actOnReading_orderly (h : Inv.supply s) : Inv.supply (actOnReading b s) := by
  unfold actOnReading
  split
  case h_1 => exact replan_orderly h
  case h_2 => exact readyTest_orderly h
  case h_3 => exact thermostatNow_orderly h
  all_goals exact h

theorem heatDepartureSet_orderly (h : Inv.supply s) : Inv.supply (heatDepartureSet b s) := by
  unfold heatDepartureSet
  split
  case h_1 => exact judgePlan_orderly h
  case h_2 => exact replan_orderly h
  case h_3 => exact readyTest_orderly h
  case h_4 => exact thermostatNow_orderly h
  all_goals exact h

theorem heatWithdrawn_orderly (h : Inv.supply s) : Inv.supply (heatWithdrawn b s) := by
  unfold heatWithdrawn
  split
  case h_1 => exact enterOff_orderly h
  case h_2 => exact enterStopping_orderly h
  case h_3 => exact enterStopping_orderly h
  all_goals exact h

theorem heatLost_orderly {wasPresent : Bool} (h : Inv.supply s) : Inv.supply (heatLost wasPresent b s) := by
  unfold heatLost
  split
  · exact setDemand_orderly ((h.heat (b := b) (by simp)).heat (by simp))
  split
  · exact enterOff_orderly h
  · exact h

theorem heatOutOfService_orderly (h : Inv.supply s) : Inv.supply (heatOutOfService b s) :=
  setDemand_orderly ((h.heat (b := b) (by simp)).heat (by simp))

theorem outsideChanged_orderly (h : Inv.supply s) : Inv.supply (outsideChanged b s) := by
  unfold outsideChanged
  split
  case h_1 => exact replan_orderly h
  case h_2 => exact project_orderly h
  all_goals exact h

theorem copyProfile_orderly {coachType : Nat} (h : Inv.supply s) : Inv.supply (copyProfile b coachType s) := by
  unfold copyProfile
  split
  · exact h.heat (by simp)
  · exact h

theorem heatCleanup_orderly (h : Inv.supply s) : Inv.supply (heatCleanup b s) := by
  have bare : Inv.supply (updHeat b (fun r => { r with profile := none }) s) := h.heat (by simp)
  have stopped := enterStopping_orderly (b := b) bare
  unfold heatCleanup
  refine setDemand_orderly (.heat ?_ (by simp))
  split
  case h_4 => exact enterOff_orderly bare
  case h_5 => exact bare
  case h_6 => exact bare
  all_goals exact stopped

/-! ### The supply -/

/-- The effects of R52 leave the law whatever the books were. -/
theorem supplyChanged_orderly {tellsMasters : Bool} : Inv.supply (supplyChanged tellsMasters s) :=
  .of_inForce supplyChanged_inForce

theorem switchSupply_orderly {state : SupplyState} : Inv.supply (switchSupply state s) := supplyChanged_orderly

/-- RESTORING and SHED have the same budget in force. -/
theorem shedAsserts_orderly (h : Inv.supply s) : Inv.supply (shedAsserts s) := by
  cases hs : s.supply.state with
  | normal => rw [shedAsserts_normal hs]; exact switchSupply_orderly
  | restoring =>
    have reserve : effectiveReserve { s with supply := { s.supply with state := .shed, restoreFrom := none } } =
        effectiveReserve s := by
      simp [effectiveReserve, effectiveBudget, hs]
    rw [shedAsserts_restoring hs]
    obtain ⟨fit, bays⟩ := h
    refine ⟨?_, bays⟩
    rw [reserve]
    exact fit
  | shed => rw [shedAsserts_shed hs]; exact h

theorem shedDeasserts_orderly (h : Inv.supply s) : Inv.supply (shedDeasserts s) := by
  by_cases hs : s.supply.state = .shed
  · by_cases hd : s.settings.restoreDelay = 0
    · rw [shedDeasserts_atOnce hs hd]
      exact switchSupply_orderly
    · have reserve : effectiveReserve
          { s with supply := { s.supply with state := .restoring, restoreFrom := some s.time } } = effectiveReserve s := by
        simp [effectiveReserve, effectiveBudget, hs]
      rw [shedDeasserts_delayed hs hd]
      obtain ⟨fit, bays⟩ := h
      refine ⟨?_, bays⟩
      rw [reserve]
      exact fit
  · rw [shedDeasserts_other hs]
    exact h

/-- A budget written that is not in force, or that stays as it was, leaves the effective reserve. -/
theorem setBudget_orderly {normal shed : Option Nat} (h : Inv.supply s) : Inv.supply (setBudget normal shed s) := by
  obtain ⟨fit, bays⟩ := h
  unfold setBudget
  dsimp only
  split
  case isTrue he =>
    refine ⟨?_, bays⟩
    unfold effectiveReserve
    rw [he]
    exact fit
  · exact supplyChanged_orderly

end

end Sys2Proof.Machine
end

section
/-! PROOF. What the reader visits, the Fault Pool, the contactors and the lamp checks keep of the law of the supply books
(spec 03, R54 to R56, R61 to R66). -/

namespace Sys2Proof.Machine

section
variable {s t : State} {b : Bay} {i : Fin 4}

/-! ### Reservations and visits -/

theorem askVisit_orderly (h : Inv.supply s) : Inv.supply (askVisit s) := h.settled (askVisit_settled .refl)

theorem giveBack_orderly {o : Holder} (h : Inv.supply s) : Inv.supply (giveBack o s) :=
  h.settled (giveBack_settled .refl)

theorem requestPower_orderly {o : Holder} (h : Inv.supply s) : Inv.supply (requestPower o s) :=
  h.settled (requestPower_settled .refl)

theorem placeTail_orderly (h : Inv.supply s) : Inv.supply (placeTail b s) := h.settled (placeTail_settled .refl)

theorem leaveQueues_orderly (h : Inv.supply s) : Inv.supply (leaveQueues b s) := askVisit_orderly (h.beside rfl rfl)

theorem readerResume_orderly (h : Inv.supply s) : Inv.supply (readerResume s) := by
  unfold readerResume
  refine askVisit_orderly ?_
  exact h.aside (by simp; and_intros <;> rfl)

theorem placeIfWanted_orderly (h : Inv.supply s) : Inv.supply (placeIfWanted b s) :=
  h.onlyIf fun _ => placeTail_orderly h

theorem cutVisit_orderly (h : Inv.supply s) : Inv.supply (cutVisit b s) := h.aside (by simp)

theorem endVisitOutside_orderly (h : Inv.supply s) : Inv.supply (endVisitOutside b s) := by
  unfold endVisitOutside
  split
  · exact giveBack_orderly (cutVisit_orderly h)
  · exact h

theorem partingSleep_orderly (h : Inv.supply s) : Inv.supply (partingSleep b s) := h.aside (by simp)

/-- A change of a bay's reader record. -/
theorem Inv.supply.reader {f : ReaderRec → ReaderRec} (h : Inv.supply s) : Inv.supply (updReader b f s) := h.aside (by simp)

theorem readerLost_orderly (h : Inv.supply s) : Inv.supply (readerLost b s) :=
  leaveQueues_orderly (endVisitOutside_orderly h).reader

theorem readerRelease_orderly (h : Inv.supply s) : Inv.supply (readerRelease b s) :=
  leaveQueues_orderly ((endVisitOutside_orderly h).onlyIf fun _ => partingSleep_orderly (endVisitOutside_orderly h))

theorem readerReleaseEnded_orderly (h : Inv.supply s) : Inv.supply (readerReleaseEnded b s) :=
  h.onlyIf fun _ => placeTail_orderly h

theorem readerCleanup_orderly (h : Inv.supply s) : Inv.supply (readerCleanup b s) :=
  leaveQueues_orderly (endVisitOutside_orderly h).reader

theorem readerCleanupInVisit_orderly (h : Inv.supply s) : Inv.supply (readerCleanupInVisit b s) :=
  leaveQueues_orderly h.reader

theorem needsReading_orderly (h : Inv.supply s) : Inv.supply (needsReading b s) := placeTail_orderly h.reader

/-! ### The Fault Pool -/

theorem removeEntries_orderly {unwanted : FaultEntry → Bool} (h : Inv.supply s) :
    Inv.supply (removeEntries b unwanted s) := by
  unfold removeEntries
  dsimp only
  split
  · exact h
  · have counted : ∀ n, Inv.supply { s with freeCount := n } := fun _ => h.beside rfl rfl
    have removed : ∀ u f, Inv.supply u → Inv.supply (judgeLow (updFaults b f u)) := fun _ _ h => h.aside (by simp)
    exact (removed _ _ (counted _)).onlyIf fun _ => readerResume_orderly (removed _ _ (counted _))

/-- A change of a bay's fault record. -/
theorem Inv.supply.faults {f : FaultRec → FaultRec} (h : Inv.supply s) : Inv.supply (updFaults b f s) := h.aside (by simp)

theorem passCompleted_orderly (h : Inv.supply s) : Inv.supply (passCompleted b s) := (removeEntries_orderly h).faults

theorem emptyFaults_orderly (h : Inv.supply s) : Inv.supply (emptyFaults b s) := (removeEntries_orderly h).faults

theorem clearAnswered_orderly {source code : Nat} {a : ClearAnswer} (h : Inv.supply s) :
    Inv.supply (clearAnswered b source code a s) := by
  unfold clearAnswered
  split
  · split
    · split
      · exact removeEntries_orderly h
      · exact h.aside (by simp)
      · exact h.aside (by simp)
    · exact h
  · exact h

theorem handClear_orderly {source code : Nat} (h : Inv.supply s) : Inv.supply (handClear b source code s) := by
  unfold handClear
  dsimp only
  split
  · exact h.reader
  · exact placeTail_orderly h.reader

theorem askClear_orderly {e : FaultEntry} (h : Inv.supply s) : Inv.supply (askClear b e s) := by
  have pending : ∀ f g c, Inv.supply (tellIfBlocks b c f (updEntry b e.source e.code g s)) := fun _ _ _ => h.aside (by simp)
  exact handClear_orderly (pending _ _ _)

/-! ### Contactors -/

/-- A change of the allocator's part of a bay that leaves the grant and the commanded target. -/
theorem Inv.supply.marks {f : PowerRec → PowerRec} (h : Inv.supply s)
    (hf : ∀ p, (f p).grant = p.grant ∧ (f p).commanded = p.commanded) : Inv.supply (updPower b f s) :=
  h.settled (Settled.refl.marks hf)

theorem foundStuck_orderly (h : Inv.supply s) : Inv.supply (foundStuck b s) := by
  have marked : Inv.supply (updPower b (fun p => { p with stuck := true, watch := none }) s) :=
    h.marks fun _ => ⟨rfl, rfl⟩
  unfold foundStuck
  exact marked.aside (by simp)

theorem watchPoll_orderly (h : Inv.supply s) : Inv.supply (watchPoll b s) := by
  unfold watchPoll
  split
  · exact h
  · split
    · exact h.marks fun _ => ⟨rfl, rfl⟩
    split
    · exact h.marks fun _ => ⟨rfl, rfl⟩
    · exact foundStuck_orderly h

theorem judgeStuckMark_orderly (h : Inv.supply s) : Inv.supply (judgeStuckMark b s) :=
  h.onlyIf fun _ => h.marks fun _ => ⟨rfl, rfl⟩

/-- R65: a reduction to the commanded target. -/
theorem reduceExcess_orderly (h : Inv.supply s) : Inv.supply (reduceExcess b s) :=
  h.onlyIf fun _ => h.settled (askReduction_settled .refl id)

theorem allocatorCount_orderly {count : Nat} (h : Inv.supply s) : Inv.supply (allocatorCount b count s) :=
  reduceExcess_orderly (watchPoll_orderly (judgeStuckMark_orderly (h.marks fun _ => ⟨rfl, rfl⟩)))

theorem closedCount_orderly {count : Nat} (h : Inv.supply s) : Inv.supply (closedCount b count s) :=
  stoppingToOff_orderly (allocatorCount_orderly h)

theorem storeCount_orderly {count : Nat} (h : Inv.supply s) : Inv.supply (storeCount b count s) :=
  h.marks fun _ => ⟨rfl, rfl⟩

theorem allocatorLost_orderly (h : Inv.supply s) : Inv.supply (allocatorLost b s) :=
  h.settled (freeIncrease_settled (commandedOff_settled .refl fun _ => ⟨rfl, rfl⟩))

theorem stageOutcome_orderly {increase : Bool} {o : Handed} (h : Inv.supply s) :
    Inv.supply (stageOutcome b increase o s) := h.settled (stageOutcome_settled .refl)

/-! ### Lamp checks -/

theorem stepEnded_orderly (h : Inv.supply s) : Inv.supply (stepEnded b s) := h.settled (stepEnded_settled .refl)

theorem stepBegins_orderly (h : Inv.supply s) : Inv.supply (stepBegins i s) := h.settled (stepBegins_settled .refl)

theorem grantHolder_orderly {o : Holder} (h : Inv.supply s) (hf : fits s o = true) : Inv.supply (grantHolder o s) :=
  h.settled (grantHolder_settled .refl hf)

theorem lampLeft_orderly (h : Inv.supply s) : Inv.supply (lampLeft b s) := h.aside (by simp)

/-- A change of a bay's lamp record. -/
theorem Inv.supply.lamp {f : LampRec → LampRec} (h : Inv.supply s) : Inv.supply (updLamp b f s) := h.aside (by simp)

/-- A change of a slot. -/
theorem Inv.supply.slot {f : Slot → Slot} (h : Inv.supply s) : Inv.supply (updSlot i f s) := h.aside (by simp)

theorem writeDefects_orderly {results : List (LampStep × Band)} (h : Inv.supply s) :
    Inv.supply (writeDefects b results s) := by
  have written : ∀ (r : LampStep × Band) (u : State), Inv.supply u → Inv.supply (offerDefect b r u) :=
    fun _ _ h => h.aside (by simp)
  exact (h.foldl fun _ _ => removeEntries_orderly).foldl written

theorem judgeStale_orderly (h : Inv.supply s) : Inv.supply (judgeStale b s) := h.aside (by simp)

theorem recordResult_orderly {blocking advisory : Nat} (h : Inv.supply s) :
    Inv.supply (recordResult b blocking advisory s) := judgeStale_orderly h.lamp

theorem completeEmpty_orderly (h : Inv.supply s) : Inv.supply (completeEmpty b s) := (recordResult_orderly h).post

theorem freeSlot_orderly (h : Inv.supply s) : Inv.supply (freeSlot i s) := h.aside (by simp)

theorem completeSlot_orderly {c : Slot} (h : Inv.supply s) : Inv.supply (completeSlot i c s) :=
  (giveBack_orderly (lampLeft_orderly (freeSlot_orderly (writeDefects_orderly (recordResult_orderly h))))).post

theorem takeSlot_orderly (h : Inv.supply s) : Inv.supply (takeSlot i b s) := by
  unfold takeSlot
  exact requestPower_orderly (Inv.supply.lamp (h.beside rfl rfl))

theorem takeHead_orderly (h : Inv.supply s) : Inv.supply (takeHead s) := by
  unfold takeHead
  split
  · split
    · exact completeEmpty_orderly (h.beside rfl rfl)
    · exact takeSlot_orderly (h.beside rfl rfl)
  · exact h

theorem takeHeads_orderly {n : Nat} (h : Inv.supply s) : Inv.supply (takeHeads n s) := by
  induction n generalizing s with
  | zero => exact h
  | succ n ih => exact ih (takeHead_orderly h)

theorem takeSlots_orderly (h : Inv.supply s) : Inv.supply (takeSlots s) := takeHeads_orderly h

theorem startCheck_orderly {plan : Nat} (h : Inv.supply s) : Inv.supply (startCheck b plan s) := by
  have told : ∀ (u : State) (r : Reason), Inv.supply u → Inv.supply (clearanceNews b r u) := fun _ _ h => h.aside (by simp)
  have joined : ∀ u, Inv.supply u → Inv.supply (joinLampQueue b u) := fun _ h => h.aside (by simp)
  unfold startCheck
  dsimp only
  split
  · exact completeEmpty_orderly (told _ _ h.lamp)
  · exact takeSlots_orderly (joined _ (told _ _ h.lamp)).lamp

theorem autoCheck_orderly (h : Inv.supply s) : Inv.supply (autoCheck b s) := by
  unfold autoCheck
  split
  · split
    · exact startCheck_orderly h
    · exact h
  · exact h

theorem abortSlot_orderly {c : Slot} (h : Inv.supply s) : Inv.supply (abortSlot i c s) :=
  giveBack_orderly (lampLeft_orderly (freeSlot_orderly (h.onlyIf fun _ => stepEnded_orderly h)))

theorem abortCheck_orderly {check : CheckState} (h : Inv.supply s) : Inv.supply (abortCheck b check s) := by
  unfold abortCheck
  dsimp only
  split
  · split
    · split
      · exact takeSlots_orderly (abortSlot_orderly h.lamp)
      · exact h.lamp
    · exact Inv.supply.beside h.lamp rfl rfl
  · exact h

theorem lampCleanup_orderly (h : Inv.supply s) : Inv.supply (lampCleanup b s) := (abortCheck_orderly h).lamp

theorem askLampOff_orderly (h : Inv.supply s) : Inv.supply (askLampOff b s) := h.aside (by simp)

theorem decideStep_orderly {c : Slot} {st : LampStep} {band : Band} (h : Inv.supply s) :
    Inv.supply (decideStep i c st band s) := by
  have failed : ∀ b u, Inv.supply u → Inv.supply (lampOffFailed b u) := fun _ _ h => h.aside (by simp)
  unfold decideStep
  dsimp only
  split
  · exact takeSlots_orderly (completeSlot_orderly (stepEnded_orderly h.slot))
  split
  · exact askLampOff_orderly (stepEnded_orderly h.slot)
  · exact stepBegins_orderly (failed _ _ (stepEnded_orderly h.slot))

theorem validSample_orderly {c : Slot} {st : LampStep} {reading : Option Nat} (h : Inv.supply s) :
    Inv.supply (validSample i c st reading s) := by
  unfold validSample
  dsimp only
  split
  · exact decideStep_orderly h
  split
  · exact decideStep_orderly h
  · exact h.slot.slot

theorem takeSample_orderly {outcome : Option (Option Nat)} (h : Inv.supply s) : Inv.supply (takeSample i outcome s) := by
  unfold takeSample
  split
  · split
    · split
      · exact h.slot
      · exact validSample_orderly h
    · exact h.slot
    · exact h
  · exact h

theorem sampleOutcome_orderly {wanted : Bool} {o : Handed} {reading : Option Nat} (h : Inv.supply s) :
    Inv.supply (sampleOutcome b wanted o reading s) := by
  unfold sampleOutcome
  split
  · exact takeSample_orderly h
  · exact h

theorem nextStep_orderly (h : Inv.supply s) : Inv.supply (nextStep b s) := by
  unfold nextStep
  split
  · split
    · split
      · exact stepBegins_orderly h
      · exact h
    · exact h
  · exact h

theorem lampOffOutcome_orderly {wanted : Bool} {o : Handed} (h : Inv.supply s) :
    Inv.supply (lampOffOutcome b wanted o s) := by
  have lit : Inv.supply (litAfterOff b o s) := h.aside (by simp)
  exact lit.onlyIf fun _ => nextStep_orderly lit

theorem restartSlot_orderly {n : Nat} (h : Inv.supply s) : Inv.supply (restartSlot n i s) := by
  unfold restartSlot
  split
  · split
    · dsimp only
      split
      · exact completeSlot_orderly h.slot
      · exact h.slot
    · exact h
  · exact h

theorem loadPlan_orderly {n : Nat} {steps : List LampStep} (h : Inv.supply s) : Inv.supply (loadPlan n steps s) := by
  unfold loadPlan
  split
  · exact takeSlots_orderly (.foldl (fun _ _ => restartSlot_orderly) (h.beside rfl rfl))
  · exact h

end

end Sys2Proof.Machine
end

section
/-! PROOF. What the Clearance Unit, the departures and the Bay Table keep of the law of the supply books (spec 03, R52, R54,
R58, R60). -/

namespace Sys2Proof.Machine

section
variable {s t : State} {b : Bay}

/-! ### Records beside the books -/

theorem Inv.supply.table {f : TableRec → TableRec} (h : Inv.supply s) : Inv.supply (updTable b f s) := h.aside (by simp)

theorem Inv.supply.clear {f : ClearRec → ClearRec} (h : Inv.supply s) : Inv.supply (updClear b f s) := h.aside (by simp)

theorem Inv.supply.visit {f : Visit → Visit} (h : Inv.supply s) : Inv.supply (updVisit f s) := h.aside (by simp)

theorem Inv.supply.news {r : Reason} (h : Inv.supply s) : Inv.supply (clearanceNews b r s) := h.aside (by simp)

theorem Inv.supply.poll {p : PollPlan} (h : Inv.supply s) : Inv.supply (setPoll b p s) := h.aside (by simp)

theorem Inv.supply.timeTo {m : Moment} (h : Inv.supply s) : Inv.supply (timeTo m s) := h.beside rfl rfl

/-! ### The Clearance Unit -/

theorem beginRelease_orderly (h : Inv.supply s) : Inv.supply (beginRelease b s) := by
  have released : ∀ u f, Inv.supply u → Inv.supply (postClearance b (stopHeat b (updClear b f u))) :=
    fun _ _ h => h.aside (by simp)
  exact readerRelease_orderly (abortCheck_orderly (heatWithdrawn_orderly (released _ _ h)))

theorem endRelease_orderly {state : ClearState} {reasons : ReasonSet} (h : Inv.supply s) :
    Inv.supply (endRelease b state reasons s) := by
  have ended : ∀ o u, Inv.supply u →
      Inv.supply (postClearance b (disownOpen b (withdrawOpen b (relatchAfter o b u)))) := fun _ _ h => h.aside (by simp)
  exact readerReleaseEnded_orderly (judgePlan_orderly (ended _ _ h.clear))

theorem openOutcome_orderly {o : Handed} (h : Inv.supply s) : Inv.supply (openOutcome b o s) := by
  unfold openOutcome
  split
  · exact h.clear
  · exact endRelease_orderly h.post
  · split
    · exact h.aside (by simp)
    · exact h.aside (by simp)
  · exact h

theorem latchOutcome_orderly {open_ wanted : Bool} {o : Handed} (h : Inv.supply s) :
    Inv.supply (latchOutcome b open_ wanted o s) := by
  unfold latchOutcome
  split
  · split
    · exact openOutcome_orderly h
    · exact h
  · split
    · exact h.aside (by simp)
    · exact h

theorem validityExpires_orderly (h : Inv.supply s) : Inv.supply (validityExpires b s) := h.aside (by simp)

theorem stopLimitExpires_orderly (h : Inv.supply s) : Inv.supply (stopLimitExpires b s) := by
  have marked : Inv.supply
      (updPower b (fun p => { p with stuck := true }) (endRelease b .revoked (only .equipment) s)) :=
    (endRelease_orderly h).marks fun _ => ⟨rfl, rfl⟩
  unfold stopLimitExpires
  exact marked.aside (by simp)

theorem latchLimitExpires_orderly (h : Inv.supply s) : Inv.supply (latchLimitExpires b s) := endRelease_orderly h.post

theorem windowExpires_orderly (h : Inv.supply s) : Inv.supply (windowExpires b s) := endRelease_orderly h

theorem withdrawClearance_orderly (h : Inv.supply s) : Inv.supply (withdrawClearance b s) := by
  unfold withdrawClearance
  split
  · exact endRelease_orderly h
  split
  · exact h
  · exact h.aside (by simp)

theorem clearanceLost_orderly (h : Inv.supply s) : Inv.supply (clearanceLost b s) := by
  unfold clearanceLost
  split
  case h_1 => exact endRelease_orderly h
  case h_2 => exact endRelease_orderly h
  case h_3 => exact h.news
  case h_4 => exact h.news
  all_goals exact h

theorem holdPlaced_orderly (h : Inv.supply s) : Inv.supply (holdPlaced b s) := by
  unfold holdPlaced
  split
  case h_1 => exact endRelease_orderly h
  case h_2 => exact h.news
  case h_3 => exact h.news
  all_goals exact h

theorem clearanceCleanup_orderly (h : Inv.supply s) : Inv.supply (clearanceCleanup b s) := h.aside (by simp)

/-! ### Departures -/

theorem dropDeparture_orderly (h : Inv.supply s) : Inv.supply (dropDeparture b s) := h.aside (by simp)

theorem removeDeparture_orderly (h : Inv.supply s) : Inv.supply (removeDeparture b s) := by
  unfold removeDeparture
  split
  · exact recompute_orderly (dropDeparture_orderly h)
  · exact h

theorem testMismatch_orderly (h : Inv.supply s) : Inv.supply (testMismatch b s) := h.onlyIf fun _ => h.post

theorem judgeOverdue_orderly (h : Inv.supply s) : Inv.supply (judgeOverdue b s) := h.aside (by simp)

theorem replaceDeparture_orderly {d : Departure} (h : Inv.supply s) : Inv.supply (replaceDeparture b d s) := by
  have written : Inv.supply (writeDeparture b d s) := h.aside (by simp)
  exact judgeOverdue_orderly
    (testMismatch_orderly (Inv.supply.news (recompute_orderly (heatDepartureSet_orderly written))))

theorem cancelDeparture_orderly (h : Inv.supply s) : Inv.supply (cancelDeparture b s) :=
  Inv.supply.news (recompute_orderly (heatWithdrawn_orderly (dropDeparture_orderly h)))

/-! ### The Bay Table -/

theorem cleanupReader_orderly {carryVisit : Bool} (h : Inv.supply s) : Inv.supply (cleanupReader carryVisit b s) := by
  unfold cleanupReader
  split
  · exact readerCleanupInVisit_orderly h
  · exact readerCleanup_orderly h

theorem vacancyCleanup_orderly {keepDeparture carryVisit : Bool} (h : Inv.supply s) :
    Inv.supply (vacancyCleanup keepDeparture carryVisit b s) := by
  have unread := cleanupReader_orderly (b := b) (carryVisit := carryVisit) (emptyFaults_orderly (b := b) h)
  have unchecked := lampCleanup_orderly (b := b) (clearanceCleanup_orderly (b := b) unread)
  have unknown : Inv.supply
      (updTable b (fun t => { t with identity := none, lampPlan := none, recovery := false }) _) := unchecked.table
  have cold := heatCleanup_orderly (b := b) unknown
  exact cold.onlyIf fun _ => removeDeparture_orderly cold

theorem departs_orderly {kind : DepartureKind} {keepDeparture carryVisit : Bool} (h : Inv.supply s) :
    Inv.supply (departs kind keepDeparture carryVisit b s) := vacancyCleanup_orderly h.table.post

theorem becomeVacant_orderly (h : Inv.supply s) : Inv.supply (becomeVacant b s) := h.table

theorem becomeArriving_orderly (h : Inv.supply s) : Inv.supply (becomeArriving b s) := by
  have arrived : ∀ f, Inv.supply (updHeat b (fun r => { r with profile := none }) (updTable b f s)) :=
    fun _ => h.table.heat (by simp)
  exact needsReading_orderly (arrived _).post

theorem identified_orderly {i : Identity} (h : Inv.supply s) : Inv.supply (identified b i s) := by
  have present : Inv.supply (becomePresent b (some i) s) := h.table.post
  exact testMismatch_orderly (autoCheck_orderly (judgePlan_orderly (copyProfile_orderly present)))

theorem unidentified_orderly (h : Inv.supply s) : Inv.supply (unidentified b s) := by
  have present : Inv.supply (becomePresent b none s) := h.table.post
  exact testMismatch_orderly (autoCheck_orderly present)

theorem otherCoach_orderly {carryVisit : Bool} (h : Inv.supply s) : Inv.supply (otherCoach carryVisit b s) :=
  (departs_orderly h).post

theorem sameCoach_orderly (h : Inv.supply s) : Inv.supply (sameCoach b s) := by
  have present : ∀ f g, Inv.supply (updReader b g (post .identified b (updTable b f s))) := fun _ _ => h.table.post.reader
  exact testMismatch_orderly (autoCheck_orderly (enterOff_orderly (present _ _)))

theorem takeIdentity_orderly {identity : Option Identity} (h : Inv.supply s) :
    Inv.supply (takeIdentity b identity s) := by
  unfold takeIdentity
  split
  · exact identified_orderly h
  · exact unidentified_orderly h

theorem recoveredIdentity_orderly {identity : Option Identity} (h : Inv.supply s) :
    Inv.supply (recoveredIdentity b identity s) := by
  unfold recoveredIdentity
  split
  · split
    · exact sameCoach_orderly h
    · exact takeIdentity_orderly (otherCoach_orderly h)
  · exact takeIdentity_orderly (otherCoach_orderly h)

theorem identityRead_orderly {fleet coachType : Nat} (h : Inv.supply s) :
    Inv.supply (identityRead b fleet coachType s) := by
  unfold identityRead
  split
  · split
    · exact recoveredIdentity_orderly h
    · exact takeIdentity_orderly h
  · exact takeIdentity_orderly h
  all_goals exact h

theorem identityFailed_orderly (h : Inv.supply s) : Inv.supply (identityFailed b s) := by
  unfold identityFailed
  split
  · split
    · exact unidentified_orderly (otherCoach_orderly h).reader
    · exact unidentified_orderly h
  · exact unidentified_orderly h
  all_goals exact h

theorem cleanDeparture_orderly (h : Inv.supply s) : Inv.supply (cleanDeparture b s) :=
  becomeVacant_orderly (departs_orderly h)

theorem unreleasedDeparture_orderly (h : Inv.supply s) : Inv.supply (unreleasedDeparture b s) :=
  becomeVacant_orderly (departs_orderly h)

theorem plugTransition_orderly (h : Inv.supply s) : Inv.supply (plugTransition b s) := by
  unfold plugTransition
  split
  · exact becomeArriving_orderly h
  · exact unreleasedDeparture_orderly h
  · split
    · exact cleanDeparture_orderly h
    · exact unreleasedDeparture_orderly h
  all_goals exact h

theorem tablePoll_orderly {plug : Plug} {latch : Latch} (h : Inv.supply s) :
    Inv.supply (tablePoll b plug latch s) := by
  have stored : Inv.supply (storePolled b plug latch s) := h.table
  unfold tablePoll countPlug
  split
  · split
    · exact plugTransition_orderly stored.table
    · exact stored.table
  · exact stored.table

theorem sweepAnswered_orderly {plug : Plug} {latch : Latch} (h : Inv.supply s) :
    Inv.supply (sweepAnswered b plug latch s) := by
  have stored : ∀ f, Inv.supply (storePolled b plug latch (updTable b f s)) := fun _ => h.table.table
  unfold sweepAnswered
  cases plug
  · exact becomeVacant_orderly (stored _)
  · exact becomeArriving_orderly (stored _)

theorem sweepFailed_orderly (h : Inv.supply s) : Inv.supply (sweepFailed b s) := h.table.post

theorem probeAnswered_orderly {plug : Plug} {latch : Latch} (h : Inv.supply s) :
    Inv.supply (probeAnswered b plug latch s) := by
  have back : Inv.supply (post .nodeBack b (storePolled b plug latch s)) := h.table.post
  unfold probeAnswered
  cases plug
  · unfold probeOut
    dsimp only
    split
    · exact becomeVacant_orderly (departs_orderly back)
    · exact becomeVacant_orderly back
  · unfold probeIn
    dsimp only
    split
    · exact needsReading_orderly back.table
    · exact needsReading_orderly back.table
    · exact becomeArriving_orderly back

theorem bayLost_orderly (h : Inv.supply s) : Inv.supply (bayLost b s) := by
  have lost : Inv.supply (post .nodeLost b (updTable b TableRec.lost s)) := h.table.post
  exact clearanceLost_orderly
    (readerLost_orderly (abortCheck_orderly (heatLost_orderly (allocatorLost_orderly lost))))

theorem entryNotSent_orderly {e : Entry} (h : Inv.supply s) : Inv.supply (entryNotSent b e s) := by
  unfold entryNotSent
  split
  · exact stageOutcome_orderly h
  · exact latchOutcome_orderly h
  · exact sampleOutcome_orderly h
  · exact lampOffOutcome_orderly h
  all_goals exact h

theorem dropPending_orderly (h : Inv.supply s) : Inv.supply (dropPending b s) := by
  have emptied : ∀ f, Inv.supply (updLoop b f s) := fun _ => h.aside (by simp)
  exact (emptied _).foldl fun _ _ => entryNotSent_orderly

theorem becomeOutOfService_orderly (h : Inv.supply s) : Inv.supply (becomeOutOfService b s) := by
  have written : ∀ f p, Inv.supply (setPoll b p (updTable b f (removeDeparture b s))) :=
    fun _ _ => (removeDeparture_orderly h).table.poll
  exact heatOutOfService_orderly (dropPending_orderly (written _ _))

theorem takeOutOfService_orderly (h : Inv.supply s) : Inv.supply (takeOutOfService b s) := by
  unfold takeOutOfService
  split
  · exact h
  split
  · exact becomeOutOfService_orderly (departs_orderly h)
  · exact becomeOutOfService_orderly h

theorem bringIntoService_orderly (h : Inv.supply s) : Inv.supply (bringIntoService b s) := by
  have back : ∀ f, Inv.supply (allocatorLost b (updTable b f s)) := fun _ => allocatorLost_orderly h.table
  unfold bringIntoService
  split
  · exact (back _).poll
  · exact h

theorem setOverride_orderly {o : Option Nat} (h : Inv.supply s) : Inv.supply (setOverride b o s) := by
  have written : ∀ f, Inv.supply (updTable b f s) := fun _ => h.table
  exact (written _).onlyIf fun _ => autoCheck_orderly (written _)

end

end Sys2Proof.Machine
end

section
/-! PROOF. What the visits, the loop's outcomes and the requests keep of the law of the supply books. -/

namespace Sys2Proof.Machine

section
variable {s t : State} {b : Bay}

/-! ### The visit, phase by phase -/

theorem enterPhase_orderly {phase : VisitPhase} {req : LoopReq} (h : Inv.supply s) :
    Inv.supply (enterPhase b phase req s) := by
  have asked : ∀ u, Inv.supply u → Inv.supply (askReader b req u) := fun _ h => h.aside (by simp)
  exact asked _ h.visit

theorem goSleep_orderly (h : Inv.supply s) : Inv.supply (goSleep b s) := enterPhase_orderly h

theorem visitFails_orderly (h : Inv.supply s) : Inv.supply (visitFails b s) := goSleep_orderly h.visit

theorem nextClear_orderly (h : Inv.supply s) : Inv.supply (nextClear b s) := by
  unfold nextClear
  split
  · exact enterPhase_orderly h
  · split
    · exact enterPhase_orderly h
    · exact goSleep_orderly h

theorem afterWake_orderly (h : Inv.supply s) : Inv.supply (afterWake b s) := by
  unfold afterWake
  split
  · exact enterPhase_orderly h
  · exact nextClear_orderly h

theorem fetchOrComplete_orderly (h : Inv.supply s) : Inv.supply (fetchOrComplete b s) := by
  unfold fetchOrComplete
  split
  · exact goSleep_orderly (passCompleted_orderly h).reader.post
  · unfold fetchNext
    split
    · split
      · exact (enterPhase_orderly h).visit
      · exact goSleep_orderly h
    · exact h

theorem clearTaken_orderly {source code : Nat} {a : ClearAnswer} (h : Inv.supply s) :
    Inv.supply (clearTaken b source code a s) := clearAnswered_orderly h.reader

theorem snapshotDone_orderly {count generation : Nat} (h : Inv.supply s) :
    Inv.supply (snapshotDone b count generation s) := by
  have counted : ∀ f, Inv.supply (updReader b f (progress b s)) := fun _ => h.reader.reader
  have begun : ∀ u, Inv.supply u → Inv.supply (passBegun b u) := fun _ h => h.faults
  exact fetchOrComplete_orderly ((counted _).onlyIf fun _ => begun _ (counted _))

theorem fetchedRecord_orderly {o : Offer} (h : Inv.supply s) : Inv.supply (fetchedRecord b o s) := by
  have offered : Inv.supply (offer b o s).1 := h.aside (by simp)
  unfold fetchedRecord
  split <;> rename_i heq <;> rw [heq] at offered
  · exact goSleep_orderly offered.reader.visit
  all_goals exact fetchOrComplete_orderly offered.reader

theorem fetchDone_orderly {o : Offer} {generation : Nat} (h : Inv.supply s) :
    Inv.supply (fetchDone b o generation s) := by
  unfold fetchDone
  dsimp only
  split
  · exact fetchedRecord_orderly h.reader
  · exact enterPhase_orderly h.reader

theorem identDone_orderly {fleet coachType : Nat} (h : Inv.supply s) :
    Inv.supply (identDone b fleet coachType s) := by
  have taken : ∀ f, Inv.supply (updReader b f (progress b s)) := fun _ => h.reader.reader
  exact nextClear_orderly (identityRead_orderly (taken _)).reader

theorem visitsExhausted_orderly (h : Inv.supply s) : Inv.supply (visitsExhausted b s) := by
  have dropped : ∀ u, Inv.supply u → Inv.supply (dropClears b u) := fun _ h => h.foldl fun _ _ => clearTaken_orderly
  exact (dropped _ h.reader).onlyIf fun _ => identityFailed_orderly (dropped _ h.reader)

theorem failedVisitEnds_orderly (h : Inv.supply s) : Inv.supply (failedVisitEnds b s) := by
  unfold failedVisitEnds
  split
  · exact placeIfWanted_orderly h.reader
  · exact visitsExhausted_orderly h

theorem suspendedVisitEnds_orderly (h : Inv.supply s) : Inv.supply (suspendedVisitEnds b s) := by
  unfold suspendedVisitEnds
  split
  · exact h.beside rfl rfl
  · exact placeTail_orderly h

theorem visitEnds_orderly {v : Visit} (h : Inv.supply s) : Inv.supply (visitEnds v s) := by
  have left : Inv.supply (giveBack .reader { s with visit := none }) := giveBack_orderly (h.beside rfl rfl)
  unfold visitEnds
  refine askVisit_orderly ?_
  split
  · exact failedVisitEnds_orderly left
  · split
    · exact suspendedVisitEnds_orderly left
    · exact placeIfWanted_orderly left

theorem readerNotDone_orderly {req : LoopReq} {v : Visit} (h : Inv.supply s) :
    Inv.supply (readerNotDone b req v s) := by
  unfold readerNotDone
  split
  · exact visitEnds_orderly h
  · exact visitFails_orderly h

theorem readerDone_orderly {req : LoopReq} {reply : ReaderReply} {v : Visit} (h : Inv.supply s) :
    Inv.supply (readerDone b req reply v s) := by
  unfold readerDone
  split
  · exact h.visit
  · exact identDone_orderly h
  · exact nextClear_orderly (clearTaken_orderly h.reader)
  · exact snapshotDone_orderly h
  · exact fetchDone_orderly h
  · exact visitEnds_orderly h
  · exact h

theorem visitOutcome_orderly {req : LoopReq} {o : Handed} {reply : ReaderReply} {v : Visit} (h : Inv.supply s) :
    Inv.supply (visitOutcome b req o reply v s) := by
  cases o
  · exact readerDone_orderly h
  · exact readerNotDone_orderly h
  · exact readerNotDone_orderly h
  · exact h

theorem lateOutcome_orderly {req : LoopReq} {o : Handed} {reply : ReaderReply} (h : Inv.supply s) :
    Inv.supply (lateOutcome b req o reply s) := by
  unfold lateOutcome
  split
  · exact clearTaken_orderly h
  · exact h

theorem readerOutcome_orderly {req : LoopReq} {wanted : Bool} {o : Handed} {reply : ReaderReply} (h : Inv.supply s) :
    Inv.supply (readerOutcome b req wanted o reply s) := by
  unfold readerOutcome
  split
  · split
    · exact visitOutcome_orderly h
    · exact lateOutcome_orderly h
  · exact lateOutcome_orderly h

theorem bridgeReported_orderly {bridge : Bridge} (h : Inv.supply s) : Inv.supply (bridgeReported b bridge s) := by
  unfold bridgeReported
  split
  · split
    · cases bridge
      · exact visitFails_orderly h
      · exact visitFails_orderly h
      · exact afterWake_orderly h
      · exact visitFails_orderly h
    · exact h
  · exact h

/-! ### Outcomes of the loop -/

theorem pollContents_orderly {r : PollReply} (h : Inv.supply s) : Inv.supply (pollContents b r s) := by
  have read : Inv.supply (cabinReading b r.cabin s) := by
    unfold cabinReading
    exact actOnReading_orderly (h.heat (by simp))
  have bridged : Inv.supply (bridgeReported b r.bridge (closedCount b r.closed (cabinReading b r.cabin s))) :=
    bridgeReported_orderly (closedCount_orderly read)
  unfold pollContents
  exact bridged.aside (by simp)

theorem pollEnded_orderly (h : Inv.supply s) : Inv.supply (pollEnded b s) := h.aside (by simp)

theorem pollDone_orderly {r : PollReply} (h : Inv.supply s) : Inv.supply (pollDone b r s) := by
  have taken : ∀ u, Inv.supply u → Inv.supply (pollEnded b (pollContents b r u)) := fun _ h =>
    pollEnded_orderly (pollContents_orderly h)
  unfold pollDone
  split
  case h_1 => exact pollEnded_orderly h
  case h_2 =>
    split
    · exact taken _ (probeAnswered_orderly (storeCount_orderly h))
    · exact taken _ (sweepAnswered_orderly (storeCount_orderly h))
  all_goals exact taken _ (tablePoll_orderly h)

theorem pollFailed_orderly (h : Inv.supply s) : Inv.supply (pollFailed b s) := by
  unfold pollFailed
  split
  case h_1 =>
    split
    · exact pollEnded_orderly h
    · exact pollEnded_orderly (sweepFailed_orderly h)
  all_goals exact pollEnded_orderly h

theorem ownerOutcome_orderly {e : Entry} {o : Handed} {c : Contents} (h : Inv.supply s) :
    Inv.supply (ownerOutcome b e o c s) := by
  unfold ownerOutcome
  split
  · unfold pollOutcome
    split
    · exact pollDone_orderly h
    all_goals exact pollFailed_orderly h
  · exact stageOutcome_orderly h
  · exact latchOutcome_orderly h
  · exact sampleOutcome_orderly h
  · exact lampOffOutcome_orderly h
  all_goals exact readerOutcome_orderly h

/-- A change of a bay's part of the loop. -/
theorem Inv.supply.loop {f : LoopRec → LoopRec} (h : Inv.supply s) : Inv.supply (updLoop b f s) := h.aside (by simp)

theorem Inv.supply.lane {sort : LoopSort} {f : Lane → Lane} (h : Inv.supply s) : Inv.supply (updLane b sort f s) :=
  h.aside (by simp)

theorem busyReply_orderly {e : Entry} (h : Inv.supply s) : Inv.supply (busyReply b e s) := by
  have freed : ∀ c, Inv.supply (onlyIf c (freeIncrease b) s) := fun _ =>
    h.onlyIf fun _ => h.settled (freeIncrease_settled .refl)
  unfold busyReply
  dsimp only
  split
  · exact ownerOutcome_orderly h
  · exact (freed _).lane

theorem leaveLine_orderly (h : Inv.supply s) : Inv.supply (leaveLine s) := h.beside rfl rfl

theorem clearFailures_orderly (h : Inv.supply s) : Inv.supply (clearFailures b s) := h.loop

theorem goodReply_orderly {l : OnLine} {good : Good} (h : Inv.supply s) : Inv.supply (goodReply l good s) := by
  have free : Inv.supply (clearFailures l.bay (leaveLine s)) := clearFailures_orderly (leaveLine_orderly h)
  unfold goodReply
  cases good
  · exact ownerOutcome_orderly free
  · exact busyReply_orderly free
  · exact ownerOutcome_orderly free

theorem nodeLost_orderly {e : Entry} (h : Inv.supply s) : Inv.supply (nodeLost b e s) := by
  have lost : Inv.supply (setPoll b (.probe (s.time + probePeriod)) (bayLost b (clearFailures b s))) :=
    (bayLost_orderly (clearFailures_orderly h)).poll
  exact dropPending_orderly (ownerOutcome_orderly lost)

theorem countedFailure_orderly {l : OnLine} (h : Inv.supply s) : Inv.supply (countedFailure l s) := by
  have free := leaveLine_orderly h
  unfold countedFailure
  dsimp only
  split
  · split
    · exact ownerOutcome_orderly free.loop
    · exact nodeLost_orderly free
  · exact ownerOutcome_orderly free

theorem attemptFails_orderly {l : OnLine} (h : Inv.supply s) : Inv.supply (attemptFails l s) := by
  unfold attemptFails
  split
  · exact h.beside rfl rfl
  · exact countedFailure_orderly h

theorem noReply_orderly {l : OnLine} (h : Inv.supply s) : Inv.supply (noReply l s) := attemptFails_orderly h.timeTo

theorem heard_orderly {bytes : List Byte} (h : Inv.supply s) : Inv.supply (heard bytes s) := by
  unfold heard
  split
  · split
    · exact h
    · unfold judgeReply
      split
      · split
        · exact goodReply_orderly h.timeTo
        · exact attemptFails_orderly h.timeTo
      · exact noReply_orderly h
  · exact h

theorem timesOut_orderly (h : Inv.supply s) : Inv.supply (timesOut s) := by
  unfold timesOut
  split
  · split
    · exact h
    · exact noReply_orderly h
  · exact h

theorem quietEnds_orderly (h : Inv.supply s) : Inv.supply (quietEnds s) := by
  unfold quietEnds
  split
  · split
    · exact h.beside rfl rfl
    · exact h
  · exact h

theorem busyWaitEnds_orderly {sort : LoopSort} (h : Inv.supply s) : Inv.supply (busyWaitEnds b sort s) := by
  unfold busyWaitEnds
  split
  · split
    · exact h.timeTo.lane
    · exact h
  · exact h

theorem busyPersists_orderly {sort : LoopSort} (h : Inv.supply s) : Inv.supply (busyPersists b sort s) := by
  unfold busyPersists
  split
  · split
    · exact ownerOutcome_orderly h.timeTo.lane
    · exact h
  · exact h

theorem arbiterChooses_orderly (h : Inv.supply s) : Inv.supply (arbiterChooses s) := by
  have judged : Inv.supply (promotionsJudged s) := h.aside (by simp)
  unfold arbiterChooses
  split
  · unfold takeChoice
    split
    · exact judged.aside (by simp)
    · exact judged
  · exact h

theorem stageIncrease_orderly (h : Inv.supply s) : Inv.supply (stageIncrease s) := h.settled (stageIncrease_settled .refl)

end

end Sys2Proof.Machine
end

section
/-! PROOF. Every request, every event of the part's own and every command keeps the law of the supply books (spec 03, R52,
R54, R56, R58, R60, R61). -/

namespace Sys2Proof.Machine

section
variable {s t : State} {b : Bay}

/-! ### The minute and the settings -/

theorem minuteTold_orderly (h : Inv.supply s) : Inv.supply (minuteTold s) := by
  have overdue : Inv.supply (forAllBays judgeOverdue s) := h.forAllBays fun _ _ => judgeOverdue_orderly
  have fired := overdue.forAllBays (f := fireIfDue) fun _ _ => fireIfDue_orderly
  have expired : Inv.supply (forAllBays expireDeferrals (forAllBays fireIfDue (forAllBays judgeOverdue s))) :=
    fired.aside (by simp)
  exact expired.forAllBays fun _ _ => judgeStale_orderly

theorem advanceMinute_orderly (h : Inv.supply s) : Inv.supply (advanceMinute s) := by
  unfold advanceMinute
  split
  · exact minuteTold_orderly (h.beside rfl rfl)
  · exact h

theorem secondsWrap_orderly (h : Inv.supply s) : Inv.supply (secondsWrap s) := advanceMinute_orderly (h.beside rfl rfl)

theorem secondsPass_orderly {n : Nat} (h : Inv.supply s) : Inv.supply (secondsPass n s) := h.beside rfl rfl

theorem secondsTick_orderly (h : Inv.supply s) : Inv.supply (secondsTick s) := by
  unfold secondsTick
  split
  · exact secondsWrap_orderly (secondsPass_orderly h)
  · exact h.beside rfl rfl

theorem minuteAdvances_orderly (h : Inv.supply s) : Inv.supply (minuteAdvances s) := by
  unfold minuteAdvances
  split
  · exact secondsWrap_orderly (secondsPass_orderly h)
  · exact h

theorem restoreEnds_orderly : Inv.supply (restoreEnds s) := switchSupply_orderly

theorem endRestoreIfDue_orderly (h : Inv.supply s) : Inv.supply (endRestoreIfDue s) :=
  h.onlyIf fun _ => restoreEnds_orderly

theorem endValidityIfDue_orderly (h : Inv.supply s) : Inv.supply (endValidityIfDue b s) :=
  h.onlyIf fun _ => validityExpires_orderly h

theorem endWindowIfDue_orderly (h : Inv.supply s) : Inv.supply (endWindowIfDue b s) :=
  h.onlyIf fun _ => windowExpires_orderly h

theorem applySettings_orderly {p : SettingsPart} (h : Inv.supply s) : Inv.supply (applySettings p s) := by
  have written : Inv.supply (writeSettings p s) := h.beside rfl rfl
  have restored := written.onlyIf (c := p.restoreDelay.isSome) fun _ => endRestoreIfDue_orderly written
  have stale := restored.onlyIf (c := p.lampValidity.isSome) fun _ =>
    restored.forAllBays (f := judgeStale) fun _ _ => judgeStale_orderly
  have lapsed := stale.onlyIf (c := p.clearanceValidity.isSome) fun _ =>
    stale.forAllBays (f := endValidityIfDue) fun _ _ => endValidityIfDue_orderly
  exact lapsed.onlyIf fun _ => lapsed.forAllBays fun _ _ => endWindowIfDue_orderly

/-! ### Requests -/

theorem setOutOfService_orderly {on : Bool} (h : Inv.supply s) : Inv.supply (setOutOfService b on s) := by
  unfold setOutOfService
  split
  · exact takeOutOfService_orderly h
  · exact bringIntoService_orderly h

theorem applyPart_orderly {α : Type} {part : Option α} {f : α → State → State}
    (hf : ∀ v, Inv.supply s → Inv.supply (f v s)) (h : Inv.supply s) : Inv.supply (applyPart part f s) := by
  cases part with
  | none => exact h
  | some v => exact hf v h

theorem applyConfiguration_orderly {oos : Option Bool} {o : Option (Option Nat)} {q : Option Nat} {p : SettingsPart}
    (h : Inv.supply s) : Inv.supply (applyConfiguration b oos o q p s) :=
  applyPart_orderly (fun _ => setOutOfService_orderly)
    (applyPart_orderly (fun _ h => h.faults) (applyPart_orderly (fun _ => setOverride_orderly) (applySettings_orderly h)))

/-- A refusal, or what is done where nothing refuses. -/
theorem answer_orderly {c : Prop} [Decidable c] {r : Result} {a : Answer} (h : Inv.supply s)
    (ha : ¬c → Inv.supply a.state) : Inv.supply (if c then refuse r s else a).state := by
  split
  · exact h
  · exact ha ‹_›

theorem withBay_orderly {n : Nat} {f : Bay → State → Answer} (h : Inv.supply s)
    (hf : ∀ b, Inv.supply (f b s).state) : Inv.supply (withBay n f s).state := by
  unfold withBay
  split
  · exact hf _
  · exact h

theorem withoutBayField_orderly {n : Nat} {f : State → Answer} (h : Inv.supply s) (hf : Inv.supply (f s).state) :
    Inv.supply (withoutBayField n f s).state := by
  unfold withoutBayField
  split
  · exact hf
  · exact h

/-- What is done, with or without a payload. -/
theorem doneWith_orderly {payload : List Byte} (h : Inv.supply t) : Inv.supply (doneWith payload t).state := h

theorem done_orderly (h : Inv.supply t) : Inv.supply (done t).state := h

theorem takeSetClock_orderly {minute : Nat} (h : Inv.supply s) : Inv.supply (takeSetClock minute s).state := by
  unfold takeSetClock
  split
  · exact h
  · have written : Inv.supply { s with clock := { minute := minute, seconds := 0, isSet := true } } := h.beside rfl rfl
    exact done_orderly (minuteTold_orderly (written.onlyIf fun _ => written.forAllBays fun _ _ => judgePlan_orderly))

theorem takeSetOutside_orderly {temp : Int} (h : Inv.supply s) : Inv.supply (takeSetOutside temp s).state := by
  unfold takeSetOutside
  split
  · exact h
  · have written : Inv.supply { s with outside := temp } := h.beside rfl rfl
    exact done_orderly (written.forAllBays fun _ _ => outsideChanged_orderly)

theorem configureBay_orderly {oos : Option Bool} {o : Option (Option Nat)} {q : Option Nat} {p : SettingsPart}
    (h : Inv.supply s) : Inv.supply (configureBay b oos o q p s).state := by
  unfold configureBay
  split
  · exact h
  split
  · exact h
  split
  · exact h
  · exact applyConfiguration_orderly h

theorem takeLoadProfile_orderly {n : Nat} {p : HeatProfile} (h : Inv.supply s) :
    Inv.supply (takeLoadProfile n p s).state := by
  unfold takeLoadProfile
  split
  · split
    · exact done_orderly (h.beside rfl rfl)
    · exact h
  · exact h

theorem takeLoadPlan_orderly {n : Nat} {steps : List LampStep} (h : Inv.supply s) :
    Inv.supply (takeLoadPlan n steps s).state :=
  answer_orderly h fun _ => answer_orderly h fun _ => done_orderly (loadPlan_orderly h)

theorem takeSetDeparture_orderly {minute : Nat} {target : Int} {expected : Nat} (h : Inv.supply s) :
    Inv.supply (takeSetDeparture b minute target expected s).state := by
  unfold takeSetDeparture
  split
  · exact h
  split
  · exact h
  split
  · exact h
  · exact done_orderly (replaceDeparture_orderly h)

theorem takeCancelDeparture_orderly (h : Inv.supply s) : Inv.supply (takeCancelDeparture b s).state :=
  answer_orderly h fun _ => answer_orderly h fun _ => done_orderly (cancelDeparture_orderly h)

theorem takeRequestClearance_orderly {waive : Bool} (h : Inv.supply s) :
    Inv.supply (takeRequestClearance b waive s).state := by
  have stored : Inv.supply (storeEvaluation b waive s) := h.aside (by simp)
  exact answer_orderly h fun _ => answer_orderly h fun _ => doneWith_orderly stored

theorem takeRelease_orderly (h : Inv.supply s) : Inv.supply (takeRelease b s).state := by
  unfold takeRelease
  split
  · exact done_orderly (beginRelease_orderly h)
  · exact h

theorem takePlaceHold_orderly {tag reason : Nat} (h : Inv.supply s) : Inv.supply (takePlaceHold b tag reason s).state := by
  have placed : ∀ k, Inv.supply (placeHold b k s) := fun _ => holdPlaced_orderly h.clear.post
  exact answer_orderly h fun _ => answer_orderly h fun _ => answer_orderly h fun _ => answer_orderly h fun _ =>
    done_orderly (placed _)

theorem takeLiftHold_orderly {tag : Nat} (h : Inv.supply s) : Inv.supply (takeLiftHold b tag s).state := by
  have lifted : Inv.supply (liftHold b tag s) := h.aside (by simp)
  refine answer_orderly h fun _ => ?_
  split
  · exact done_orderly lifted
  · exact h

theorem takeStartCheck_orderly (h : Inv.supply s) : Inv.supply (takeStartCheck b s).state := by
  unfold takeStartCheck
  split
  · exact answer_orderly h fun _ => answer_orderly h fun _ => done_orderly (startCheck_orderly h)
  · exact h

theorem takeAbortCheck_orderly (h : Inv.supply s) : Inv.supply (takeAbortCheck b s).state := by
  unfold takeAbortCheck
  split
  · exact done_orderly (abortCheck_orderly h)
  · exact h

theorem takeDefer_orderly {source code until_ : Nat} (h : Inv.supply s) :
    Inv.supply (takeDefer b source code until_ s).state := by
  have deferred : ∀ f, Inv.supply (updEntry b source code f s) := fun _ => h.aside (by simp)
  refine answer_orderly h fun _ => answer_orderly h fun _ => ?_
  split
  · exact h
  · exact answer_orderly h fun _ => answer_orderly h fun _ => doneWith_orderly (deferred _)

theorem takeClear_orderly {source code : Nat} (h : Inv.supply s) : Inv.supply (takeClear b source code s).state := by
  refine answer_orderly h fun _ => ?_
  split
  · exact h
  · unfold clearEntry
    split
    · split
      · exact h
      · exact done_orderly (askClear_orderly h)
    · split
      · exact done_orderly (removeEntries_orderly h)
      · exact h

theorem takeReread_orderly (h : Inv.supply s) : Inv.supply (takeReread b s).state := by
  have marked : Inv.supply (rereadMarks b s) := h.reader
  have asked : Inv.supply
      (if visiting s b then updReader b (fun r => { r with state := .reading }) (rereadMarks b s)
       else placeTail b (rereadMarks b s)) := by
    split
    · exact marked.reader
    · exact placeTail_orderly marked
  exact answer_orderly h fun _ => answer_orderly h fun _ => done_orderly (asked.onlyIf fun _ => asked.news)

theorem takeAck_orderly {p : Port} {items : List AckItem} (h : Inv.supply s) : Inv.supply (takeAck p items s).state := by
  unfold takeAck
  split
  · exact done_orderly (h.beside rfl rfl)
  · exact h

theorem takeSetMask_orderly {p : Port} {kinds : Nat} (h : Inv.supply s) : Inv.supply (takeSetMask p kinds s).state := by
  unfold takeSetMask
  split
  · exact done_orderly (h.beside rfl rfl)
  · exact h

theorem takeOutOfSet_orderly {kind bay : Nat} {part : Bool} (h : Inv.supply s) :
    Inv.supply (takeOutOfSet kind part bay s).state := by
  unfold takeOutOfSet withBayOrNone
  split
  · exact withBay_orderly h fun _ => h
  split
  · split
    · exact h
    · exact withBay_orderly h fun _ => h
  · exact withoutBayField_orderly h h

theorem handle_orderly {p : Port} {r : Request} (h : Inv.supply s) : Inv.supply (handle p r s).state := by
  unfold handle
  split
  case h_1 => exact withoutBayField_orderly h (takeSetClock_orderly h)
  case h_2 => exact withoutBayField_orderly h (takeSetOutside_orderly h)
  case h_3 => exact withoutBayField_orderly h (done_orderly (setBudget_orderly h))
  case h_4 => exact withoutBayField_orderly h (done_orderly supplyChanged_orderly)
  case h_5 =>
    unfold withBayOrNone
    split
    · exact answer_orderly h fun _ => doneWith_orderly (applySettings_orderly h)
    · exact withBay_orderly h fun _ => configureBay_orderly h
  case h_6 => exact withoutBayField_orderly h (takeLoadProfile_orderly h)
  case h_7 => exact withoutBayField_orderly h (takeLoadPlan_orderly h)
  case h_8 => exact withBay_orderly h fun _ => takeSetDeparture_orderly h
  case h_9 => exact withBay_orderly h fun _ => takeCancelDeparture_orderly h
  case h_10 => exact withBay_orderly h fun _ => takeRequestClearance_orderly h
  case h_11 => exact withBay_orderly h fun _ => takeRelease_orderly h
  case h_12 => exact withBay_orderly h fun _ => done_orderly (withdrawClearance_orderly h)
  case h_13 => exact withoutBayField_orderly h (answer_orderly h fun _ => h)
  case h_14 => exact withBay_orderly h fun _ => takeStartCheck_orderly h
  case h_15 => exact withBay_orderly h fun _ => takeAbortCheck_orderly h
  case h_16 => exact withBay_orderly h fun _ => answer_orderly h fun _ => h
  case h_17 => exact withBay_orderly h fun _ => takeDefer_orderly h
  case h_18 => exact withBay_orderly h fun _ => takeClear_orderly h
  case h_19 => exact withBay_orderly h fun _ => takeReread_orderly h
  case h_20 => exact withBay_orderly h fun _ => takePlaceHold_orderly h
  case h_21 => exact withBay_orderly h fun _ => takeLiftHold_orderly h
  case h_22 => exact withBay_orderly h fun _ => h
  case h_23 =>
    refine withoutBayField_orderly h ?_
    unfold takeReadSupply
    split <;> exact h
  case h_24 => exact withoutBayField_orderly h h
  case h_25 => exact withoutBayField_orderly h (takeAck_orderly h)
  case h_26 => exact withoutBayField_orderly h (takeSetMask_orderly h)
  case h_27 => exact withoutBayField_orderly h (doneWith_orderly (h.beside rfl rfl))
  case h_28 => exact takeOutOfSet_orderly h

/-! ### Ports -/

theorem Inv.supply.port {p : Port} {f : PortRec → PortRec} (h : Inv.supply s) : Inv.supply (updPort p f s) :=
  h.beside rfl rfl

theorem answerWith_orderly {p : Port} {kind : Nat} {a : Answer} (h : Inv.supply a.state) :
    Inv.supply (answerWith p kind a) := by
  unfold answerWith answerPort
  exact h.port

theorem refused_orderly {p : Port} {kind : Nat} {r : Result} (h : Inv.supply s) :
    Inv.supply (answerWith p kind (refuse r s)) := answerWith_orderly h

theorem takeInWork_orderly {p : Port} (h : Inv.supply s) : Inv.supply (takeInWork p s) := by
  unfold takeInWork
  split
  · exact answerWith_orderly (handle_orderly h)
  · exact h

theorem portRequest_orderly {p : Port} {bay : Nat} {body : Body} (h : Inv.supply s) :
    Inv.supply (portRequest p bay body s) := by
  unfold portRequest
  split
  · exact h
  split
  · split
    · exact takeInWork_orderly h
    · exact h
  · unfold takeRequest
    split
    · exact answerWith_orderly (handle_orderly h)
    · exact refused_orderly h

theorem judgeBody_orderly {p : Port} {kind bay : Nat} {parsed : Parsed} (h : Inv.supply s) :
    Inv.supply (judgeBody p kind bay parsed s) := by
  unfold judgeBody
  split
  · exact refused_orderly h
  split
  · exact refused_orderly h
  split
  · exact refused_orderly h
  · exact h.port

theorem judgeFrame_orderly {p : Port} {bytes : List Byte} (h : Inv.supply s) : Inv.supply (judgeFrame p bytes s) := by
  unfold judgeFrame
  split
  · exact h
  split
  · exact h
  split
  · exact refused_orderly h
  unfold judgeComplete
  split
  · split
    · exact refused_orderly h
    split
    · exact judgeBody_orderly h
    · exact judgeBody_orderly h
  · exact h

theorem chipSelect_orderly {p : Port} {during : Bool} {bytes : List Byte} (h : Inv.supply s) :
    Inv.supply (chipSelect p during bytes s) := by
  have shifted : Inv.supply (shiftOut p bytes.length s) := h.port
  unfold chipSelect
  split
  · exact h
  split
  · exact shifted.onlyIf fun _ => takeInWork_orderly shifted
  · exact judgeFrame_orderly shifted

/-! ### What comes of itself -/

/-- Something that comes at a moment, where there is one. -/
theorem atMoment_orderly {m : Option Moment} {f : State → State} (hf : ∀ u, Inv.supply u → Inv.supply (f u))
    (h : Inv.supply s) : Inv.supply (atMoment m f s) := by
  cases m with
  | none => exact h
  | some k => exact hf _ h.timeTo

theorem shedAsserted_orderly (h : Inv.supply s) : Inv.supply (shedAsserted s) := by
  have noted : Inv.supply { s with shedLine := true } := h.beside rfl rfl
  unfold shedAsserted
  split
  · exact noted
  · exact shedAsserts_orderly noted

theorem shedDeasserted_orderly (h : Inv.supply s) : Inv.supply (shedDeasserted s) := by
  have noted : Inv.supply { s with shedLine := false } := h.beside rfl rfl
  unfold shedDeasserted
  split
  · exact noted
  · exact shedDeasserts_orderly noted

theorem restoreDelayEnds_orderly (h : Inv.supply s) : Inv.supply (restoreDelayEnds s) :=
  atMoment_orderly (fun _ _ => restoreEnds_orderly) h

theorem nodeIsLost_orderly (h : Inv.supply s) : Inv.supply (nodeIsLost b s) := by
  unfold nodeIsLost
  split
  · exact countedFailure_orderly h
  · exact h

theorem arrives_orderly (h : Inv.supply s) : Inv.supply (arrives b s) := by
  unfold arrives
  split
  · exact becomeArriving_orderly h.table
  · exact h

theorem departsCleanly_orderly (h : Inv.supply s) : Inv.supply (departsCleanly b s) := by
  unfold departsCleanly
  split
  · exact cleanDeparture_orderly h.table
  · exact h

theorem departsUnreleased_orderly (h : Inv.supply s) : Inv.supply (departsUnreleased b s) := by
  unfold departsUnreleased
  split
  · exact unreleasedDeparture_orderly h.table
  · exact h

theorem contactorSticks_orderly (h : Inv.supply s) : Inv.supply (contactorSticks b s) := by
  unfold contactorSticks
  split
  · exact foundStuck_orderly h
  · exact h

theorem checkRuns_orderly {i : Fin 4} (h : Inv.supply s) : Inv.supply (checkRuns i s) := by
  unfold checkRuns
  split
  case isTrue hf => exact grantHolder_orderly h (Bool.and_eq_true_iff.mp hf).2
  · exact h

theorem sampleIntervalEnds_orderly {i : Fin 4} (h : Inv.supply s) : Inv.supply (sampleIntervalEnds i s) :=
  atMoment_orderly (fun _ h => h.settled (askSample_settled .refl)) h

theorem offRetried_orderly (h : Inv.supply s) : Inv.supply (offRetried b s) :=
  atMoment_orderly (fun _ => askLampOff_orderly) h

theorem visitStarts_orderly (h : Inv.supply s) : Inv.supply (visitStarts s) := by
  unfold visitStarts
  split
  case isTrue hf => exact grantHolder_orderly h (Bool.and_eq_true_iff.mp hf).2
  · exact h

theorem settleEnds_orderly (h : Inv.supply s) : Inv.supply (settleEnds s) := atMoment_orderly (fun _ h => h.visit) h

theorem visitsLimitReached_orderly (h : Inv.supply s) : Inv.supply (visitsLimitReached s) := by
  unfold visitsLimitReached
  split
  · exact goodReply_orderly h.timeTo
  · exact h

theorem readerResumes_orderly (h : Inv.supply s) : Inv.supply (readerResumes s) := by
  unfold readerResumes
  split
  · exact readerResume_orderly h
  · exact h

theorem stopLimitEnds_orderly (h : Inv.supply s) : Inv.supply (stopLimitEnds b s) :=
  atMoment_orderly (fun _ => stopLimitExpires_orderly) h

theorem latchLimitEnds_orderly (h : Inv.supply s) : Inv.supply (latchLimitEnds b s) :=
  atMoment_orderly (fun _ => latchLimitExpires_orderly) h

theorem windowEnds_orderly (h : Inv.supply s) : Inv.supply (windowEnds b s) :=
  atMoment_orderly (fun _ => windowExpires_orderly) h

theorem relatchRetried_orderly (h : Inv.supply s) : Inv.supply (relatchRetried b s) := by
  have asked : ∀ u, Inv.supply u → Inv.supply (askClose b u) := fun _ h => h.aside (by simp)
  exact atMoment_orderly asked h

theorem validityEnds_orderly (h : Inv.supply s) : Inv.supply (validityEnds b s) :=
  atMoment_orderly (fun _ => validityExpires_orderly) h

theorem lineEnds_orderly (h : Inv.supply s) : Inv.supply (lineEnds s) := by
  unfold lineEnds
  split
  · split
    · exact quietEnds_orderly h
    · exact timesOut_orderly h
  · exact h

/-- An event that comes where its moment has come. -/
theorem whenDue_orderly {m : Option Moment} {f : State → State} (hf : Inv.supply (f s)) (h : whenDue m f s = some t) :
    Inv.supply t := by
  unfold whenDue at h
  split at h
  · exact Option.some.inj h ▸ hf
  · exact absurd h (by simp)

theorem workDue_orderly {p : Port} (hs : Inv.supply s) (h : workDue p s = some t) : Inv.supply t := by
  unfold workDue at h
  split at h
  · exact Option.some.inj h ▸ takeInWork_orderly hs
  · exact absurd h (by simp)

theorem bayEvents_orderly {e : State → Option State} (hs : Inv.supply s) (he : e ∈ bayEvents b) (h : e s = some t) :
    Inv.supply t := by
  simp only [bayEvents, List.mem_cons, List.not_mem_nil, or_false] at he
  obtain rfl | rfl | rfl | rfl | rfl | rfl | rfl | rfl | rfl | rfl := he
  · exact whenDue_orderly (stopLimitEnds_orderly hs) h
  · exact whenDue_orderly (latchLimitEnds_orderly hs) h
  · exact whenDue_orderly (windowEnds_orderly hs) h
  · exact whenDue_orderly (validityEnds_orderly hs) h
  · exact whenDue_orderly (relatchRetried_orderly hs) h
  · exact whenDue_orderly (offRetried_orderly hs) h
  all_goals exact whenDue_orderly (busyPersists_orderly hs) h

theorem arbiterDue_orderly (hs : Inv.supply s) (h : arbiterDue s = some t) : Inv.supply t := by
  unfold arbiterDue at h
  split at h
  · exact Option.some.inj h ▸ arbiterChooses_orderly hs
  · exact absurd h (by simp)

theorem increaseDue_orderly (hs : Inv.supply s) (h : increaseDue s = some t) : Inv.supply t := by
  unfold increaseDue at h
  split at h
  · exact Option.some.inj h ▸ stageIncrease_orderly hs
  · exact absurd h (by simp)

theorem ownEvents_orderly {e : State → Option State} (hs : Inv.supply s) (he : e ∈ ownEvents) (h : e s = some t) :
    Inv.supply t := by
  simp only [ownEvents, List.mem_append, List.mem_cons, List.not_mem_nil, or_false, List.mem_map,
    List.mem_flatMap] at he
  obtain ((first | ⟨i, -, rfl⟩) | ⟨b, -, he⟩) | last := he
  · obtain rfl | rfl | rfl | rfl | rfl | rfl := first
    · exact workDue_orderly hs h
    · exact workDue_orderly hs h
    · exact workDue_orderly hs h
    · exact whenDue_orderly (secondsTick_orderly hs) h
    · exact whenDue_orderly (restoreDelayEnds_orderly hs) h
    · exact whenDue_orderly (settleEnds_orderly hs) h
  · exact whenDue_orderly (sampleIntervalEnds_orderly hs) h
  · exact bayEvents_orderly hs he h
  · obtain rfl | rfl | rfl := last
    · exact whenDue_orderly (lineEnds_orderly hs) h
    · exact arbiterDue_orderly hs h
    · exact increaseDue_orderly hs h

/-! ### Commands -/

/-- The polls that are due move no record of the books. -/
theorem Inv.supply.polled (h : Inv.supply t) : Inv.supply (pollsHeld s t) :=
  h.congr (pollsHeld_supply s t) fun x => ⟨pollsHeld_power s t x, by rw [pollsHeld_heat s t x]⟩

theorem idle_orderly (h : Inv.supply s) : Inv.supply (idle s) := by
  unfold idle
  split
  · exact h
  refine Inv.supply.polled ?_
  cases hd : ownEvents.findSome? fun e => e s with
  | none => exact h.beside rfl rfl
  | some t =>
    obtain ⟨e, he, ht⟩ := List.exists_of_findSome?_eq_some hd
    exact ownEvents_orderly h he ht

/-- Reset leaves no reservation, no grant and no demand. -/
theorem atReset_orderly {inReset shedLine : Bool} {state : SupplyState} {time : Moment} {poll : PollPlan}
    {pending : List Instr} : Inv.supply (State.atReset inReset shedLine state time poll pending) := by
  refine ⟨Nat.zero_le _, fun x => ?_⟩
  have bay : (State.atReset inReset shedLine state time poll pending).bay x = .reset poll := atReset_bay
  rw [bay]
  exact ⟨Nat.le_refl 0, Nat.le_refl 0⟩

theorem resetEnds_orderly (h : Inv.supply s) : Inv.supply (resetEnds s) := by
  unfold resetEnds
  split
  · exact atReset_orderly
  · exact h

theorem carryOut_orderly {f : State → State} (hf : Inv.supply (f s)) (h : carryOut f s = .next t) : Inv.supply t := by
  obtain rfl : pollsHeld s (f s) = t := by simpa [carryOut] using h
  exact hf.polled

/-- A row that comes out of reset alone. -/
theorem carryOutOfReset_orderly {f : State → State} (hf : ∀ u, Inv.supply u → Inv.supply (f u)) (hs : Inv.supply s)
    (h : carryOut (outOfReset f) s = .next t) : Inv.supply t := by
  refine carryOut_orderly ?_ h
  unfold outOfReset
  split
  · exact hs
  · exact hf s hs

/-- A row that stands for no request. -/
theorem exec_orderly_of_none {i : Instr} (hs : Inv.supply s) (hi : requestOf i = none) (h : exec i s = .next t) :
    Inv.supply t := by
  cases i
  case reset => cases h; exact atReset_orderly
  case resetEnd => cases h; exact resetEnds_orderly hs
  case secondsTick => exact carryOutOfReset_orderly (fun _ => secondsTick_orderly) hs h
  case minuteAdvance => exact carryOutOfReset_orderly (fun _ => minuteAdvances_orderly) hs h
  case shedAsserted => exact carryOut_orderly (shedAsserted_orderly hs) h
  case shedDeasserted => exact carryOut_orderly (shedDeasserted_orderly hs) h
  case restoreDelayEnd => exact carryOutOfReset_orderly (fun _ => restoreDelayEnds_orderly) hs h
  case chipSelectPeriod => exact carryOut_orderly (chipSelect_orderly hs) h
  case arbiterChoice => exact carryOutOfReset_orderly (fun _ => arbiterChooses_orderly) hs h
  case pollDue => exact carryOutOfReset_orderly (fun _ => atMoment_orderly fun _ => id) hs h
  case probeDue => exact carryOutOfReset_orderly (fun _ => atMoment_orderly fun _ => id) hs h
  case replyTaken => exact carryOutOfReset_orderly (fun _ => heard_orderly) hs h
  case malformedReply => exact carryOutOfReset_orderly (fun _ => heard_orderly) hs h
  case replyTimeout => exact carryOutOfReset_orderly (fun _ => timesOut_orderly) hs h
  case retryQuietEnd => exact carryOutOfReset_orderly (fun _ => quietEnds_orderly) hs h
  case busyWaitEnd => exact carryOutOfReset_orderly (fun _ => busyWaitEnds_orderly) hs h
  case busyPersistTimeout => exact carryOutOfReset_orderly (fun _ => busyPersists_orderly) hs h
  case nodeLoss => exact carryOutOfReset_orderly (fun _ => nodeIsLost_orderly) hs h
  case arrival => exact carryOutOfReset_orderly (fun _ => arrives_orderly) hs h
  case cleanDeparture => exact carryOutOfReset_orderly (fun _ => departsCleanly_orderly) hs h
  case unreleasedDeparture => exact carryOutOfReset_orderly (fun _ => departsUnreleased_orderly) hs h
  case stageIncrease => exact carryOutOfReset_orderly (fun _ => stageIncrease_orderly) hs h
  case stuckContactor => exact carryOutOfReset_orderly (fun _ => contactorSticks_orderly) hs h
  case lampSlotTaken => exact carryOutOfReset_orderly (fun _ => takeHead_orderly) hs h
  case lampCheckRunning => exact carryOutOfReset_orderly (fun _ => checkRuns_orderly) hs h
  case lampSampleInterval => exact carryOutOfReset_orderly (fun _ => sampleIntervalEnds_orderly) hs h
  case lampOffRetry => exact carryOutOfReset_orderly (fun _ => offRetried_orderly) hs h
  case visitBegin => exact carryOutOfReset_orderly (fun _ => visitStarts_orderly) hs h
  case wakeSettleEnd => exact carryOutOfReset_orderly (fun _ => settleEnds_orderly) hs h
  case failedVisitsLimit => exact carryOutOfReset_orderly (fun _ => visitsLimitReached_orderly) hs h
  case readerResume => exact carryOutOfReset_orderly (fun _ => readerResumes_orderly) hs h
  case stopLimitExpiry => exact carryOutOfReset_orderly (fun _ => stopLimitEnds_orderly) hs h
  case latchLimitExpiry => exact carryOutOfReset_orderly (fun _ => latchLimitEnds_orderly) hs h
  case releaseWindowExpiry => exact carryOutOfReset_orderly (fun _ => windowEnds_orderly) hs h
  case relatchRetry => exact carryOutOfReset_orderly (fun _ => relatchRetried_orderly) hs h
  case clearanceValidityExpiry => exact carryOutOfReset_orderly (fun _ => validityEnds_orderly) hs h
  all_goals exact absurd hi (by simp [requestOf])

theorem exec_orderly {i : Instr} (hs : Inv.supply s) (h : exec i s = .next t) : Inv.supply t := by
  cases hi : requestOf i with
  | none => exact exec_orderly_of_none hs hi h
  | some r =>
    obtain ⟨p, bay, body⟩ := r
    rw [exec_of_requestOf hi] at h
    exact carryOut_orderly (portRequest_orderly hs) h

end

/-- Settles O56: the recompute puts the books in order wherever a demand or the supply has changed, and the rest commands
no bay above its grant and adds no reservation that does not fit. -/
theorem stepKeepsTheSupplyBooks : Obligations.StepKeepsTheSupplyBooks := by
  unfold Obligations.StepKeepsTheSupplyBooks
  intro s t hs h
  unfold step at h
  split at h
  case h_1 rest _ =>
    have dequeued : Inv.supply { s with pending := rest } := hs.beside rfl rfl
    exact exec_orderly dequeued h
  case h_2 =>
    cases h
    exact idle_orderly hs

end Sys2Proof.Machine
end

section
/-! PROOF. SECONDS_TICK: one second of the timebase, and past 59 the minute (spec 03, R46, R48). -/

namespace Sys2Proof.Machine

section
variable {s : State}

/-- The state one second of the timebase later, with a clock. -/
def secondLater (c : ClockRec) (s : State) : State :=
  { s with time := max s.time (s.lastSecond + 1000000), lastSecond := s.lastSecond + 1000000, clock := c }

/-- No poll class looks at the clock. -/
theorem pollsHeld_secondLater {c : ClockRec} : pollsHeld s (secondLater c s) = secondLater c s :=
  pollsHeld_of_period fun _ => rfl

theorem exec_secondsTick (h : s.inReset = false) : exec .secondsTick s = .next (pollsHeld s (secondsTick s)) :=
  carryOut_outOfReset h

theorem secondsTick_counts (h : s.clock.seconds < 59) :
    secondsTick s = secondLater { s.clock with seconds := s.clock.seconds + 1 } s := by
  unfold secondsTick
  rw [if_neg (by omega)]
  rfl

theorem secondsTick_wraps (h : 59 ≤ s.clock.seconds) :
    secondsTick s = advanceMinute (secondLater { s.clock with seconds := 0 } s) := by
  unfold secondsTick
  rw [if_pos h]
  rfl

/-- The minute stands where the clock is not SET or has reached its last minute. -/
theorem secondsTick_stands (h : 59 ≤ s.clock.seconds) (hm : ¬(s.clock.isSet = true ∧ s.clock.minute < 16777215)) :
    secondsTick s = secondLater { s.clock with seconds := 0 } s := by
  rw [secondsTick_wraps h]
  exact if_neg hm

theorem secondsTick_advances (h : 59 ≤ s.clock.seconds) (hset : s.clock.isSet = true)
    (hlow : s.clock.minute < 16777215) :
    secondsTick s = minuteTold (secondLater { minute := s.clock.minute + 1, seconds := 0, isSet := true } s) := by
  rw [secondsTick_wraps h, ← hset]
  exact if_pos ⟨hset, hlow⟩

/-- A told minute leaves the clock and the timebase as they were. -/
theorem minuteTold_clock : (minuteTold s).clock = s.clock ∧ (minuteTold s).time = s.time ∧
    (minuteTold s).lastSecond = s.lastSecond := by
  obtain ⟨frozen, -⟩ := minuteTold_keeps s
  have ⟨_, times, _, _⟩ := frozen
  generalize minuteTold s = t at *
  exact ⟨clock_of_frozen frozen, time_of_frozen frozen, congrArg (·.2) times⟩

end

/-- Settles O6: a second counts below 59, and past it the count wraps and the minute advances where it may. -/
theorem secondsTickCountsAndWraps : Obligations.SecondsTickCountsAndWraps := by
  unfold Obligations.SecondsTickCountsAndWraps
  intro s hreset
  rw [exec_secondsTick hreset]
  obtain hs | hs := Nat.lt_or_ge s.clock.seconds 59
  · rw [secondsTick_counts hs, pollsHeld_secondLater]
    exact ⟨_, rfl, rfl, rfl, fun _ => rfl, fun h => absurd hs h.not_gt, fun h => absurd hs h.not_gt⟩
  by_cases hm : s.clock.isSet = true ∧ s.clock.minute < 16777215
  · obtain ⟨hset, hlow⟩ := hm
    rw [secondsTick_advances hs hset hlow]
    have told := minuteTold_told (s := secondLater { minute := s.clock.minute + 1, seconds := 0, isSet := true } s) rfl
    obtain ⟨clock, time, last⟩ :=
      minuteTold_clock (s := secondLater { minute := s.clock.minute + 1, seconds := 0, isSet := true } s)
    generalize minuteTold (secondLater { minute := s.clock.minute + 1, seconds := 0, isSet := true } s) = t at *
    refine ⟨_, rfl, ?_, ?_, fun h => absurd h hs.not_gt, fun _ h => absurd ⟨hset, hlow⟩ h, fun _ _ _ => ⟨?_, ?_⟩⟩
    · rw [pollsHeld_lastSecond, last]
      rfl
    · rw [pollsHeld_time, time]
      rfl
    · rw [pollsHeld_clock, clock]
      rfl
    · exact minuteIsTold_polled told
  · rw [secondsTick_stands hs hm, pollsHeld_secondLater]
    exact ⟨_, rfl, rfl, rfl, fun h => absurd h hs.not_gt, fun _ _ => rfl, fun _ hset hlow => absurd ⟨hset, hlow⟩ hm⟩

end Sys2Proof.Machine
end

section
/-! PROOF. The beginning of a visit, and the end of its settle time (spec 07, R136, R137, R144; spec 03, R54). -/

namespace Sys2Proof.Machine

section
variable {s t : State} {b x : Bay} {rest : List Bay} {req : LoopReq}

/-- A poll period depends on the bay's record and on whether the bay is visited. -/
theorem pollPeriod_of_bay (h : t.bay x = s.bay x)
    (hv : (t.visit.map Visit.bay == some x) = (s.visit.map Visit.bay == some x)) : pollPeriod t x = pollPeriod s x := by
  have release : inRelease t x = inRelease s x := inRelease_congr (by rw [h])
  have coach : occupied t x = occupied s x := by unfold occupied; rw [h]
  unfold pollPeriod
  rw [classA_eq, classA_eq, h, hv, release, coach]

/-- A bay whose record and class stay is as it was once the due polls are held. -/
theorem pollsHeld_bay_of_period (h : t.bay x = s.bay x) (hp : pollPeriod t x = pollPeriod s x) :
    (pollsHeld s t).bay x = s.bay x := by
  rw [pollsHeld_bay, heldPoll_of_period hp, h]

/-! ### Asking the reader -/

theorem askReader_bay_ne (h : x ≠ b) : (askReader b req s).bay x = s.bay x := by
  unfold askReader
  rw [askReplacing_bay_ne h]
  exact updLoop_bay_ne h _ _

/-- The transaction asked of a reachable bay is pending, with its age from now. -/
theorem askReader_queued (hs : sortOf req = .reader) (hr : reachable s b = true) :
    (laneOf (askReader b req s) b .reader).queued = some (newEntry req s.time) := by
  have reached : reachable (updLane b .reader (fun l => { l with opened := l.opened.map Entry.unwanted }) s) b = true :=
    (reachable_congr (by simp [updLane])).trans hr
  unfold askReader
  rw [askReplacing_reachable reached, hs, laneOf_updLane_self (by decide)]
  rfl

/-! ### The beginning of a visit -/

theorem visitBegins_bay_ne (h : x ≠ b) : (visitBegins b rest s).bay x = s.bay x := by
  unfold visitBegins
  rw [askReader_bay_ne h]
  exact updReader_bay_ne h _ _

theorem visitBegins_reader :
    ((visitBegins b rest s).bay b).reader =
      { (s.bay b).reader with
        state :=
          if (s.bay b).reader.identityWanted || (s.bay b).reader.passWanted then .reading
          else (s.bay b).reader.state } := by
  unfold visitBegins
  rw [reader_of_view askReader_view, updReader_bay_self]
  rfl

theorem visitBegins_wakes (h : reachable s b = true) :
    (laneOf (visitBegins b rest s) b .reader).queued = some (newEntry .wake s.time) := by
  unfold visitBegins
  refine askReader_queued rfl ?_
  rw [reachable_congr (s := s) (by rw [updReader_table]; rfl)]
  exact h

theorem visitBegins_supply : (visitBegins b rest s).supply = s.supply := supply_of_view (by simp)

theorem visitBegins_ports : (visitBegins b rest s).ports = s.ports :=
  have same : (visitBegins b rest s).eventsView = s.eventsView := by simp
  same

/-- A reservation is granted: it ends the list, and its holder waits no longer. -/
theorem addReservation_waits {o : Holder} : waits (addReservation o b s) o = false := by
  simp [waits, addReservation]

theorem exec_visitBegin (hreset : s.inReset = false) (hq : s.readerQueue = b :: rest) (hv : s.visit = none)
    (hr : holdsReservation s .reader = false) (hf : reservedAmount s + 6 ≤ effectiveReserve s) :
    exec .visitBegin s = .next (pollsHeld s (visitBegins b rest (addReservation .reader b s))) := by
  have starts : visitStarts s = visitBegins b rest (addReservation .reader b s) := by
    have fit : fits s .reader = true := decide_eq_true hf
    unfold visitStarts grantHolder
    rw [hv, hr, fit, hq]
    rfl
  have ran : exec .visitBegin s = .next (pollsHeld s (visitStarts s)) := carryOut_outOfReset hreset
  rw [ran, starts]

/-- The moment a settle time ends, no class moves. -/
theorem exec_wakeSettleEnd {v : Visit} {m : Nat} (hreset : s.inReset = false) (hv : s.visit = some v)
    (hp : v.phase = .settle) (hm : v.settleUntil = some m) :
    exec .wakeSettleEnd s =
      .next { s with time := max s.time m, visit := some { v with settleUntil := none } } := by
  have due : settleDue s = some m := by
    unfold settleDue
    rw [hv]
    exact (if_pos hp).trans hm
  have ended : settleEnds s = { s with time := max s.time m, visit := some { v with settleUntil := none } } := by
    unfold settleEnds
    rw [due]
    unfold atMoment updVisit timeTo
    rw [hv]
    rfl
  refine ClassesKept.carried (fun x => ?_) hreset ended
  exact pollPeriod_congr rfl rfl rfl rfl rfl (by rw [hv]; rfl)

end

/-- Settles O51: the head of the queue is visited with WAKE pending, and the settle time ends by itself. -/
theorem visitBeginsWithTheHeadOfTheQueue : Obligations.VisitBeginsWithTheHeadOfTheQueue := by
  unfold Obligations.VisitBeginsWithTheHeadOfTheQueue
  intro b rest v m s hreset
  refine ⟨fun hq hv hr hf => ⟨_, exec_visitBegin hreset hq hv hr hf, ?_⟩, exec_wakeSettleEnd hreset⟩
  obtain ⟨-, ⟨-, tables⟩, ⟨pool, clears⟩, -⟩ := visitBegins_keeps b rest (addReservation .reader b s)
  refine ⟨?queue, ?visit, ?reservations, ?waits, ?reader, fun h => ?wake, ?table, ?faults, ?clear, ?ports, fun x h => ?bay⟩
  case queue => rw [pollsHeld_readerQueue, visitBegins_queue]
  case visit => rw [pollsHeld_visit, visitBegins_visit]; rfl
  case reservations => rw [pollsHeld_supply, visitBegins_supply]; rfl
  case waits =>
    unfold waits
    rw [pollsHeld_supply, visitBegins_supply]
    exact addReservation_waits
  case reader => rw [pollsHeld_reader, visitBegins_reader]; rfl
  case wake => rw [pollsHeld_laneOf]; exact visitBegins_wakes h
  case table => rw [pollsHeld_table, table_of_view tables]; rfl
  case faults => rw [pollsHeld_faults, faults_of_view pool]; rfl
  case clear => rw [pollsHeld_clear, clear_of_view clears]; rfl
  case ports => rw [pollsHeld_ports, visitBegins_ports]; rfl
  case bay =>
    have same : (visitBegins b rest (addReservation .reader b s)).bay x = s.bay x := visitBegins_bay_ne h
    refine pollsHeld_bay_of_period same (pollPeriod_of_bay same ?_)
    rw [visitBegins_visit, hv]
    simp [h.symm]

end Sys2Proof.Machine
end

section
/-! PROOF. STUCK_CONTACTOR: the mark, the record and the news to the clearance (spec 03, R66; spec 06, R123; spec 08,
R161). -/

namespace Sys2Proof.Machine

section
variable {s t u : State} {b x : Bay}

/-! ### What an offer to the Fault Pool reaches -/

/-- The clearance is CLEARED or REVOKED: the states that news of a fault leaves REVOKED. -/
def revocable (s : State) (b : Bay) : Prop := (s.bay b).clear.state = .cleared ∨ (s.bay b).clear.state = .revoked

/-- Something noted at one bay: the other bays are as they were, and a clearance that could be REVOKED can be. -/
structure Noted (b : Bay) (s t : State) : Prop where
  others : ∀ x, x ≠ b → t.bay x = s.bay x
  revocable : revocable s b → revocable t b

namespace Noted

theorem refl : Noted b s s := ⟨fun _ _ => rfl, id⟩

theorem trans (h : Noted b s t) (k : Noted b t u) : Noted b s u :=
  ⟨fun x hx => (k.others x hx).trans (h.others x hx), fun hs => k.revocable (h.revocable hs)⟩

/-- A change of the bay beside its clearance. -/
theorem of_clear (ho : ∀ x, x ≠ b → t.bay x = s.bay x) (hc : (t.bay b).clear = (s.bay b).clear) : Noted b s t :=
  ⟨ho, fun h => by unfold Machine.revocable; rw [hc]; exact h⟩

theorem onlyIf {c : Bool} {f : State → State} (hf : Noted b s (f s)) : Noted b s (onlyIf c f s) := by
  cases c with
  | true => exact hf
  | false => exact refl

theorem post {e : BayEvent} : Noted b s (post e b s) := of_clear (fun _ _ => rfl) rfl

theorem updFaults {f : FaultRec → FaultRec} : Noted b s (updFaults b f s) :=
  of_clear (fun _ h => updFaults_bay_ne h f s) (updFaults_clear ..)

theorem updPower {f : PowerRec → PowerRec} : Noted b s (updPower b f s) :=
  of_clear (fun _ h => updPower_bay_ne h f s) (updPower_clear ..)

/-- A clearance that becomes or stays REVOKED. -/
theorem updClear {f : ClearRec → ClearRec} (hf : (f (s.bay b).clear).state = .revoked) : Noted b s (updClear b f s) :=
  ⟨fun _ h => updClear_bay_ne h f s, fun _ => .inr (by rw [updClear_bay_self]; exact hf)⟩

theorem clearanceNews {r : Reason} : Noted b s (clearanceNews b r s) := by
  unfold Machine.clearanceNews
  split
  case h_1 => exact Noted.trans (updClear (by rfl)) .post
  case h_2 h => exact updClear h
  all_goals exact refl

theorem tellIfBlocks {before after : Bool} : Noted b s (tellIfBlocks b before after s) := .onlyIf .clearanceNews

theorem judgeLow : Noted b s (judgeLow s) := by
  have same : ∀ x, (Machine.judgeLow s).bay x = s.bay x := fun x => by
    unfold Machine.judgeLow
    split
    · split
      · rfl
      · rfl
    · rfl
  exact of_clear (fun x _ => same x) (by rw [same])

end Noted

theorem mergeInto_noted {o : Offer} {e : FaultEntry} : Noted b s (mergeInto b o e s) := by
  have merged : Noted b s (updEntry b o.source o.code (mergeEntry (minuteIfSet s) o) s) := .updFaults
  exact (merged.trans (.onlyIf .post)).trans .tellIfBlocks

theorem makeEntry_noted {o : Offer} : Noted b s (makeEntry b o s) := by
  have counted : Noted b s { s with freeCount := s.freeCount - 1 } := .of_clear (fun _ _ => rfl) rfl
  exact (((counted.trans .updFaults).trans .post).trans .judgeLow).trans .tellIfBlocks

theorem displace_noted {o : Offer} {old : FaultEntry} : Noted b s (displace b o old s) :=
  (Noted.updFaults.trans .post).trans .tellIfBlocks

theorem refuseRecord_noted : Noted b s (refuseRecord b s) := Noted.updFaults.trans (.onlyIf .clearanceNews)

theorem offer_noted {o : Offer} : Noted b s (offer b o s).1 := by
  unfold offer
  split
  · exact mergeInto_noted
  · split
    · split
      · exact makeEntry_noted
      · split
        · exact .refl
        · exact refuseRecord_noted
    · split
      · exact displace_noted
      · exact refuseRecord_noted

/-! ### The stuck contactor -/

/-- The bay marked and EQUIPMENT posted. -/
def stuckMarked (b : Bay) (s : State) : State :=
  post .equipment b (updPower b (fun p => { p with stuck := true, watch := none }) s)

theorem foundStuck_eq :
    foundStuck b s = clearanceNews b .equipment (onlyIf (occupied s b) (recordStuck b) (stuckMarked b s)) := rfl

theorem stuckMarked_noted : Noted b s (stuckMarked b s) := Noted.updPower.trans .post

theorem stuckMarked_faults : ((stuckMarked b s).bay b).faults = (s.bay b).faults :=
  (congrArg BayRec.faults (post_bay ..)).trans (updPower_faults ..)

theorem foundStuck_noted : Noted b s (foundStuck b s) := by
  have recorded : ∀ c y, Noted b y (onlyIf c (recordStuck b) y) := fun _ _ => .onlyIf offer_noted
  rw [foundStuck_eq]
  exact (stuckMarked_noted.trans (recorded _ _)).trans .clearanceNews

/-- News to a clearance that can be REVOKED leaves it so. -/
theorem clearanceNews_revocable {r : Reason} (h : revocable s b) : ((clearanceNews b r s).bay b).clear.state = .revoked := by
  obtain h | h := h
  · exact (clearanceNews_revoked h).1
  · unfold clearanceNews
    rw [h]
    dsimp only
    rw [updClear_bay_self]
    exact h

theorem foundStuck_revoked (h : revocable s b) : ((foundStuck b s).bay b).clear.state = .revoked := by
  have recorded : ∀ c y, Noted b y (onlyIf c (recordStuck b) y) := fun _ _ => .onlyIf offer_noted
  rw [foundStuck_eq]
  exact clearanceNews_revocable ((stuckMarked_noted.trans (recorded _ _)).revocable h)

theorem foundStuck_power :
    ((foundStuck b s).bay b).power = { (s.bay b).power with stuck := true, watch := none } := by
  have marked : ((stuckMarked b s).bay b).power = { (s.bay b).power with stuck := true, watch := none } :=
    (congrArg BayRec.power (post_bay ..)).trans (congrArg BayRec.power (updPower_bay_self ..))
  have kept : (foundStuck b s).powersView = (stuckMarked b s).powersView := by rw [foundStuck_eq]; simp
  rw [power_of_view kept, marked]

theorem foundStuck_announced : announced .equipment b (foundStuck b s) := by
  have posted : announced .equipment b (stuckMarked b s) := announced_post
  have told : Work .none (stuckMarked b s) (foundStuck b s) :=
    clearanceNews_work (Work.refl.onlyIf fun _ => recordStuck_work .refl)
  exact told.announced posted

theorem foundStuck_recorded (h : occupied s b = true) :
    (findEntry (foundStuck b s) b 15 1).isSome = true ∨ ((foundStuck b s).bay b).faults.incomplete = true := by
  have pool : (foundStuck b s).poolView = (recordStuck b (stuckMarked b s)).poolView := by rw [foundStuck_eq, h]; simp
  rw [findEntry_of_view pool, faults_of_view pool]
  exact recordStuck_recorded

theorem foundStuck_unrecorded (h : occupied s b = false) : ((foundStuck b s).bay b).faults = (s.bay b).faults := by
  have pool : (foundStuck b s).poolView = (stuckMarked b s).poolView := by rw [foundStuck_eq, h]; simp
  rw [faults_of_view pool, stuckMarked_faults]

theorem exec_stuckContactor (hreset : s.inReset = false) (hw : (s.bay b).power.watch = some 1)
    (hc : (s.bay b).power.commanded < (s.bay b).power.closed) :
    exec (.stuckContactor b) s = .next (pollsHeld s (foundStuck b s)) := by
  have sticks : contactorSticks b s = foundStuck b s := if_pos ⟨hw, hc⟩
  have ran : exec (.stuckContactor b) s = .next (pollsHeld s (contactorSticks b s)) := carryOut_outOfReset hreset
  rw [ran, sticks]

end

/-- Settles O48: the mark and the event, then the record where a coach stands, then the news to the clearance. -/
theorem stuckContactorIsMarkedAndRecorded : Obligations.StuckContactorIsMarkedAndRecorded := by
  unfold Obligations.StuckContactorIsMarkedAndRecorded
  intro b s hreset hw hc
  have ran := exec_stuckContactor hreset hw hc
  have power := foundStuck_power (s := s) (b := b)
  have posted := foundStuck_announced (s := s) (b := b)
  have recorded := foundStuck_recorded (s := s) (b := b)
  have unrecorded := foundStuck_unrecorded (s := s) (b := b)
  have revoked := foundStuck_revoked (s := s) (b := b)
  obtain ⟨others, -⟩ := foundStuck_noted (s := s) (b := b)
  obtain ⟨frozen, ⟨-, tables⟩, -, readers, -⟩ := foundStuck_keeps b s
  generalize foundStuck b s = t at *
  refine ⟨_, ran, ?_, pollsHeld_announced posted, fun h => ?_, fun h => ?_, fun h => ?_, ?_, fun x => ?_, fun x hx => ?_⟩
  · rw [pollsHeld_power, power]
  · unfold findEntry
    rw [pollsHeld_faults]
    exact recorded h
  · rw [pollsHeld_faults, unrecorded h]
  · rw [pollsHeld_clear, revoked (.inl h)]
  · rw [pollsHeld_time, time_of_frozen frozen]
  · rw [pollsHeld_table, table_of_view tables]
  · refine pollsHeld_bay_of_period (others x hx) (pollPeriod_of_bay (others x hx) ?_)
    rw [visit_of_view readers]

end Sys2Proof.Machine
end

section
/-! PROOF. A lamp slot is taken, and its check runs once its power is granted (spec 05, R100, R101, R103; spec 03, R54). -/

namespace Sys2Proof.Machine

section
variable {s t u : State} {b : Bay} {i : Fin 4} {c : Slot} {st : LampStep}

/-! ### The hold of a lamp step (spec 03, R64) -/

/-- Every bay's lamp-step hold is as it was. -/
def SameHolds (s t : State) : Prop := ∀ x, (t.bay x).power.stepHold = (s.bay x).power.stepHold

namespace SameHolds

theorem refl : SameHolds s s := fun _ => rfl

theorem trans (h : SameHolds s t) (k : SameHolds t u) : SameHolds s u := fun x => (k x).trans (h x)

theorem of_view (h : t.powersView = s.powersView) : SameHolds s t := fun x =>
  congrArg PowerRec.stepHold (power_of_view h x)

theorem updPower {f : PowerRec → PowerRec} (hf : ∀ p, (f p).stepHold = p.stepHold) : SameHolds s (updPower b f s) := by
  intro x
  rw [updPower_bay]
  split
  case isTrue hx => subst hx; exact hf _
  · rfl

theorem onlyIf {c : Bool} {f : State → State} (hf : ∀ u, SameHolds u (f u)) : SameHolds s (onlyIf c f s) := by
  cases c with
  | true => exact hf s
  | false => exact refl

end SameHolds

theorem stageUnqueued_holds {increase : Bool} : SameHolds s (stageUnqueued b increase s) := by
  unfold stageUnqueued
  split
  · exact .updPower fun _ => rfl
  · exact .onlyIf fun _ => .updPower fun _ => rfl

theorem askStage_holds {target : Nat} {increase : Bool} : SameHolds s (askStage b target increase s) := by
  have told : SameHolds s (stageTold b target s) := fun x => by
    by_cases h : x = b
    · rw [h, stageTold_bay]
    · rw [stageTold_bay_ne h]
  have ended : ∀ u, SameHolds u (stageEnded b u) := fun _ => .updPower fun _ => rfl
  unfold askStage
  dsimp only
  split
  · exact told.trans (.of_view (by simp [stageTold]))
  · exact ((told.trans (ended _)).trans stageUnqueued_holds).trans (.onlyIf fun _ => .of_view (by simp))

theorem reduceBay_holds : SameHolds s (reduceBay b s) := by
  have reduced : ∀ u target, SameHolds u (askReduction b target u) := fun u target =>
    (SameHolds.onlyIf (f := freeIncrease b) fun _ => .of_view (by simp)).trans askStage_holds
  exact .onlyIf fun _ => reduced _ _

theorem returnCommanded_holds : SameHolds s (returnCommanded b s) := by
  have closed : SameHolds s (commandClosed b s) := .updPower fun _ => rfl
  unfold returnCommanded
  split
  · exact .refl
  · exact closed.trans reduceBay_holds

theorem stageNotSent_holds {increase : Bool} : SameHolds s (stageNotSent b increase s) := by
  have ended : SameHolds s (stageEnded b s) := .updPower fun _ => rfl
  have freed : SameHolds s (onlyIf increase (freeIncrease b) (stageEnded b s)) :=
    ended.trans (.onlyIf fun _ => .of_view (by simp))
  unfold stageNotSent
  split
  · exact freed.trans (.updPower fun _ => rfl)
  · exact freed.trans (.onlyIf fun _ => returnCommanded_holds)

/-! ### A step begins (spec 05, R103) -/

/-- The Planner and the allocator move no slot and no queue of the lamp checks. -/
theorem Plans.slots (h : Plans s t) : t.slots = s.slots ∧ t.lampQueue = s.lampQueue := by
  induction h with
  | refl => exact ⟨rfl, rfl⟩
  | _ => rename_i ih; exact ih

theorem Plans.waiting (h : Plans s t) : t.supply.waiting = s.supply.waiting := by
  induction h with
  | refl => rfl
  | _ => rename_i ih; exact ih

/-- A lamp step holds its bay's increases; the checks, the slots and the reservations are as they were. -/
structure HoldBegun (b : Bay) (s t : State) : Prop where
  hold : (t.bay b).power.stepHold = true
  lamp : ∃ m, (t.bay b).lamp = { (s.bay b).lamp with latestStage := m }
  slots : t.slots = s.slots
  lampQueue : t.lampQueue = s.lampQueue
  waiting : t.supply.waiting = s.supply.waiting

/-- The hold set, and what the allocator does of it. -/
theorem HoldBegun.of_plans (h : Plans u t) (hh : SameHolds u t) (hold : (u.bay b).power.stepHold = true)
    (hl : (u.bay b).lamp = (s.bay b).lamp) (hs : u.slots = s.slots ∧ u.lampQueue = s.lampQueue ∧ u.supply = s.supply) :
    HoldBegun b s t := by
  obtain ⟨slots, queue, supply⟩ := hs
  obtain ⟨m, lamp⟩ := h.lamp (b := b)
  exact ⟨(hh b).trans hold, ⟨m, by rw [lamp, hl]⟩, h.slots.1.trans slots, h.slots.2.trans queue,
    h.waiting.trans (by rw [supply])⟩

theorem stepBegan_held : HoldBegun b s (stepBegan b s) := by
  have hold : ((updPower b (fun p => { p with stepHold := true }) s).bay b).power.stepHold = true := by
    rw [updPower_bay_self]
  have lamp : ((updPower b (fun p => { p with stepHold := true }) s).bay b).lamp = (s.bay b).lamp := by
    rw [updPower_bay_self]
  unfold stepBegan
  dsimp only
  split
  · refine HoldBegun.of_plans (u := updLane b .stage Lane.dropQueued _) (stageNotSent_plans .refl) stageNotSent_holds ?_
      ?_ ⟨rfl, rfl, rfl⟩
    · exact (congrArg PowerRec.stepHold (updLoop_power ..)).trans hold
    · exact (updLoop_lamp ..).trans lamp
  · exact .of_plans .refl .refl hold lamp ⟨rfl, rfl, rfl⟩

/-- The slot as its step begins. -/
def Slot.began (st : LampStep) (c : Slot) : Slot :=
  { c with phase := .sampling, step := some st, validSamples := 0, lastBand := none, nextAt := none }

/-- A bay's slot has begun a step: it samples, the hold and the lit mark are set, and the sample is pending. -/
structure StepBegun (i : Fin 4) (c : Slot) (st : LampStep) (s t : State) : Prop where
  slot : ∃ d, t.slots[i] = some d ∧ d.bay = c.bay ∧ d.phase = .sampling ∧ d.step = some st
  lampQueue : t.lampQueue = s.lampQueue
  check : (t.bay c.bay).lamp.check = (s.bay c.bay).lamp.check
  number : (t.bay c.bay).lamp.slot = (s.bay c.bay).lamp.slot
  lit : (t.bay c.bay).lamp.lit = true
  hold : (t.bay c.bay).power.stepHold = true
  waiting : t.supply.waiting = s.supply.waiting
  reservations : t.supply.reservations = s.supply.reservations
  queued : reachable s c.bay = true →
    (laneOf t c.bay .lamp).queued = some (newEntry (.lampSample st.circuit st.settle) s.time)

/-- The state in which the sample of a step that begins is asked. -/
def stepHeld (i : Fin 4) (c : Slot) (st : LampStep) (s : State) : State :=
  disownLamp c.bay (stepBegan c.bay (updSlot i (Slot.began st) s))

theorem stepHeld_held : HoldBegun c.bay (updSlot i (Slot.began st) s) (stepHeld i c st s) := by
  have views : (stepHeld i c st s).engineView = (stepBegan c.bay (updSlot i (Slot.began st) s)).engineView ∧
      (stepHeld i c st s).powersView = (stepBegan c.bay (updSlot i (Slot.began st) s)).powersView ∧
      (stepHeld i c st s).booksView = (stepBegan c.bay (updSlot i (Slot.began st) s)).booksView := by
    simp [stepHeld]
  obtain ⟨engine, powers, books⟩ := views
  obtain ⟨hold, lamp, slots, queue, waiting⟩ := stepBegan_held (b := c.bay) (s := updSlot i (Slot.began st) s)
  generalize stepHeld i c st s = y at *
  exact
    { hold := by rw [power_of_view powers]; exact hold
      lamp := by rw [lamp_of_view engine]; exact lamp
      slots := (congrArg (·.2.1) engine).trans slots
      lampQueue := (congrArg (·.1) engine).trans queue
      waiting := (congrArg SupplyRec.waiting (supply_of_view books)).trans waiting }

theorem stepBegins_eq (hc : s.slots[i] = some c) (hst : (planOf s c.plan)[c.stepIndex]? = some st) :
    stepBegins i s = askSample i (stepHeld i c st s) := by
  unfold stepBegins
  rw [hc]
  dsimp only
  rw [hst]
  rfl

theorem askReplacing_lampQueue {req : LoopReq} : (askReplacing b req s).lampQueue = s.lampQueue := by
  unfold askReplacing
  split <;> rfl

theorem stepBegins_begun (hc : s.slots[i] = some c) (hst : (planOf s c.plan)[c.stepIndex]? = some st) :
    StepBegun i c st s (stepBegins i s) := by
  have reservations := stepBegins_reservations (s := s) (i := i)
  have held := stepHeld_held (s := s) (i := i) (c := c) (st := st)
  have records : (stepHeld i c st s).tablesView = s.tablesView ∧ (stepHeld i c st s).timesView = s.timesView := by
    simp [stepHeld]
  rw [stepBegins_eq hc hst] at reservations ⊢
  generalize stepHeld i c st s = y at *
  obtain ⟨hold, ⟨m, lamp⟩, slots, queue, waiting⟩ := held
  obtain ⟨tables, times⟩ := records
  have time : y.time = s.time := congrArg (·.1) times
  have slot : y.slots[i] = some (Slot.began st c) := by
    rw [slots]
    simp [updSlot, hc]
  have reach : reachable y c.bay = reachable s c.bay := reachable_of_tables tables
  have asked := askSample_eq slot (c := Slot.began st c) (st := st) rfl
  have powers : (askSample i y).powersView = y.powersView := by simp
  have books : (askSample i y).booksView = y.booksView := by simp
  have lit : (litState c.bay y).bay c.bay = { y.bay c.bay with lamp := { (y.bay c.bay).lamp with lit := true } } :=
    updLamp_bay_self c.bay _ y
  have lamp' : ((askSample i y).bay c.bay).lamp = { (s.bay c.bay).lamp with latestStage := m, lit := true } := by
    rw [asked, updSlot_bay, askReplacing_lamp]
    refine (congrArg BayRec.lamp lit).trans ?_
    rw [lamp]
    rfl
  exact
    { slot := by
        refine ⟨Slot.sampled y.time (reachable y c.bay) (Slot.began st c), ?_, rfl, rfl, rfl⟩
        rw [asked, updSlot_slots, askReplacing_slots]
        exact (Vector.getElem_set_self i.isLt).trans (congrArg (Option.map _) slot)
      lampQueue := by
        rw [asked]
        exact askReplacing_lampQueue.trans queue
      check := by rw [lamp']
      number := by rw [lamp']
      lit := by rw [lamp']
      hold := by rw [power_of_view powers]; exact hold
      waiting := (congrArg SupplyRec.waiting (supply_of_view books)).trans waiting
      reservations := reservations
      queued := fun hr => by
        have reached : reachable (litState c.bay y) c.bay = true := updLamp_reachable.trans (reach.trans hr)
        rw [asked, ← time]
        exact askReplacing_queued reached (by simp [sortOf]) }

/-! ### Power granted to a slot (spec 03, R54; spec 05, R101) -/

/-- A waiting slot has its reservation, and its check runs. -/
structure CheckGranted (i : Fin 4) (c : Slot) (st : LampStep) (s t : State) : Prop where
  running : (t.bay c.bay).lamp.check = .running
  reservations : t.supply.reservations = s.supply.reservations ++ [{ holder := .slot i, bay := c.bay }]
  waits : waits t (.slot i) = false
  begun : ∃ u, StepBegun i c st u t ∧ u.lampQueue = s.lampQueue ∧ u.time = s.time ∧
    reachable u c.bay = reachable s c.bay ∧ (u.bay c.bay).lamp.slot = (s.bay c.bay).lamp.slot
  records : ∀ x : Bay, (t.bay x).table = (s.bay x).table ∧ (t.bay x).clear = (s.bay x).clear

theorem grantHolder_granted (hc : s.slots[i] = some c) (hst : (planOf s c.plan)[c.stepIndex]? = some st) :
    CheckGranted i c st s (grantHolder (.slot i) s) := by
  obtain ⟨-, ⟨-, tables⟩, ⟨-, clears⟩, -⟩ := grantHolder_keeps (.slot i) s
  have granted : grantHolder (.slot i) s =
      stepBegins i (updLamp c.bay (fun l => { l with check := .running }) (addReservation (.slot i) c.bay s)) := by
    have slot : (addReservation (.slot i) c.bay s).slots[i] = some c := hc
    unfold grantHolder
    dsimp only
    rw [hc]
    dsimp only
    unfold slotGranted
    rw [slot]
  have lamp := updLamp_bay_self c.bay (fun l => { l with check := .running }) (addReservation (.slot i) c.bay s)
  have reach : reachable (updLamp c.bay (fun l => { l with check := .running }) (addReservation (.slot i) c.bay s)) c.bay =
      reachable s c.bay := updLamp_reachable
  have waits' : waits (updLamp c.bay (fun l => { l with check := .running }) (addReservation (.slot i) c.bay s))
      (.slot i) = false := addReservation_waits
  have begun := stepBegins_begun (i := i) (c := c) (st := st)
    (s := updLamp c.bay (fun l => { l with check := .running }) (addReservation (.slot i) c.bay s)) hc hst
  rw [granted] at tables clears ⊢
  refine ⟨?_, begun.reservations, ?_, ⟨_, begun, rfl, rfl, reach, ?_⟩, fun x =>
    ⟨table_of_view tables x, clear_of_view clears x⟩⟩
  · rw [begun.check, lamp]
  · rw [← waits']
    unfold waits
    rw [begun.waiting]
  · rw [lamp]
    rfl

/-! ### LAMP_SLOT_TAKEN and LAMP_CHECK_RUNNING -/

/-- The head of the queue in its slot, before its power is asked. -/
def slotTaken (i : Fin 4) (b : Bay) (rest : List Bay) (s : State) : State :=
  updLamp b (fun l => { l with check := .waitingPower, slot := some i, offRetryAt := none })
    { s with lampQueue := rest, slots := s.slots.set i (some (newSlot b (checkPlan s b))) }

theorem takeHead_eq {rest : List Bay} (hq : s.lampQueue = b :: rest) (hi : freeSlotIn s = some i)
    (hp : planOf s (checkPlan s b) ≠ []) : takeHead s = requestPower (.slot i) (slotTaken i b rest s) := by
  have steps : (planOf s (checkPlan s b)).isEmpty = false := by
    rw [← Bool.not_eq_true, List.isEmpty_iff]
    exact hp
  unfold takeHead
  rw [hq, hi]
  dsimp only
  rw [steps]
  rfl

theorem slotTaken_slot {rest : List Bay} : (slotTaken i b rest s).slots[i] = some (newSlot b (checkPlan s b)) :=
  Vector.getElem_set_self i.isLt

theorem slotTaken_lamp {rest : List Bay} :
    ((slotTaken i b rest s).bay b).lamp =
      { (s.bay b).lamp with check := .waitingPower, slot := some i, offRetryAt := none } := by
  unfold slotTaken
  rw [updLamp_bay_self]
  rfl

theorem slotTaken_records {rest : List Bay} {x : Bay} :
    ((slotTaken i b rest s).bay x).table = (s.bay x).table ∧ ((slotTaken i b rest s).bay x).clear = (s.bay x).clear := by
  unfold slotTaken
  exact ⟨updLamp_table .., updLamp_clear ..⟩

theorem slotTaken_fits {rest : List Bay} :
    fits (slotTaken i b rest s) (.slot i) = decide (reservedAmount s + 8 ≤ effectiveReserve s) := rfl

/-- LAMP_SLOT_TAKEN where the power fits: the check runs. -/
theorem takeHead_granted {rest : List Bay} (hq : s.lampQueue = b :: rest) (hi : freeSlotIn s = some i)
    (hp : planOf s (checkPlan s b) ≠ []) (hf : reservedAmount s + 8 ≤ effectiveReserve s) :
    ∃ st, CheckGranted i (newSlot b (checkPlan s b)) st (slotTaken i b rest s) (takeHead s) := by
  obtain ⟨st, steps, plan⟩ := List.exists_cons_of_ne_nil hp
  have first : (planOf (slotTaken i b rest s) (newSlot b (checkPlan s b)).plan)[(newSlot b (checkPlan s b)).stepIndex]? =
      some st := congrArg (fun l : List LampStep => l[0]?) plan
  have fit : fits (slotTaken i b rest s) (.slot i) = true := slotTaken_fits.trans (decide_eq_true hf)
  rw [takeHead_eq hq hi hp]
  unfold requestPower
  rw [if_pos fit]
  exact ⟨st, grantHolder_granted slotTaken_slot first⟩

/-- LAMP_SLOT_TAKEN where the power does not fit: the slot waits for it. -/
theorem takeHead_waits {rest : List Bay} (hq : s.lampQueue = b :: rest) (hi : freeSlotIn s = some i)
    (hp : planOf s (checkPlan s b) ≠ []) (hf : effectiveReserve s < reservedAmount s + 8) :
    takeHead s = joinWaiting (.slot i) (slotTaken i b rest s) := by
  have full : fits (slotTaken i b rest s) (.slot i) = false := slotTaken_fits.trans (decide_eq_false hf.not_ge)
  rw [takeHead_eq hq hi hp]
  unfold requestPower
  rw [if_neg (by rw [full]; decide)]

theorem joinWaiting_waits {o : Holder} : waits (joinWaiting o s) o = true := by
  unfold joinWaiting
  split
  · assumption
  · simp [waits]

theorem joinWaiting_reservations {o : Holder} : (joinWaiting o s).supply.reservations = s.supply.reservations := by
  unfold joinWaiting
  split <;> rfl

/-- What a slot taken leaves, whether its power fits or not. -/
theorem lampSlot_taken {rest : List Bay} (hreset : s.inReset = false) (hq : s.lampQueue = b :: rest)
    (hi : freeSlotIn s = some i) (hp : planOf s (checkPlan s b) ≠ []) :
    ∃ t, exec .lampSlotTaken s = .next t ∧
      t.lampQueue = rest ∧ (t.slots[i]).map Slot.bay = some b ∧ (t.bay b).lamp.slot = some i ∧
        (reservedAmount s + 8 ≤ effectiveReserve s →
          (t.bay b).lamp.check = .running ∧
            t.supply.reservations = s.supply.reservations ++ [{ holder := .slot i, bay := b }] ∧
            (t.bay b).power.stepHold = true) ∧
        (effectiveReserve s < reservedAmount s + 8 →
          (t.bay b).lamp.check = .waitingPower ∧ waits t (.slot i) = true ∧
            t.supply.reservations = s.supply.reservations) ∧
        ∀ x : Bay, (t.bay x).table = (s.bay x).table ∧ (t.bay x).clear = (s.bay x).clear := by
  have ran : exec .lampSlotTaken s = .next (pollsHeld s (takeHead s)) := carryOut_outOfReset hreset
  refine ⟨_, ran, ?_⟩
  obtain fit | full := Nat.lt_or_ge (effectiveReserve s) (reservedAmount s + 8) |>.symm
  · obtain ⟨st, running, reservations, -, ⟨u, begun, queue, -, -, number⟩, records⟩ := takeHead_granted hq hi hp fit
    obtain ⟨d, slot, bay, -⟩ := begun.slot
    generalize takeHead s = t at *
    refine ⟨?_, ?_, ?_, fun _ => ⟨?_, ?_, ?_⟩, fun h => absurd fit h.not_ge, fun x => ?_⟩
    · rw [pollsHeld_lampQueue, begun.lampQueue, queue]
      rfl
    · rw [pollsHeld_slots, slot]
      exact congrArg some bay
    · rw [pollsHeld_lamp]
      exact begun.number.trans (number.trans (by rw [newSlot, slotTaken_lamp]))
    · rw [pollsHeld_lamp]
      exact running
    · rw [pollsHeld_supply]
      exact reservations
    · rw [pollsHeld_power]
      exact begun.hold
    · rw [pollsHeld_table, pollsHeld_clear, (records x).1, (records x).2]
      exact slotTaken_records
  · have waiting := takeHead_waits hq hi hp full
    obtain ⟨-, ⟨-, tables⟩, ⟨-, clears⟩, engine, -⟩ := joinWaiting_keeps (.slot i) (slotTaken i b rest s)
    have waits' := joinWaiting_waits (o := .slot i) (s := slotTaken i b rest s)
    have reservations := joinWaiting_reservations (o := .slot i) (s := slotTaken i b rest s)
    rw [← waiting] at tables clears engine waits' reservations
    generalize takeHead s = t at *
    have slots : t.slots = (slotTaken i b rest s).slots := congrArg (·.2.1) engine
    refine ⟨?_, ?_, ?_, fun h => absurd h full.not_ge, fun _ => ⟨?_, ?_, ?_⟩, fun x => ?_⟩
    · rw [pollsHeld_lampQueue]
      exact congrArg (·.1) engine
    · rw [pollsHeld_slots, slots, slotTaken_slot]
      rfl
    · rw [pollsHeld_lamp, lamp_of_view engine, slotTaken_lamp]
    · rw [pollsHeld_lamp, lamp_of_view engine, slotTaken_lamp]
    · unfold waits at *
      rw [pollsHeld_supply]
      exact waits'
    · rw [pollsHeld_supply]
      exact reservations
    · rw [pollsHeld_table, pollsHeld_clear, table_of_view tables, clear_of_view clears]
      exact slotTaken_records

theorem exec_lampCheckRunning (hreset : s.inReset = false) (hw : waits s (.slot i) = true)
    (hf : reservedAmount s + 8 ≤ effectiveReserve s) :
    exec (.lampCheckRunning i) s = .next (pollsHeld s (grantHolder (.slot i) s)) := by
  have runs : checkRuns i s = grantHolder (.slot i) s := by
    have fit : fits s (.slot i) = true := decide_eq_true hf
    unfold checkRuns
    rw [hw, fit]
    rfl
  have ran : exec (.lampCheckRunning i) s = .next (pollsHeld s (checkRuns i s)) := carryOut_outOfReset hreset
  rw [ran, runs]

end

/-- Settles O49: the head takes the lowest free slot, and a slot with its power granted is in its step. -/
theorem lampSlotIsTakenAndItsCheckRuns : Obligations.LampSlotIsTakenAndItsCheckRuns := by
  unfold Obligations.LampSlotIsTakenAndItsCheckRuns
  intro b rest i c st s hreset
  refine ⟨lampSlot_taken hreset, fun hw hf hc hst => ⟨_, exec_lampCheckRunning hreset hw hf, ?_⟩⟩
  obtain ⟨running, reservations, waits', ⟨u, begun, -, time, reach, -⟩, records⟩ := grantHolder_granted hc hst
  obtain ⟨d, slot, -, phase, step⟩ := begun.slot
  generalize grantHolder (.slot i) s = t at *
  refine ⟨?_, ?_, ?_, ?_, ?_, ?_, ?_, fun hr => ?_, fun x => ?_⟩
  · rw [pollsHeld_lamp, running]
  · unfold waits at *
    rw [pollsHeld_supply, waits']
  · rw [pollsHeld_supply, reservations]
  · rw [pollsHeld_slots, slot]
    exact congrArg some phase
  · rw [pollsHeld_slots, slot]
    exact congrArg some step
  · rw [pollsHeld_power, begun.hold]
  · rw [pollsHeld_lamp, begun.lit]
  · rw [pollsHeld_laneOf, begun.queued (reach.trans hr), time]
  · rw [pollsHeld_table, pollsHeld_clear]
    exact records x

end Sys2Proof.Machine
end

section
/-! PROOF. The depot's settings: each clamped, and no running timer left past its new end (spec 03, R51; spec 05, R95; spec
08, R160; spec 09, R176 to R178). -/

namespace Sys2Proof.Machine

section
variable {s t u : State} {b x : Bay} {f : SettingsPart}

/-! ### What asks the reader's power leaves the lamps -/

theorem askVisit_engine : (askVisit s).engineView = s.engineView := by
  have begun : ∀ b rest, (visitBegins b rest (addReservation .reader b s)).engineView = s.engineView := fun b rest => by
    simp
  unfold askVisit
  split
  · simp
  · split
    · rfl
    · unfold requestPower
      split
      · unfold grantHolder
        dsimp only
        split
        · exact begun _ _
        · rfl
      · simp
  · rfl

theorem placeTail_engine : (placeTail b s).engineView = s.engineView := by
  have queued : ∀ y : State, (markQueued b y).engineView = y.engineView := fun y => by simp
  unfold placeTail
  split
  · split
    · exact askVisit_engine.trans (queued _)
    · exact askVisit_engine.trans (queued _)
  · rfl

theorem readerReleaseEnded_engine : (readerReleaseEnded b s).engineView = s.engineView := by
  unfold readerReleaseEnded onlyIf
  split
  · exact placeTail_engine
  · rfl

/-! ### What the end of one bay's timer reaches -/

/-- What has come of one bay's clearance: the clearances of the other bays, the lamp results, the budgets, the clock,
the settings and the time are as they were. -/
structure TimerEnded (b : Bay) (s t : State) : Prop where
  clears : ∀ x, x ≠ b → (t.bay x).clear = (s.bay x).clear
  lamps : ∀ x, ∃ m, (t.bay x).lamp = { (s.bay x).lamp with latestStage := m }
  budgets : SameBudgets s t
  clock : t.clock = s.clock
  settings : t.settings = s.settings
  time : t.time = s.time

namespace TimerEnded

theorem refl : TimerEnded b s s := ⟨fun _ _ => rfl, fun _ => ⟨_, rfl⟩, .refl, rfl, rfl, rfl⟩

theorem of_frozen (hf : Frozen s t) (hc : ∀ x, x ≠ b → (t.bay x).clear = (s.bay x).clear)
    (hl : ∀ x, ∃ m, (t.bay x).lamp = { (s.bay x).lamp with latestStage := m }) (hb : SameBudgets s t) :
    TimerEnded b s t := ⟨hc, hl, hb, clock_of_frozen hf, settings_of_frozen hf, time_of_frozen hf⟩

theorem onlyIf {c : Bool} {g : State → State} (hg : TimerEnded b s (g s)) : TimerEnded b s (onlyIf c g s) := by
  cases c with
  | true => exact hg
  | false => exact refl

end TimerEnded

theorem lamp_unmoved (h : t.engineView = s.engineView) : ∃ m, (t.bay x).lamp = { (s.bay x).lamp with latestStage := m } :=
  ⟨_, lamp_of_view h x⟩

/-- The record of a release that ends, and its relatch, are the bay's own. -/
theorem relatchAfter_clear {o : Bool} {g : ClearRec → ClearRec} (h : x ≠ b) :
    ((relatchAfter o b (updClear b g s)).bay x).clear = (s.bay x).clear := by
  unfold relatchAfter
  split
  · rw [askClose_bay_ne h, updClear_bay_ne h, updClear_bay_ne h]
  · rw [updClear_bay_ne h]

theorem endRelease_timer {state : ClearState} {reasons : ReasonSet} :
    TimerEnded b s (endRelease b state reasons s) := by
  refine .of_frozen (endRelease_keeps b state reasons s).1 (fun x hx => ?_) (fun x => ?_) ?_
  all_goals rw [endRelease_eq]
  · have told : ∀ y, (releaseTold b y).clearsView = y.clearsView := fun y => by simp [releaseTold, postClearance]
    rw [clear_of_view (told _)]
    exact relatchAfter_clear hx
  all_goals
    have before : (relatchAfter (mayBeOpen (s.bay b).clear) b (updClear b (ClearRec.ended state reasons) s)).engineView =
        s.engineView ∧
      (relatchAfter (mayBeOpen (s.bay b).clear) b (updClear b (ClearRec.ended state reasons) s)).booksView =
        s.booksView := by simp
    generalize relatchAfter (mayBeOpen (s.bay b).clear) b (updClear b (ClearRec.ended state reasons) s) = y at before ⊢
    obtain ⟨engine, books⟩ := before
    have posted : (postClearance b (disownOpen b (withdrawOpen b y))).engineView = y.engineView ∧
        (postClearance b (disownOpen b (withdrawOpen b y))).booksView = y.booksView := by simp
    unfold releaseTold
    generalize postClearance b (disownOpen b (withdrawOpen b y)) = z at posted ⊢
    have planned : Plans z (judgePlan b z) := judgePlan_plans .refl
  · rw [lamp_of_view readerReleaseEnded_engine]
    obtain ⟨m, lamp⟩ := planned.lamp (b := x)
    exact ⟨m, by rw [lamp, lamp_of_view posted.1, lamp_of_view engine]⟩
  · have asked : SameBudgets (judgePlan b z) (readerReleaseEnded b (judgePlan b z)) := by
      have placed : Settled (judgePlan b z) (readerReleaseEnded b (judgePlan b z)) := by
        unfold readerReleaseEnded
        exact Settled.refl.onlyIf fun _ => placeTail_settled .refl
      exact placed.budgets
    have supply : z.supply = s.supply := (supply_of_view posted.2).trans (supply_of_view books)
    exact ((SameBudgets.of_supply supply).trans planned.budgets).trans asked

theorem endWindowIfDue_timer : TimerEnded b s (endWindowIfDue b s) := .onlyIf endRelease_timer

theorem endValidityIfDue_timer : TimerEnded b s (endValidityIfDue b s) := by
  have clears : ∀ x, x ≠ b → ((validityExpires b s).bay x).clear = (s.bay x).clear := fun x h =>
    congrArg BayRec.clear ((post_bay ..).trans (updClear_bay_ne h _ s))
  have views : (validityExpires b s).engineView = s.engineView ∧ (validityExpires b s).booksView = s.booksView := by simp
  have frozen : Frozen s (validityExpires b s) := by simp [Frozen]
  exact .onlyIf (.of_frozen frozen clears (fun _ => lamp_unmoved views.1) (.of_supply (supply_of_view views.2)))

/-! ### The timers against the settings -/

/-- The restore delay, where it runs, has not reached its end. -/
def restoreRuns (s : State) : Prop := ∀ m ∈ restoreEnd s, s.time < m

/-- The validity of a CLEARED clearance has not reached its end. -/
def validityRuns (s : State) (b : Bay) : Prop := (s.bay b).clear.state = .cleared → ∀ m ∈ validityEnd s b, s.time < m

/-- The window of a RELEASED clearance has not reached its end. -/
def windowRuns (s : State) (b : Bay) : Prop := (s.bay b).clear.state = .released → ∀ m ∈ windowEnd s b, s.time < m

theorem not_reached {m : Option Moment} (h : reached s m = false) : ∀ k ∈ m, s.time < k := by
  rintro k rfl
  simpa [reached] using h

theorem restoreRuns_congr (hb : SameBudgets s t) (hs : t.settings = s.settings) (ht : t.time = s.time)
    (h : restoreRuns s) : restoreRuns t := by
  unfold restoreRuns restoreEnd at *
  rw [hb.state, hb.restoreFrom, hs, ht]
  exact h

theorem validityRuns_congr (hc : (t.bay x).clear = (s.bay x).clear) (hs : t.settings = s.settings) (ht : t.time = s.time)
    (h : validityRuns s x) : validityRuns t x := by
  unfold validityRuns validityEnd at *
  rw [hc, hs, ht]
  exact h

theorem windowRuns_congr (hc : (t.bay x).clear = (s.bay x).clear) (hs : t.settings = s.settings) (ht : t.time = s.time)
    (h : windowRuns s x) : windowRuns t x := by
  unfold windowRuns windowEnd at *
  rw [hc, hs, ht]
  exact h

theorem marked_congr (hl : ∃ m, (t.bay x).lamp = { (s.bay x).lamp with latestStage := m }) (hc : t.clock = s.clock)
    (hs : t.settings = s.settings) (h : marked s x) : marked t x := by
  obtain ⟨m, hl⟩ := hl
  unfold marked isStale at *
  rw [hl, hc, hs]
  exact h

namespace TimerEnded

theorem restoreRuns (k : TimerEnded b s t) (h : restoreRuns s) : Machine.restoreRuns t :=
  restoreRuns_congr k.budgets k.settings k.time h

theorem marked (k : TimerEnded b s t) (h : marked s x) : Machine.marked t x :=
  marked_congr (k.lamps x) k.clock k.settings h

theorem validityRuns (k : TimerEnded b s t) (hx : x ≠ b) (h : validityRuns s x) : Machine.validityRuns t x :=
  validityRuns_congr (k.clears x hx) k.settings k.time h

theorem windowRuns (k : TimerEnded b s t) (hx : x ≠ b) (h : windowRuns s x) : Machine.windowRuns t x :=
  windowRuns_congr (k.clears x hx) k.settings k.time h

end TimerEnded

/-- A restore delay that has run ends at once. -/
theorem endRestoreIfDue_runs : restoreRuns (endRestoreIfDue s) := by
  unfold endRestoreIfDue onlyIf
  split
  · have switched := switchSupply_switched (state := .normal) (s := s)
    unfold restoreEnds restoreRuns restoreEnd
    rw [switched.state]
    exact fun m h => absurd h (by simp)
  case isFalse h => exact not_reached (by simpa using h)

/-- A clearance whose validity has run lapses at once. -/
theorem endValidityIfDue_runs : validityRuns (endValidityIfDue b s) b := by
  unfold endValidityIfDue onlyIf
  split
  · have lapsed : ((validityExpires b s).bay b).clear.state = .lapsed := by simp [validityExpires, postClearance]
    exact fun h => absurd (lapsed.symm.trans h) (by decide)
  case isFalse h =>
    intro hs
    rw [hs] at h
    exact not_reached (by simpa using h)

/-- A clearance whose window has run lapses at once. -/
theorem endWindowIfDue_runs : windowRuns (endWindowIfDue b s) b := by
  unfold endWindowIfDue onlyIf
  split
  · have lapsed : ((windowExpires b s).bay b).clear.state = .lapsed := endRelease_ended.state
    exact fun h => absurd (lapsed.symm.trans h) (by decide)
  case isFalse h =>
    intro hs
    rw [hs] at h
    exact not_reached (by simpa using h)

/-- No window that ends starts a validity. -/
theorem endWindowIfDue_validity (h : validityRuns s x) : validityRuns (endWindowIfDue b s) x := by
  by_cases hx : x = b
  · subst hx
    unfold endWindowIfDue onlyIf
    split
    · have lapsed : ((windowExpires x s).bay x).clear.state = .lapsed := endRelease_ended.state
      exact fun h => absurd (lapsed.symm.trans h) (by decide)
    · exact h
  · exact endWindowIfDue_timer.validityRuns hx h

/-! ### The settings applied (spec 09, R176, R178) -/

/-- What a step over all the bays keeps. -/
theorem overBays_keeps {P : State → Prop} {c : Bool} {g : Bay → State → State} (hg : ∀ y u, P u → P (g y u)) (h : P s) :
    P (onlyIf c (forAllBays g) s) := by
  cases c with
  | true => exact forAllBays_keeps (P := P) hg s h
  | false => exact h

/-- The restore delay judged. -/
def restoreJudged (f : SettingsPart) (s : State) : State := onlyIf f.restoreDelay.isSome endRestoreIfDue (writeSettings f s)

/-- The stale marks judged. -/
def marksJudged (f : SettingsPart) (s : State) : State :=
  onlyIf f.lampValidity.isSome (forAllBays judgeStale) (restoreJudged f s)

/-- The validities judged. -/
def validitiesJudged (f : SettingsPart) (s : State) : State :=
  onlyIf f.clearanceValidity.isSome (forAllBays endValidityIfDue) (marksJudged f s)

theorem applySettings_eq :
    applySettings f s = onlyIf f.releaseWindow.isSome (forAllBays endWindowIfDue) (validitiesJudged f s) := rfl

theorem applySettings_settings : (applySettings f s).settings = (writeSettings f s).settings := by
  have restored : (restoreJudged f s).settings = (writeSettings f s).settings :=
    settings_of_frozen (by simp [restoreJudged, Frozen])
  have stale : (marksJudged f s).settings = (restoreJudged f s).settings :=
    settings_of_frozen (by simp [marksJudged, Frozen])
  have lapsed : (validitiesJudged f s).settings = (marksJudged f s).settings :=
    settings_of_frozen (by simp [validitiesJudged, Frozen])
  have closed : (applySettings f s).settings = (validitiesJudged f s).settings :=
    settings_of_frozen (by rw [applySettings_eq]; simp [Frozen])
  rw [closed, lapsed, stale, restored]

theorem applySettings_restoreRuns (h : f.restoreDelay.isSome = true) : restoreRuns (applySettings f s) := by
  have judged : restoreRuns (restoreJudged f s) := by
    unfold restoreJudged
    rw [h]
    exact endRestoreIfDue_runs
  have stale : restoreRuns (marksJudged f s) := overBays_keeps (fun y u hu => restoreRuns_congr
    (.of_supply (supply_of_view (by simp))) judgeStale_settings (time_of_frozen (judgeStale_keeps y u).1) hu) judged
  have lapsed : restoreRuns (validitiesJudged f s) :=
    overBays_keeps (fun _ _ hu => endValidityIfDue_timer.restoreRuns hu) stale
  exact overBays_keeps (fun _ _ hu => endWindowIfDue_timer.restoreRuns hu) lapsed

/-- Each bay's stale mark is judged. -/
theorem forAllBays_marked : marked (forAllBays judgeStale s) x :=
  forAllBays_each (P := marked) (fun _ _ => judgeStale_marked) (fun _ _ _ => judgeStale_others) x

theorem forAllBays_validityRuns : validityRuns (forAllBays endValidityIfDue s) x := by
  refine forAllBays_each (P := validityRuns) (fun _ _ => endValidityIfDue_runs) (fun b y u hu => ?_) x
  by_cases hy : y = b
  · rw [hy]
    exact endValidityIfDue_runs
  · exact endValidityIfDue_timer.validityRuns hy hu

theorem forAllBays_windowRuns : windowRuns (forAllBays endWindowIfDue s) x := by
  refine forAllBays_each (P := windowRuns) (fun _ _ => endWindowIfDue_runs) (fun b y u hu => ?_) x
  by_cases hy : y = b
  · rw [hy]
    exact endWindowIfDue_runs
  · exact endWindowIfDue_timer.windowRuns hy hu

theorem applySettings_marked (h : f.lampValidity.isSome = true) : marked (applySettings f s) x := by
  have judged : marked (marksJudged f s) x := by
    unfold marksJudged
    rw [h, onlyIf_true]
    exact forAllBays_marked
  have lapsed : marked (validitiesJudged f s) x := by
    unfold validitiesJudged
    exact overBays_keeps (P := fun u => marked u x) (fun _ _ hu => endValidityIfDue_timer.marked hu) judged
  rw [applySettings_eq]
  exact overBays_keeps (P := fun u => marked u x) (fun _ _ hu => endWindowIfDue_timer.marked hu) lapsed

theorem applySettings_validityRuns (h : f.clearanceValidity.isSome = true) : validityRuns (applySettings f s) x := by
  have judged : validityRuns (validitiesJudged f s) x := by
    unfold validitiesJudged
    rw [h, onlyIf_true]
    exact forAllBays_validityRuns
  rw [applySettings_eq]
  exact overBays_keeps (P := fun u => validityRuns u x) (fun _ _ hu => endWindowIfDue_validity hu) judged

theorem applySettings_windowRuns (h : f.releaseWindow.isSome = true) : windowRuns (applySettings f s) x := by
  rw [applySettings_eq, h, onlyIf_true]
  exact forAllBays_windowRuns

theorem applySettings_none : applySettings noSettings s = s := rfl

/-! ### CONFIGURE_BAY with depot settings (spec 09, R176) -/

theorem exec_depotSettings (ht : takes .schedule s) :
    exec (.configureBayDepotSettings .schedule 255 f) s =
      .next (pollsHeld s (answerPort .schedule
        { echo := 5, result := .done, payload := settingsBytes (applySettings f s) } (applySettings f s))) :=
  exec_done rfl rfl ht rfl rfl

theorem settingsBytes_congr (h : t.settings = s.settings) : settingsBytes t = settingsBytes s := by
  unfold settingsBytes
  rw [h]

end

/-- Settles O19: each setting written is judged against every timer it bounds, and no later judgement undoes one before. -/
theorem depotSettingsAreClampedAndTakenAtOnce : Obligations.DepotSettingsAreClampedAndTakenAtOnce := by
  unfold Obligations.DepotSettingsAreClampedAndTakenAtOnce
  intro f s ht
  have written : (applySettings f s).settings = (writeSettings f s).settings := applySettings_settings
  have restore := applySettings_restoreRuns (f := f) (s := s)
  have stale := fun x => applySettings_marked (f := f) (s := s) (x := x)
  have validity := fun x => applySettings_validityRuns (f := f) (s := s) (x := x)
  have window := fun x => applySettings_windowRuns (f := f) (s := s) (x := x)
  obtain ⟨-, -, -, ⟨-, tables⟩, pool⟩ := applySettings_keeps f s
  refine ⟨_, exec_depotSettings ht, ?_, ?_, fun h => ?_, fun b => ⟨?_, ?_, fun h => ?_, fun h => ?_, fun h => ?_⟩, ?_⟩
  case refine_9 =>
    rintro rfl
    rw [applySettings_none]
    exact pollsHeld_of_period fun _ => rfl
  all_goals generalize applySettings f s = y at *
  · have bytes : settingsBytes (pollsHeld s (answerPort .schedule
        { echo := 5, result := .done, payload := settingsBytes y } y)) = settingsBytes y :=
      settingsBytes_congr (pollsHeld_settings ..)
    rw [bytes]
    exact answered_polled
  · rw [pollsHeld_settings]
    exact written
  · exact restoreRuns_congr (.of_supply (pollsHeld_supply ..)) (pollsHeld_settings ..) (pollsHeld_time ..) (restore h)
  · rw [pollsHeld_table]
    exact table_of_view tables b
  · rw [pollsHeld_faults]
    exact faults_of_view pool b
  · exact marked_congr ⟨_, pollsHeld_lamp ..⟩ (pollsHeld_clock ..) (pollsHeld_settings ..) (stale b h)
  · exact validityRuns_congr (pollsHeld_clear ..) (pollsHeld_settings ..) (pollsHeld_time ..) (validity b h)
  · exact windowRuns_congr (pollsHeld_clear ..) (pollsHeld_settings ..) (pollsHeld_time ..) (window b h)

end Sys2Proof.Machine
end

section
/-! PROOF. The frames of a chip-select period, and what is done with no command waiting (spec 09, R171 to R173, R182; spec
00, Time and order). -/

namespace Sys2Proof.Machine

section
variable {s t : State} {p : Port} {a : Bool} {length kind bay : Byte} {payload rest short : List Byte} {body : Body}
  {r : Response} {c : Instr} {n : Nat}

/-! ### One port -/

/-- Two changes of one port are one. -/
theorem updPort_updPort {f g : PortRec → PortRec} : updPort p f (updPort p g s) = updPort p (f ∘ g) s := by
  have port : (updPort p g s).port p = g (s.port p) := updPort_port_self p g s
  unfold updPort at port ⊢
  rw [port]
  simp

/-- A port as bytes are clocked out of it in a period (spec 09, R171). -/
def clockedOut (p : Port) (count : Nat) (s : State) : State :=
  updPort p (fun x => { x with shiftedOut := x.image.take count }) s

/-- An answer replaces the state the period leaves its port in. -/
theorem answerPort_shiftOut {count : Nat} : answerPort p r (shiftOut p count s) = answerPort p r (clockedOut p count s) := by
  unfold answerPort shiftOut clockedOut
  rw [updPort_updPort, updPort_updPort]
  rfl

/-- The request of a good frame in work. -/
theorem inWork_shiftOut {count : Nat} {q : Request} :
    updPort p (fun x => { x with state := .working, inWork := some q, response := none }) (shiftOut p count s) =
      updPort p
        (fun x => { x with
          state := .working, inWork := some q, response := none, shiftedOut := x.image.take count }) s := by
  unfold shiftOut
  rw [updPort_updPort]
  rfl

/-! ### The period -/

/-- A period moves no poll class. -/
theorem exec_chipSelect_updPort {f : PortRec → PortRec} {bytes : List Byte} (h : chipSelect p a bytes s = updPort p f s) :
    exec (.chipSelectPeriod p a bytes) s = .next (updPort p f s) := by
  have held : pollsHeld s (updPort p f s) = updPort p f s := pollsHeld_of_period fun _ => rfl
  show carryOut (chipSelect p a bytes) s = _
  rw [carryOut_eq, h, held]

/-- A frame that is answered at once. -/
theorem exec_chipSelect_answered {bytes : List Byte}
    (h : chipSelect p a bytes s = answerPort p r (shiftOut p bytes.length s)) :
    exec (.chipSelectPeriod p a bytes) s = .next (answerPort p r (clockedOut p bytes.length s)) := by
  have once : answerPort p r (clockedOut p bytes.length s) =
      updPort p
        ((fun q => { q with state := .ready, inWork := none, response := some r }) ∘
          fun x => { x with shiftedOut := x.image.take bytes.length }) s := updPort_updPort
  rw [answerPort_shiftOut, once] at h
  rw [exec_chipSelect_updPort h, once]

theorem exec_chipSelect_inReset (h : s.inReset = true) : exec (.chipSelectPeriod p a short) s = .next s := by
  have stays : chipSelect p a short s = s := if_pos h
  show carryOut (chipSelect p a short) s = _
  rw [carryOut_eq, stays, pollsHeld_self]

/-- Out of reset, on a port that is not WORKING, the bytes are judged as a frame. -/
theorem chipSelect_judges {bytes : List Byte} (hreset : s.inReset = false) (hp : (s.port p).state ≠ .working) :
    chipSelect p a bytes s = judgeFrame p bytes (shiftOut p bytes.length s) := by
  unfold chipSelect
  rw [hreset, if_neg Bool.false_ne_true, if_neg hp]

/-! ### The checks of a frame (spec 09, R172, R173) -/

/-- A frame shorter than it says, or longer than a request may be. -/
theorem judgeFrame_bad (h0 : length.toNat ≠ 0) (h : 116 < length.toNat ∨ short.length < length.toNat) :
    judgeFrame p (length :: short) s = answerPort p { echo := 0, result := .badFrame, payload := [] } s := by
  unfold judgeFrame
  dsimp only
  rw [if_neg h0]
  exact if_pos h

/-- A frame that is all there, whatever follows it. -/
theorem judgeFrame_complete (hl : length.toNat = payload.length + 2) (hm : length.toNat ≤ 116) :
    judgeFrame p (length :: kind :: bay :: (payload ++ rest)) s = judgeComplete p (kind :: bay :: payload) s := by
  have whole : (kind :: bay :: (payload ++ rest)).take length.toNat = kind :: bay :: payload := by
    rw [hl]
    simp
  have fits : ¬(maxRequest < length.toNat ∨ (kind :: bay :: (payload ++ rest)).length < length.toNat) := by
    have most : maxRequest = 116 := rfl
    rw [most]
    simp only [List.length_cons, List.length_append]
    omega
  unfold judgeFrame
  dsimp only
  rw [if_neg (by omega), if_neg fits, whole]

/-- A frame of length 1: the kind alone (the model's choice, log entry 39). -/
theorem judgeFrame_kindAlone : judgeFrame p (0x01#8 :: kind :: rest) s = judgeComplete p [kind] s := by
  have fits : ¬(maxRequest < (0x01#8 : Byte).toNat ∨ (kind :: rest).length < (0x01#8 : Byte).toNat) := by
    have most : maxRequest = 116 := rfl
    have one : (0x01#8 : Byte).toNat = 1 := rfl
    rw [most, one, List.length_cons]
    omega
  unfold judgeFrame
  dsimp only
  rw [if_neg (by decide), if_neg fits]
  rfl

theorem judgeComplete_unknown (h : kind.toNat = 0 ∨ 27 < kind.toNat) {frame : List Byte} :
    judgeComplete p (kind :: frame) s =
      answerPort p { echo := kind.toNat, result := .unknownRequest, payload := [] } s := if_pos h

theorem judgeComplete_known (h1 : 1 ≤ kind.toNat) (h2 : kind.toNat ≤ 27) :
    judgeComplete p (kind :: bay :: payload) s =
      judgeBody p kind.toNat bay.toNat (parseBody kind.toNat payload) s := if_neg (by omega)

theorem judgeComplete_kindAlone (h1 : 1 ≤ kind.toNat) (h2 : kind.toNat ≤ 27) :
    judgeComplete p [kind] s = answerPort p { echo := kind.toNat, result := .badFrame, payload := [] } s :=
  if_neg (by omega)

/-! ### The frames of the statement -/

/-- The bytes of a period that clocks in a frame and what follows it. -/
theorem frameBytes_length : (length :: kind :: bay :: (payload ++ rest)).length = payload.length + rest.length + 3 := by
  simp only [List.length_cons, List.length_append]

theorem frame_taken (hreset : s.inReset = false) (hp : (s.port p).state ≠ .working)
    (hl : length.toNat = payload.length + 2) (hm : length.toNat ≤ 116) (h1 : 1 ≤ kind.toNat) (h2 : kind.toNat ≤ 27)
    (hb : parseBody kind.toNat payload = some body) (hperm : permitted p kind.toNat = true)
    (hbay : bayFieldGood kind.toNat bay.toNat = true) :
    exec (.chipSelectPeriod p a (length :: kind :: bay :: (payload ++ rest))) s =
      .next (updPort p
        (fun x => { x with
          state := .working
          inWork := some { bay := bay.toNat, body := body }
          response := none
          shiftedOut := x.image.take (payload.length + rest.length + 3) })
        s) := by
  refine exec_chipSelect_updPort ?_
  rw [chipSelect_judges hreset hp, judgeFrame_complete hl hm, judgeComplete_known h1 h2, hb, frameBytes_length,
    ← inWork_shiftOut]
  unfold judgeBody
  dsimp only
  rw [hperm, hbay]
  rfl

theorem frame_short (hreset : s.inReset = false) (hp : (s.port p).state ≠ .working) (h0 : length.toNat ≠ 0)
    (h : 116 < length.toNat ∨ short.length < length.toNat) :
    exec (.chipSelectPeriod p a (length :: short)) s =
      .next (answerPort p { echo := 0, result := .badFrame, payload := [] }
        (updPort p (fun x => { x with shiftedOut := x.image.take (short.length + 1) }) s)) :=
  exec_chipSelect_answered (by rw [chipSelect_judges hreset hp, judgeFrame_bad h0 h])

theorem frame_unknown (hreset : s.inReset = false) (hp : (s.port p).state ≠ .working)
    (hl : length.toNat = payload.length + 2) (hm : length.toNat ≤ 116) (hk : kind.toNat = 0 ∨ 27 < kind.toNat) :
    exec (.chipSelectPeriod p a (length :: kind :: bay :: (payload ++ rest))) s =
      .next (answerPort p { echo := kind.toNat, result := .unknownRequest, payload := [] }
        (updPort p (fun x => { x with shiftedOut := x.image.take (payload.length + rest.length + 3) }) s)) := by
  rw [← frameBytes_length (length := length) (kind := kind) (bay := bay)]
  refine exec_chipSelect_answered ?_
  rw [chipSelect_judges hreset hp, judgeFrame_complete hl hm, judgeComplete_unknown hk]

theorem frame_unparsed (hreset : s.inReset = false) (hp : (s.port p).state ≠ .working)
    (hl : length.toNat = payload.length + 2) (hm : length.toNat ≤ 116) (h1 : 1 ≤ kind.toNat) (h2 : kind.toNat ≤ 27)
    (hb : parseBody kind.toNat payload = none) :
    exec (.chipSelectPeriod p a (length :: kind :: bay :: (payload ++ rest))) s =
      .next (answerPort p { echo := kind.toNat, result := .badFrame, payload := [] }
        (updPort p (fun x => { x with shiftedOut := x.image.take (payload.length + rest.length + 3) }) s)) := by
  rw [← frameBytes_length (length := length) (kind := kind) (bay := bay)]
  refine exec_chipSelect_answered ?_
  rw [chipSelect_judges hreset hp, judgeFrame_complete hl hm, judgeComplete_known h1 h2, hb]
  rfl

theorem frame_kindAlone (hreset : s.inReset = false) (hp : (s.port p).state ≠ .working) (h1 : 1 ≤ kind.toNat)
    (h2 : kind.toNat ≤ 27) :
    exec (.chipSelectPeriod p a (0x01#8 :: kind :: rest)) s =
      .next (answerPort p { echo := kind.toNat, result := .badFrame, payload := [] }
        (updPort p (fun x => { x with shiftedOut := x.image.take (rest.length + 2) }) s)) :=
  exec_chipSelect_answered
    (by rw [chipSelect_judges hreset hp, judgeFrame_kindAlone, judgeComplete_kindAlone h1 h2])

/-! ### With no command waiting (spec 00, Time and order) -/

theorem step_idle (hq : s.pending = []) : step s = .next (idle s) := by
  unfold step
  rw [hq]

theorem step_idle_inReset (hq : s.pending = []) (hreset : s.inReset = true) : step s = .next s := by
  have stays : idle s = s := if_pos hreset
  rw [step_idle hq, stays]

theorem idle_outOfReset (hreset : s.inReset = false) :
    idle s = pollsHeld s ((ownEvents.findSome? fun e => e s).getD { s with time := s.time + 1000 }) := by
  have millisecond : Config.ms = 1000 := rfl
  rw [← millisecond]
  exact if_neg (by rw [hreset]; decide)

/-- Out of reset the first event that is due is done. -/
theorem step_event (hq : s.pending = []) (hreset : s.inReset = false)
    (h : (ownEvents.findSome? fun e => e s) = some t) : step s = .next (pollsHeld s t) := by
  rw [step_idle hq, idle_outOfReset hreset, h]
  rfl

theorem workDue_working (h : (s.port p).state = .working) : workDue p s = some (takeInWork p s) := if_pos h

theorem workDue_idle (h : (s.port p).state ≠ .working) : workDue p s = none := if_neg h

/-- The work of the ports comes first, then the timebase. -/
theorem ownEvents_begin : ∃ later, ownEvents =
    workDue .schedule :: workDue .dispatch :: workDue .workshop ::
      (fun s => whenDue (some (s.lastSecond + Config.sec)) secondsTick s) :: later := ⟨_, rfl⟩

section
variable {e : State → Option State} {later : List (State → Option State)}

/-- The first event of a list, where it is due. -/
theorem firstDue_head (h : e s = some t) : ((e :: later).findSome? fun e => e s) = some t := by
  rw [List.findSome?_cons, h]

theorem firstDue_tail (h : e s = none) : ((e :: later).findSome? fun e => e s) = later.findSome? fun e => e s := by
  rw [List.findSome?_cons, h]

end

/-- The first WORKING port's owner is the first event that is due. -/
theorem ownEvents_work (hw : (s.port p).state = .working) (h1 : p ≠ .schedule → (s.port .schedule).state ≠ .working)
    (h2 : p = .workshop → (s.port .dispatch).state ≠ .working) :
    (ownEvents.findSome? fun e => e s) = some (takeInWork p s) := by
  obtain ⟨later, events⟩ := ownEvents_begin
  rw [events]
  cases p with
  | schedule => exact firstDue_head (workDue_working hw)
  | dispatch =>
    rw [firstDue_tail (workDue_idle (h1 (by decide)))]
    exact firstDue_head (workDue_working hw)
  | workshop =>
    rw [firstDue_tail (workDue_idle (h1 (by decide))), firstDue_tail (workDue_idle (h2 rfl))]
    exact firstDue_head (workDue_working hw)

theorem step_work (hq : s.pending = []) (hreset : s.inReset = false) (hc : requestOf c = some (p, n, body))
    (hw : (s.port p).state = .working) (hr : (s.port p).inWork = some { bay := n, body := body })
    (h1 : p ≠ .schedule → (s.port .schedule).state ≠ .working)
    (h2 : p = .workshop → (s.port .dispatch).state ≠ .working) : step s = exec c s := by
  have taken : portRequest p n body s = takeInWork p s := by
    unfold portRequest
    rw [hreset, if_neg Bool.false_ne_true, if_pos hw, if_pos hr]
  rw [step_event hq hreset (ownEvents_work hw h1 h2), exec_of_requestOf hc, carryOut_eq, taken]

theorem reached_some {m : Moment} : reached s (some m) = decide (m ≤ s.time) := rfl

/-- With no port WORKING the timebase comes first. -/
theorem step_second (hq : s.pending = []) (hreset : s.inReset = false) (hp : ∀ q : Port, (s.port q).state ≠ .working)
    (ht : s.lastSecond + 1000000 ≤ s.time) : step s = exec .secondsTick s := by
  have second : Config.sec = 1000000 := rfl
  have ended : reached s (some (s.lastSecond + Config.sec)) = true := by
    rw [reached_some, second]
    exact decide_eq_true ht
  have tick : whenDue (some (s.lastSecond + Config.sec)) secondsTick s = some (secondsTick s) := if_pos ended
  have due : (ownEvents.findSome? fun e => e s) = some (secondsTick s) := by
    obtain ⟨later, events⟩ := ownEvents_begin
    rw [events, firstDue_tail (workDue_idle (hp _)), firstDue_tail (workDue_idle (hp _)),
      firstDue_tail (workDue_idle (hp _))]
    exact firstDue_head tick
  rw [step_event hq hreset due, exec_secondsTick hreset]

/-- With nothing due a millisecond passes, and no poll class moves. -/
theorem step_millisecond (hq : s.pending = []) (hreset : s.inReset = false) (hn : ∀ e ∈ ownEvents, e s = none) :
    step s = .next { s with time := s.time + 1000 } := by
  have none_due : (ownEvents.findSome? fun e => e s) = none := List.findSome?_eq_none_iff.mpr hn
  have held : pollsHeld s { s with time := s.time + 1000 } = { s with time := s.time + 1000 } :=
    pollsHeld_of_period fun _ => rfl
  rw [step_idle hq, idle_outOfReset hreset, none_due]
  exact congrArg Host.Outcome.next held

end

/-- Settles O13: each check of a frame in its turn, and the events of the part's own in theirs. -/
theorem requestFramesAreCheckedAndWorkIsDoneOnAnEmptyQueue :
    Obligations.RequestFramesAreCheckedAndWorkIsDoneOnAnEmptyQueue := by
  unfold Obligations.RequestFramesAreCheckedAndWorkIsDoneOnAnEmptyQueue
  intro p a length kind bay payload rest short body c n s
  refine ⟨fun hreset hp => ⟨frame_taken hreset hp, frame_short hreset hp, frame_unknown hreset hp,
    frame_unparsed hreset hp, frame_kindAlone hreset hp⟩, exec_chipSelect_inReset, fun hq hreset => ?_, step_idle_inReset⟩
  exact ⟨step_work hq hreset, step_second hq hreset, step_millisecond hq hreset⟩

end Sys2Proof.Machine
end
